-- ==== Sys2Proof/Word.lean ====
section
/-! DEFINITION. The word types of the SP-6720 model and their plainest arithmetic. -/
namespace Sys2Proof

/-- A byte of a frame, a table or a memory. -/
abbrev Byte := BitVec 8

/-- A 32-bit register or table word (R5). -/
abbrev Word := BitVec 32

/-- A 64-bit word: a Gristo instruction word, a table result, a Gneiss register. -/
abbrev DWord := BitVec 64

end Sys2Proof
end

