-- ==== Sys2Proof/Syntax.lean ====
section
/-! DEFINITION. The commands of the block: one constructor per row of spec/opcode_table.json, with the
operands that the row's event or host access brings from outside the device. Numbers that range over a
fixed set of units are `Fin`, so that no command can name a unit the device does not have. -/
namespace Sys2Proof

/-- A Flint thread: cluster C0-C15, engine E0-E31, thread 0-3 (R66). -/
structure ThreadId where
  cl : Fin 16
  eng : Fin 32
  thr : Fin 4
deriving DecidableEq, Repr

/-- A fragment of a preempted frame as the receive MAC sees it (R58). -/
structure Fragment where
  /-- the fragment starts a frame -/
  start : Bool
  /-- fragment count of a continuation, modulo 4 -/
  count : BitVec 2
  /-- the fragment ends the frame -/
  final : Bool
  /-- the fragment's mCRC is right (always so for the last fragment's FCS field) -/
  mcrcOk : Bool
  /-- the fragment contains a PCS error symbol, or spans an FEC codeword that could not be corrected (R33) -/
  codeErr : Bool := false
  data : List Byte
deriving DecidableEq, Repr

/-- What the control-store check bits say of a fetched Gneiss word (R413). -/
inductive Ecc where
  | clean
  | single
  | double
deriving DecidableEq, Repr

/-- What may swap at a swap instant: one port's sets, the WRED profiles or the policer profiles (R263). -/
inductive SwapTarget where
  | port (p : Fin 96)
  | wred
  | policer
deriving DecidableEq, Repr

/-- The reference clocks whose loss R446 describes, TREF apart. -/
inductive RefClk where
  | sys
  | pcie
  | sd (k : Fin 4)
deriving DecidableEq, Repr

/-- The straps sampled at reset (R444). -/
structure Straps where
  devid : BitVec 6
  twinRole : Bool
  bootSrc : BitVec 2
  pcieWidth : Bool
deriving DecidableEq, Repr

/-- The action of a Mica pattern, in rank order of R169: pass, mirror, host, drop. -/
inductive PatAction where
  | pass
  | mirror
  | host
  | drop
deriving DecidableEq, Repr

/-- One element of a pattern: it matches exactly one payload byte (R157). -/
inductive PatElem where
  | lit (b : Byte)
  /-- a letter in either case -/
  | caseless (b : Byte)
  /-- any byte of the listed ranges -/
  | cls (ranges : List (Byte × Byte))
  /-- any byte outside the listed ranges -/
  | notCls (ranges : List (Byte × Byte))
  | wild
deriving DecidableEq, Repr

/-- What a host read is addressed to (R382): BAR0 of PF0, BAR0 of PF1, or the BAR2 window of PF0. -/
inductive HostSpace where
  | pf0
  | pf1
  | bar2
deriving DecidableEq, Repr

/-- One pattern of a compiled set (R157, R158). -/
structure Pattern where
  number : BitVec 18
  action : PatAction
  record : Bool
  /-- anchor: first and last payload offset at which a match may begin -/
  anchor : Option (Nat × Nat)
  body : List PatElem
deriving DecidableEq, Repr

/-- A gristc image as the device finds it in host memory (R159). Its byte format is not the manual's. -/
structure MicaImage where
  /-- CRC-32C of the image bytes -/
  crc : Word
  /-- produced for the SP-6720 -/
  forPart : Bool
  /-- the image's bytes -/
  bytes : List Byte
  patterns : List Pattern
deriving DecidableEq, Repr

/-- A route record of P_UPDATE (R397). -/
structure RouteRec where
  pfx : BitVec 128
  result : DWord
  vrf : BitVec 12
  len : Byte
  v6 : Bool
  delete : Bool
deriving DecidableEq, Repr

/-- A transmit descriptor of a host-port ring, as fetched (R386). -/
structure TxDesc where
  eop : Bool
  echo : Bool
  tso : Bool
  len : Nat
  hdrLen : Nat
  mss : Nat
  cookie : Word
deriving DecidableEq, Repr

/-- A receive buffer descriptor as the device finds it at HEAD (R388). -/
structure RxBuf where
  addr : Nat
  size : Nat
deriving DecidableEq, Repr

/-- A record of the twin state delta (R371). -/
inductive DeltaRec where
  /-- a_d and N_d of D0-D3 at the heartbeat's LT -/
  | quartz (adj : List (BitVec 40)) (cnt : List (BitVec 96))
  | identifiers (active retiring : Option (Fin 16)) (sets : BitVec 96)
  | frerGen (stream : BitVec 16) (count : BitVec 16)
  | frerRecovery (stream : BitVec 16) (hist : DWord)
  | learn (profile : Fin 16) (key : BitVec 128) (result : DWord)
  | ageOut (profile : Fin 16) (key : BitVec 128)
  | meter (index : BitVec 18) (tc te : Nat)
  | shaper (port : Fin 96) (queue : Option (Fin 15)) (bucket : Int)
  | flow (index : BitVec 19) (frames octets : Nat)
  /-- the last record of a full copy (R372) -/
  | fullCopyEnd
deriving DecidableEq, Repr

/-- An edge offered to a TIN input, and the nanoseconds for which the level holds after it (R308). -/
structure TinEdge where
  rising : Bool
  held : Nat
deriving DecidableEq, Repr

/-- The fall of a port's link (R64, R266): its lane is lost, or its partner sends the remote fault sequence. -/
structure LinkFall where
  port : Fin 96
  remote : Bool
deriving DecidableEq, Repr

/-- The commands: the rows of spec/opcode_table.json. -/
inductive Instr where
  -- ports (chapter 02, 10)
  | frameReceiveStart (port : Fin 96) (bytes : List Byte) (codeErr : Bool)
  | frameReceiveEnd (port : Fin 96)
  | portEnable (port : Fin 96) (cfg : Word)
  | portDisable (port : Fin 96) (cfg : Word)
  | linkDown (fall : LinkFall)
  | linkUp (port : Fin 96) (sgmii : Fin 3)
  | linkHoldExpire (port : Fin 96)
  | anRestart (port : Fin 96)
  | autonegEnd (port : Fin 96) (common : Bool) (sgmii : Fin 3)
  | underrun (port : Fin 96)
  | ctRelease (port : Fin 96)
  | pauseFrameReceive (port : Fin 96) (quanta : BitVec 16)
  | pfcFrameReceive (port : Fin 96) (enable : BitVec 8) (times : List (BitVec 16))
  | pauseTimerExpire (port : Fin 96) (k : Fin 9)
  | flowControlSend (port : Fin 96) (k : Fin 9)
  | flowControlRepeat (port : Fin 96) (k : Fin 9)
  | pauseWatchdogTrip (port : Fin 96) (k : Fin 9)
  | watchdogHoldEnd (port : Fin 96) (k : Fin 9)
  | preemptVerifyTimer (port : Fin 96)
  | preemptVerifyResponse (port : Fin 96)
  | fragmentReceive (port : Fin 96) (frag : Fragment)
  | mdioGo (bus : Fin 2) (cmd : Word)
  | mdioOperationEnd (bus : Fin 2) (rdata : BitVec 16)
  -- dispatch and engines (chapter 03)
  | dispatchEntryWrite (blk : Fin 16) (bedrock : Bool)
  | threadDispatch (cl : Fin 16) (bedrock : Bool)
  | steal (cl : Fin 16) (eng : Fin 32)
  | engineRoleChange (cl : Fin 16) (eng : Fin 32)
  -- Gristo instructions issued by a thread (chapter 04)
  | add (t : ThreadId)
  | sub (t : ThreadId)
  | and (t : ThreadId)
  | or (t : ThreadId)
  | xor (t : ThreadId)
  | shl (t : ThreadId)
  | shr (t : ThreadId)
  | min (t : ThreadId)
  | max (t : ThreadId)
  | mov (t : ThreadId)
  | movi (t : ThreadId)
  | cmp (t : ThreadId)
  | sel (t : ThreadId)
  | ext (t : ThreadId)
  | ins (t : ThreadId)
  | extm (t : ThreadId)
  | insm (t : ThreadId)
  | hpush (t : ThreadId)
  | hpop (t : ThreadId)
  | hcopy (t : ThreadId)
  | br (t : ThreadId)
  | jmp (t : ThreadId)
  | call (t : ThreadId)
  | ret (t : ThreadId)
  | endPass (t : ThreadId)
  | lkx (t : ThreadId)
  | lkp (t : ThreadId)
  | lkt (t : ThreadId)
  | lkd (t : ThreadId)
  | lkw (t : ThreadId)
  | lkc (t : ThreadId)
  /-- the answer to the request of number `req` arrives -/
  | lookupAnswer (req : Nat)
  | hsh (t : ThreadId)
  | mtr (t : ThreadId)
  | cnt (t : ThreadId)
  | learn (t : ThreadId)
  | fwd (t : ThreadId)
  | mcast (t : ThreadId)
  | drop (t : ThreadId)
  | mirr (t : ThreadId)
  | host (t : ThreadId)
  | recirc (t : ThreadId)
  | scan (t : ThreadId)
  | seqg (t : ThreadId)
  | seqr (t : ThreadId)
  | stamp (t : ThreadId)
  | csum (t : ThreadId)
  -- sieve and Mica (chapters 03, 06)
  | sieveRelease (blk : Fin 16) (frame : Nat)
  | sieveLate (blk : Fin 16) (stream : Fin 256)
  /-- `tileErr`: which of the tiles that the scan reads, counted from its first, fails its checksum (R240) -/
  | scanStart (blk : Fin 16) (scanner : Fin 16) (lane : Fin 16) (tileErr : Option Nat)
  | coldStateFetchEnd (scanner : Fin 16) (lane : Fin 16)
  /-- `tileErr`: which of the tiles that the scan reads, counted from its first, fails its checksum (R240) -/
  | scanVerdict (scanner : Fin 16) (lane : Fin 16) (tileErr : Option Nat)
  | scanHoldLimit (frame : Nat)
  | scannerEnable (scanner : Fin 16) (value : Word)
  | micaLoad (slot : Fin 4096) (image : MicaImage)
  -- rule sets (chapter 05)
  | rsCommit (slot : Fin 4096)
  | commitProceed
  | commitImageLoaded (image : List DWord)
  | rsSwitch
  | rsRetireSlow
  | retirementWalkStart
  | retirementWalkEnd
  | parameterBankWrite (offset : Fin 131072) (value : Word)
  | slateTControlWrite (position : Fin 32768) (value : Word)
  | sltTBankWrite (bank : Fin 8) (value : Word)
  -- Slate (chapter 07)
  | slateXControlWrite (slot : Fin 1048576) (value : Word)
  | slateDHighWrite (index : Fin 524288) (value : Word)
  | replicationWord3Write (entry : Fin 69632) (value : Word)
  | bar2Write (offset : Fin 1073741824) (value : Word)
  | learnRequestServe
  | ageingSweepStart
  | agerBucketRead
  | scrubRead
  | lockTake (way : Fin 2) (region : Fin 32)
  | lockEffect (way : Fin 2) (region : Fin 32)
  | lockRelease (way : Fin 2) (region : Fin 32)
  | slateLockExpired (way : Fin 2) (region : Fin 32)
  | xInsert (slot : Fin 4096)
  | xDelete (slot : Fin 4096)
  | xFlush (slot : Fin 4096)
  | pUpdate (slot : Fin 4096) (records : List RouteRec)
  | nodeFree (node : Fin 12288)
  | tblRead (slot : Fin 4096)
  | tblWrite (slot : Fin 4096) (data : List Byte)
  -- Ridge (chapter 08)
  /-- `tileErr`: the read of the ingress tile fails its checksum (R240) -/
  | stage1ShingleSend (blk : Fin 16) (tileErr : Bool)
  /-- `crcBad`: the shingle's CRC fails when it is written (R240) -/
  | shingleArriveMiddle (mid : Fin 16) (crcBad : Bool)
  | stage2ShingleSend (mid : Fin 16) (crcBad : Bool)
  | shingleArriveOutput (out : Fin 16) (crcBad : Bool)
  | creditReturn (inp : Fin 16) (out : Fin 16) (bedrock : Bool)
  | ridgeSeqSkip (out : Fin 16) (src : Fin 16) (bedrock : Bool)
  | ridgeAsmDrop (out : Fin 16) (frame : Nat)
  | freeze
  | unfreeze
  | hwmClear
  -- Thatch (chapter 09)
  | spillWriteDone (port : Fin 96) (queue : Fin 15)
  | loftReadBack (port : Fin 96) (queue : Fin 15) (tileErr : Bool)
  | dripAudit (slot : Fin 4096)
  | dripAuditEnd
  -- egress (chapter 10)
  | frameTransmitEnd (port : Fin 96) (tileErr : Bool)
  | preempt (port : Fin 96)
  | gateChange (port : Fin 96)
  | shadowSwap (slot : Fin 4096)
  | swapInstant (target : SwapTarget)
  | queueSample (port : Fin 96)
  | obsReset (port : Fin 96)
  -- Quartz (chapter 12)
  | pllLock
  | qtzRefLoss
  | ltCapture
  | domainRatioWrite (dom : Fin 4) (adjHi : Word)
  | domainCancel (dom : Fin 4)
  | domainSet (dom : Fin 4)
  | domainStep (dom : Fin 4)
  | domainSlew (dom : Fin 4)
  | domainOpApply (dom : Fin 4)
  | slewEnd (dom : Fin 4)
  | toutEdge (n : Fin 8)
  | toutPulseEnd (n : Fin 8)
  | tinEdge (n : Fin 4) (edge : TinEdge)
  | tinPop (n : Fin 4)
  | ppsInEdge (falling : Bool)
  -- Gutter, statistics, performance counters (chapter 13)
  /-- `tileErr`: the tile read for the record's snap fails its checksum (R240) -/
  | recordDrain (tileErr : Bool)
  | gutRdWrite (value : Word)
  | exportSend
  | snapshot (slot : Fin 4096)
  | snapshotInstant
  | accumulatorSpill (index : Fin 524288)
  | flowRead (slot : Fin 4096)
  | flowSet (slot : Fin 4096)
  | pmuCounterWrite (i : Fin 64) (value : Word)
  | pmuOverflow (i : Fin 64)
  | bwWindowEnd (port : Fin 96)
  | bwPeakClear
  -- Loft and Purlin (chapter 14)
  | arbiterDecision (arb : Fin 18) (odd : Bool)
  | requestWithdraw (arb : Fin 18) (odd : Bool) (req : Fin 64)
  | quotaWindowEnd (arb : Fin 18)
  | loftAccessIssue (ch : Fin 32)
  | refreshDue (ch : Fin 32)
  | postponedRefresh (ch : Fin 32) (bank : Fin 16)
  | tempReportRead (pkg : Fin 8) (above85 : Bool)
  | rfm (ch : Fin 32) (bank : Fin 16)
  | aggressorTableClear
  | throttleEnd (ch : Fin 32) (req : Fin 64)
  | loftTrain (slot : Fin 4096)
  | testWindow (passed : Bool)
  | loftTrainEnd
  | loftRestart (slot : Fin 4096)
  | loftRestartEnd
  -- twin (chapter 15)
  /-- `partner`: the role the partner sends, none when no partner answers within 10 ms -/
  | roleExchange (partner : Option Bool)
  | twinCycleBoundary
  | stateCopy
  | deltaRecordReceive (record : DeltaRec)
  | heartbeatReceive (k : Nat) (handover fault : Bool)
  | heartbeatAckReceive (k : Nat) (turnaround : Nat)
  | heartbeatMiss
  | ackMiss
  | fenceInRise
  | withdrawNoticeReceive
  | unfence
  | twinSwitch (slot : Fin 4096)
  -- host interface and commands (chapter 16)
  | hostSendTake (ring : Fin 64) (descs : List TxDesc) (data : List Byte)
  | hostReceiveDeliver (blk : Fin 16) (bufs : List RxBuf)
  | ringVectorTimer (vector : Fin 128)
  | pf1Flr
  | cmdIssue
  | commandRingFetch (desc : List Word)
  | completionPost
  | cplHeadWrite (value : Word)
  | nop (slot : Fin 4096)
  | setDevid (slot : Fin 4096)
  | patchLoad (slot : Fin 4096) (image : List Byte)
  | forceEpoch
  | deviceFault (cause : Fin 3)
  | rebuildEnd
  | battenFrameReceive (blk : Fin 16) (inPort : Fin 97) (body : List Byte)
  | battenRetry (slot : Fin 4096)
  | keyWrite (member : Fin 64) (value : Word)
  | gnsAbort (value : Word)
  -- Gneiss (chapter 17)
  | routineStart
  | gnsNoOperation (ecc : Ecc)
  | gnsArithmetic (ecc : Ecc)
  | gnsMove (ecc : Ecc)
  | gnsRequest (ecc : Ecc)
  | gnsComplete (ecc : Ecc)
  | gnsUnwindMark (ecc : Ecc)
  | gnsReply (port : Fin 7) (value : DWord)
  -- registers and events (chapter 18)
  | registerWrite (pf1 : Bool) (offset : Nat) (width : Nat) (value : DWord)
  | postedWriteLand (scope : Fin 59)
  | voteScrubRead
  | eventAckWrite (group : Fin 141) (bit : Fin 8) (value : Word)
  | eventEnableWrite (group : Fin 256) (value : Word)
  | evtRearm (vector : Fin 2048)
  | msixUnmask (vector : Fin 2048)
  -- reset and power (chapters 19, 20)
  | perstRise (straps : Straps)
  | powerGoodFall
  | softwareReset (straps : Straps)
  | configurationReady (fuseErr romErr : Bool)
  | bistEnd (failed : Bool)
  | refclkLoss (clk : RefClk)
  | refclkReturn (clk : RefClk)
  | datapathEnable
  | clusterPowerWrite (value : Word)
  | governorGrant
  | rampEnd (unit : Fin 138)
  | deferMaxClear
  | tempSensorRead (sensors : List Int)
  | shaperBucketRefill (port : Fin 96)
  | registerRead (space : HostSpace) (offset : Nat) (width : Nat)
  | perstFall
  | pcieLinkRetrained
deriving DecidableEq, Repr

end Sys2Proof
end

