-- ==== Sys2Proof/Machine/Bits.lean ====
section
/-! DEFINITION. Bit fields, byte orders and checksums: the helpers the manual's layouts are written with.
Register and table words are handled as numbers below 2^32. -/
namespace Sys2Proof.Machine

/-- Bits hi..lo of a word. -/
def bits (w hi lo : Nat) : Nat := (w >>> lo) % 2 ^ (hi + 1 - lo)

/-- Bit i of a word. -/
def bit (w i : Nat) : Bool := w.testBit i

/-- `w` with bits hi..lo replaced by `v`. -/
def setBits (w hi lo v : Nat) : Nat :=
  w % 2 ^ lo + (v % 2 ^ (hi + 1 - lo)) * 2 ^ lo + (w >>> (hi + 1)) * 2 ^ (hi + 1)

/-- A flag placed at bit i. -/
def flagAt (b : Bool) (i : Nat) : Nat := if b then 2 ^ i else 0

/-- A number as a 32-bit word. -/
def w32 (n : Nat) : Word := BitVec.ofNat 32 n

/-- `a` limited to lo..hi (the nearer limit). -/
def clamp (lo hi a : Nat) : Nat := if a < lo then lo else if hi < a then hi else a

/-- Quotient rounded up. -/
def ceilDiv (a b : Nat) : Nat := (a + b - 1) / b

/-- Two's complement reading of an n-bit number. -/
def toSigned (n w : Nat) : Int :=
  let v := w % 2 ^ n
  if v < 2 ^ (n - 1) then (v : Int) else (v : Int) - 2 ^ n

/-- The n-bit two's complement pattern of an integer. -/
def ofSigned (n : Nat) (i : Int) : Nat := (i % (2 ^ n : Int)).toNat

/-- A number from bytes in network order. -/
def beNat (l : List Byte) : Nat := l.foldl (fun a b => a * 256 + b.toNat) 0

/-- A number from little-endian bytes. -/
def leNat (l : List Byte) : Nat := l.foldr (fun b a => b.toNat + 256 * a) 0

/-- The low 8·len bits of a number as little-endian bytes. -/
def natLE : Nat → Nat → List Byte
  | 0, _ => []
  | len + 1, v => BitVec.ofNat 8 v :: natLE len (v / 256)

/-- The low 8·len bits of a number as bytes in network order. -/
def natBE (len v : Nat) : List Byte := (natLE len v).reverse

/-- `len` bytes from `off`, short when the list is. -/
def slice (l : List Byte) (off len : Nat) : List Byte := (l.drop off).take len

/-- The number that `len` bytes from `off` spell in network order; bytes beyond the end read 0. -/
def beAt (l : List Byte) (off len : Nat) : Nat :=
  let s := slice l off len
  beNat s * 256 ^ (len - s.length)

/-- The number that `len` bytes from `off` spell in little-endian order; bytes beyond the end read 0. -/
def leAt (l : List Byte) (off len : Nat) : Nat := leNat (slice l off len)

/-- `l` with the bytes of `bs` written over it from `off`; the length stays. -/
def splice (l : List Byte) (off : Nat) (bs : List Byte) : List Byte :=
  (l.take off ++ bs ++ l.drop (off + bs.length)).take l.length

/-- `n` zero bytes. -/
def zeros (n : Nat) : List Byte := List.replicate n 0

/-- `l` cut or filled with zeros to n bytes. -/
def fitLen (n : Nat) (l : List Byte) : List Byte := (l ++ zeros (n - l.length)).take n

/-- A little-endian 32-bit word at word index i. -/
def wordAt (l : List Byte) (i : Nat) : Nat := leAt l (4 * i) 4

/-- One byte through a reflected CRC with the given polynomial. -/
def crcByte (poly : Nat) (crc : Nat) (b : Byte) : Nat :=
  (List.range 8).foldl (fun c _ => if c % 2 = 1 then (c / 2) ^^^ poly else c / 2) (crc ^^^ b.toNat)

/-- CRC-32 of IEEE 802.3 (R32). -/
def crc32 (l : List Byte) : Nat := (l.foldl (crcByte 0xEDB88320) 0xFFFFFFFF) ^^^ 0xFFFFFFFF

/-- CRC-32C (R161). -/
def crc32c (l : List Byte) : Nat := (l.foldl (crcByte 0x82F63B78) 0xFFFFFFFF) ^^^ 0xFFFFFFFF

/-- The frame check sequence as the four bytes that follow the frame (IEEE 802.3). -/
def fcsOf (l : List Byte) : List Byte := natLE 4 (crc32 l)

/-- One's complement sum of 16-bit words in network order, an odd last byte padded with zero. -/
def onesSum : List Byte → Nat → Nat
  | [], a => a
  | [b], a => let s := a + b.toNat * 256; s % 65536 + s / 65536
  | b :: c :: r, a => let s := a + b.toNat * 256 + c.toNat; onesSum r (s % 65536 + s / 65536)

/-- One's complement addition of 16-bit numbers. -/
def ocAdd (a b : Nat) : Nat := let s := a + b; s % 65536 + s / 65536

/-- Number of one bits among the low n bits. -/
def popCount : Nat → Nat → Nat
  | 0, _ => 0
  | n + 1, w => w % 2 + popCount n (w / 2)

/-- Length of the leading run of the list on which `p` holds. -/
def runLen {α : Type} (p : α → Bool) : List α → Nat
  | [] => 0
  | a :: r => if p a then runLen p r + 1 else 0

end Sys2Proof.Machine
end

