-- ==== Sys2Proof/Machine/Gmac.lean ====
section
/-! DEFINITION. AES-128-GMAC, with which Batten frames are authenticated (R405): FIPS 197 and NIST SP 800-38D.
Numbers of 128 bits hold their first byte as the most significant one. -/
namespace Sys2Proof.Machine

/-- Multiplication by x in GF(2^8) modulo 0x11B. -/
def aesX (a : Nat) : Nat := if a < 128 then 2 * a else (2 * a) ^^^ 0x11B

/-- Product in GF(2^8): n bits of b. -/
def aesMul : Nat → Nat → Nat → Nat
  | 0, _, _ => 0
  | n + 1, a, b => (if b % 2 = 1 then a else 0) ^^^ aesMul n (aesX a) (b / 2)

/-- a to the power 254: the inverse in GF(2^8), 0 for 0. -/
def aesInv (a : Nat) : Nat :=
  let m := aesMul 8
  let a2 := m a a
  let a3 := m a2 a
  let a12 := let t := m a3 a3
             m t t
  let a15 := m a12 a3
  let a240 := let t := m a15 a15
              let u := m t t
              let v := m u u
              m v v
  m (m a240 a12) a2

/-- The AES substitution of a byte. -/
def aesSub (a : Nat) : Nat :=
  let b := aesInv a
  let rot := fun k => (b * 2 ^ k) % 256 + b / 2 ^ (8 - k)
  b ^^^ rot 1 ^^^ rot 2 ^^^ rot 3 ^^^ rot 4 ^^^ 0x63

/-- A 32-bit word's bytes substituted. -/
def aesSubWord (w : Nat) : Nat :=
  aesSub (bits w 31 24) * 2 ^ 24 + aesSub (bits w 23 16) * 2 ^ 16 + aesSub (bits w 15 8) * 256 + aesSub (w % 256)

/-- The 11 round keys from a key of four words, newest last: rounds left, round constant, last four words. -/
def aesExpand : Nat → Nat → Nat × Nat × Nat × Nat → List (Nat × Nat × Nat × Nat)
  | 0, _, k => [k]
  | n + 1, rc, (a, b, c, d) =>
    let r := d * 256 % 2 ^ 32 + d / 2 ^ 24
    let a' := a ^^^ aesSubWord r ^^^ (rc * 2 ^ 24)
    let b' := b ^^^ a'
    let c' := c ^^^ b'
    (a, b, c, d) :: aesExpand n (aesX rc) (a', b', c', d ^^^ c')

/-- A round key as 16 bytes. -/
def aesKeyBytes (k : Nat × Nat × Nat × Nat) : List Nat :=
  [k.1, k.2.1, k.2.2.1, k.2.2.2].flatMap (fun w => [bits w 31 24, bits w 23 16, bits w 15 8, w % 256])

/-- ShiftRows on 16 bytes, column by column. -/
def aesShift (l : List Nat) : List Nat := (List.range 16).map (fun i => l.getD ((5 * i) % 16) 0)

/-- MixColumns on one column. -/
def aesMix (l : List Nat) : List Nat :=
  let g := fun i => l.getD (i % 4) 0
  (List.range 4).map (fun i => aesX (g i) ^^^ (aesX (g (i + 1)) ^^^ g (i + 1)) ^^^ g (i + 2) ^^^ g (i + 3))

/-- MixColumns on 16 bytes. -/
def aesMixAll (l : List Nat) : List Nat := (List.range 4).flatMap (fun c => aesMix ((l.drop (4 * c)).take 4))

/-- The rounds after the first key addition. -/
def aesRounds : List (List Nat) → List Nat → List Nat
  | [], s => s
  | [k], s => (aesShift (s.map aesSub)).zipWith (· ^^^ ·) k
  | k :: ks, s => aesRounds ks ((aesMixAll (aesShift (s.map aesSub))).zipWith (· ^^^ ·) k)

/-- One block under a 128-bit key. -/
def aesBlock (key blk : Nat) : Nat :=
  let ks := (aesExpand 10 1 (bits key 127 96, bits key 95 64, bits key 63 32, bits key 31 0)).map aesKeyBytes
  let s := (natBE 16 blk).map BitVec.toNat
  match ks with
  | [] => 0
  | k0 :: r => (aesRounds r (s.zipWith (· ^^^ ·) k0)).foldl (fun a b => a * 256 + b) 0

/-- Product in the field of GHASH: i counts the bits of x left, most significant first. -/
def ghashMul : Nat → Nat → Nat → Nat → Nat
  | 0, _, _, z => z
  | i + 1, x, v, z =>
    let z := if x.testBit i then z ^^^ v else z
    ghashMul i x (if v % 2 = 1 then v / 2 ^^^ 0xE1 * 2 ^ 120 else v / 2) z

/-- GHASH over 16-byte blocks, the last padded with zeros: blocks left, bytes, state. -/
def ghash (h : Nat) : Nat → List Byte → Nat → Nat
  | 0, _, y => y
  | n + 1, l, y => ghash h n (l.drop 16) (ghashMul 128 (y ^^^ beNat (fitLen 16 (l.take 16))) h 0)

/-- The 16-byte GMAC tag of `data` under a key and a 96-bit IV (R405). -/
def gmac (key iv : Nat) (data : List Byte) : List Byte :=
  let h := aesBlock key 0
  let y := ghash h (ceilDiv data.length 16) data 0
  let s := ghashMul 128 (y ^^^ (8 * data.length * 2 ^ 64)) h 0
  natBE 16 (s ^^^ aesBlock key (iv * 2 ^ 32 + 1))

end Sys2Proof.Machine
end

