-- ==== Sys2Proof/Config.lean ====
section
/-! DEFINITION. What one device fixes and the manual does not give: fuse contents, ROM contents, and the
free values (values the manual leaves open). Every constant here is opaque: nothing can be proved of its
value, so a statement that holds, holds whatever the value is. -/
namespace Sys2Proof

/-- Free values: the value the manual leaves open at the n-th such point of a run (assumption 2). -/
opaque Config.freeValue : Nat → BitVec 64

/-- GLB_ORDER.grade fuse: true for the SP-6720-MB. -/
opaque Config.fuseGrade : Bool
/-- GLB_SUBSYS fuses. -/
opaque Config.fuseSubsys : Word
/-- 64-bit serial number fuses. -/
opaque Config.fuseSerial : DWord
/-- Gneiss ROM version (GLB_ROM.rom_ver). -/
opaque Config.romVersion : BitVec 16
/-- GNS_PATCH_MIN fuse: the lowest patch version the device accepts (R424). -/
opaque Config.fusePatchMin : Word
/-- The parity word of a Slate-X slot with given contents (R177): its code is not the manual's. -/
opaque Config.parityWord : Nat → Word
/-- Whether the entry that the scrubber reads, at the n-th free value of a run, has been upset since it was written (R195,
R197). -/
opaque Config.parityUpset : Nat → Bool
/-- The echoes that the host port's share of a block holds (R304). -/
opaque Config.hostShare : BitVec 16
/-- The frames a stage-1 injection queue holds, less one (R221). -/
opaque Config.injRoom : BitVec 16
/-- The rate at which a frame is read back from Loft, kb/s (R42). -/
opaque Config.readBackRate : Word
/-- The bound that gristas reports for the Bedrock program of an image at an entry (R82): the manual says neither how it is
counted over an image nor how the device learns it. -/
opaque Config.gristasBound : List DWord → Nat → Nat
/-- The length of the n-th test window of a sweep, in thirds of a nanosecond; at most 1 us (R354). -/
opaque Config.testWindow : Nat → Word
/-- A member's fused Batten key (R405). -/
opaque Config.fuseKey : BitVec 128
/-- The 65,536 words of 128 bits of the Gneiss ROM (R410). -/
opaque Config.gnsRom : Nat → BitVec 128
/-- ROM entry of each kind of Gneiss routine; the manual gives none. -/
opaque Config.gnsEntry : Nat → BitVec 16
/-- Points of a Gneiss word that the manual leaves open (R414, R417): whether its second operand is imm, not rb;
whether min and max order signed numbers; what shl and shr give for an amount of 64 or more; and the carry flag of an
operation other than add. -/
opaque Config.gnsImm : BitVec 128 → Bool
opaque Config.gnsSigned : Bool
opaque Config.gnsShift : Nat → DWord → DWord → DWord
opaque Config.gnsCarry : Nat → DWord → DWord → Bool
/-- Signature check of a patch against the fused public key (R423). -/
opaque Config.patchSignatureOk : List Byte → Bool
/-- What the words of a meter, a policer profile and a recovery stream mean (R117, R120): the manual gives their
sizes in the BAR2 window and not their layout. The profile a meter names; of a profile, whether it selects RFC
2698, its committed and peak rates in 64 kb/s and its burst sizes in bytes; of a stream, its history length and
its reset timeout in nanoseconds. -/
opaque Config.meterProfile : List Word → BitVec 12
opaque Config.policerTwoRate : List Word → Bool
opaque Config.policerCir : List Word → Word
opaque Config.policerPir : List Word → Word
opaque Config.policerCbs : List Word → Word
opaque Config.policerEbs : List Word → Word
opaque Config.recovHistory : List Word → BitVec 6
opaque Config.recovReset : List Word → DWord
/-- Word i of a recovery-table entry as read, from its words as written and its passed, discarded and rogue counts (R120). -/
opaque Config.recovWord : Nat → List Word → Nat → Nat → Nat → Word
/-- CMD_LOFT_MAP: the first Loft unit of reserved region k with m channels online and ring size code n, and the
first unit above every region: the manual does not say where bring-up puts them (R224, R356). -/
opaque Config.loftMap : Nat → Nat → Nat → BitVec 28
opaque Config.loftReserved : Nat → Nat → BitVec 28
/-- The value hardware uses of a voted field while its three copies all differ, before R431 resets it. -/
opaque Config.voteOpen : Nat → Word → Word → Word → Word

end Sys2Proof
end

