-- ==== Sys2Proof/Machine/RegTable.lean ====
section
/-! DEFINITION. The registers of BAR0 (R426 and the register tables of the chapters): for each kind its
place, its writable and write-triggered bits, its voted fields, its posting scope and its reset value; and
the event counters with their groups (R437, R439). -/
namespace Sys2Proof.Machine

/-- The register kinds, under the manual's names. -/
inductive RegName where
  | GLB_ID | GLB_STEP | GLB_ORDER | GLB_SUBSYS | GLB_SERIAL_LO | GLB_SERIAL_HI
  | GLB_ROM | GLB_STRAP | GLB_BUSY0 | GLB_BUSY1 | GLB_VOTE_STAT | GLB_VOTE_LOG
  | GLB_PW_DROP_LOG | GLB_BAD_LOG | GLB_SCRATCH | EVT_GRP_CFG | EVT_PEND | EVT_SUM
  | EVT_VEC_SUM | EVT_REARM | CMD_STAGE | CMD_ISSUE | CMD_EPOCH | CMD_STAT
  | CMD_CTL | CMD_CPL_BASE_LO | CMD_CPL_BASE_HI | CMD_CPL_CFG | CMD_CPL_HEAD | CMD_RING_BASE_LO
  | CMD_RING_BASE_HI | CMD_RING_SIZE | CMD_RING_TAIL | CMD_CPL_TAIL | CMD_RING_HEAD | CMD_GRP_CFG
  | CMD_GRP_MEMBER_LO | CMD_GRP_MEMBER_HI | CMD_BATTEN_CFG | CMD_BATTEN_MAC_HI | CMD_BATTEN_MAC_LO | CMD_BATTEN_SESSION
  | CMD_BATTEN_RETRY | CMD_KEY | CMD_KEY_VALID_LO | CMD_KEY_VALID_HI | CMD_LOFT_WIN | CMD_LOFT_MAP
  | PB_MODE | PB_STAT | PB_PORT_CFG | PB_PORT_STAT | PB_MAXLEN | PB_CT
  | PB_CT_STATE | PB_CT_CLR | PB_FC | PB_PFC_MAP0 | PB_PFC_MAP1 | PB_PRE
  | PB_PRE_STAT | PB_AN | PB_LINK | PB_SA_HI | PB_SA_LO | PB_PFC_WD
  | PB_PFC_WD_STAT | PB_MDIO_CMD | PB_MDIO_STAT | FLT_CFG | FLT_STAT | FLT_EXC_LOG
  | FLT_PORT_CFG | FLT_OG_MAP | FLT_SLOT | FLT_ENTRY | SLT_X_PROF | SLT_X_SEED
  | SLT_STAT | SLT_AGE | SLT_LRN_STAT | SLT_LOCK | SLT_LOCK_HELD | SLT_SCRUB
  | SLT_ERR_LOG0 | SLT_ERR_LOG1 | SLT_P_NODES | SLT_P_RES | SLT_D_TBL | SLT_RS_STAT
  | SLT_RS_CFG | SLT_T_BANK | RDG_CTL | RDG_CFG | RDG_STAT | RDG_MID_STAT
  | RDG_RSQ_STAT | THA_CFG | THA_BLK_STAT | THA_BLK_FREE | THA_POOL_CFG | THA_POOL_LIM
  | THA_POOL_W | THA_POOL_STAT | THA_IN_MAP | THA_OUT_MAP | THA_Q_CFG | THA_Q_LOFT
  | THA_WRED_TH | THA_WRED_P | THA_CSUM_LOG0 | THA_CSUM_LOG1 | THA_DRIP_LOG | EGS_GCL0
  | EGS_GCL1 | EGS_GCL_CFG | EGS_GCL_CYCLE | EGS_GCL_BASE_SH | EGS_GCL_BASE_SL | EGS_GCL_BASE_NS
  | EGS_PSHP | EGS_PSHP_BURST | EGS_PSHP_BKT | EGS_PORT_STAT | EGS_OBS_CFG | EGS_OBS_CTL
  | EGS_BR_LIM | EGS_Q_W | EGS_QSHP | EGS_QSHP_BURST | EGS_QSHP_BKT | EGS_AGE
  | EGS_Q_WIN | EGS_OBS_DMIN | EGS_OBS_DMAX | EGS_OBS_DLAST | EGS_OBS_TMIN | EGS_OBS_TMAX
  | EGS_OBS_TLAST | EGS_OBS_HIST | EGS_CFG | EGS_VIEW | EGS_STAT | QTZ_CFG
  | QTZ_STAT | QTZ_LT_CAP | QTZ_CAP_LT_HI | QTZ_CAP_LT_LO | QTZ_CAP_LT_FRAC | QTZ_CAP_D
  | QTZ_D_ADJ_LO | QTZ_D_ADJ_HI | QTZ_D_VAL0 | QTZ_D_VAL1 | QTZ_D_VAL2 | QTZ_D_AT_HI
  | QTZ_D_AT_LO | QTZ_D_SLEW_RATE | QTZ_D_CMD | QTZ_D_STAT | QTZ_D_SLEW_REM | QTZ_LANE_CORR_RX
  | QTZ_LANE_CORR_TX | QTZ_TOUT_CFG | QTZ_TOUT_START_SH | QTZ_TOUT_START_SL | QTZ_TOUT_START_NS | QTZ_TOUT_PERIOD
  | QTZ_TOUT_WIDTH | QTZ_TIN_CFG | QTZ_TIN_STAT | QTZ_TIN_HEAD_HI | QTZ_TIN_HEAD_LO | QTZ_TIN_HEAD_FRAC
  | QTZ_TIN_POP | QTZ_PPS_CFG | QTZ_PPS_LAST_HI | QTZ_PPS_LAST_LO | QTZ_PPS_LAST_FRAC | QTZ_PPS_COUNT
  | QTZ_SYNCE_CFG | QTZ_SYNCE_STAT | QTZ_ECHO_CFG | GUT_CFG | GUT_STAT | GUT_WR
  | GUT_RD | GUT_SEQ | GUT_DROP_CFG | GUT_DROP_N | GUT_SES_CFG | GUT_SES_FIX
  | GUT_SES_TMPL | GUT_SAMP_CFG | GUT_BRW_TH | GUT_BRW_IN | GUT_EXP_CFG | GUT_EXP_SEND
  | GUT_EXP_HDR | STA_CFG | STA_SNAP_STAT | STA_SNAP_GEN | STA_SNAP_LT_LO | STA_SNAP_LT_HI
  | STA_HALF_LOG | PMU_USER_CYC | PMU_USER_LT | PMU_USER_CTR | PMU_CTL | PMU_USER
  | PMU_CYC_LO | PMU_CYC_HI | PMU_LT_LO | PMU_LT_HI | PMU_SEL | PMU_CTR_CFG
  | PMU_CTR_LO | PMU_CTR_HI | PMU_RELOAD_LO | PMU_RELOAD_HI | PMU_SMP | PMU_HOLD
  | PMU_HOLD_CYC | PMU_HOLD_LT | PMU_BW_CFG | PMU_BW_CTL | PMU_BW | LFT_STAT
  | LFT_TRAIN_CFG | LFT_RH_CFG | LFT_RH_THR | LFT_RH_LOG0 | LFT_RH_LOG1 | LFT_CH_STAT
  | LFT_TIM | LFT_WL | LFT_RDQS | LFT_DQ | LFT_CA0 | LFT_CA1
  | LFT_VREF | PUR_CTL | PUR_STAT | PUR_QUOTA | PUR_PRIO | PUR_REQ_STAT
  | PUR_ARB_STAT | MCA_CFG | MCA_STAT | MCA_SCN_STAT | MCA_SCN_CFG | MCA_SET_STAT
  | MCA_SET_INFO | GNS_STAT | GNS_ABORT | GNS_PATCH | GNS_PATCH_MIN | GNS_SP_GAP
  | GNS_TRAP_LOG0 | GNS_TRAP_LOG1 | GNS_MATCH | TWN_CFG | TWN_ROLE | TWN_CYC
  | TWN_BASE_SH | TWN_BASE_SL | TWN_BASE_NS | TWN_STAT | TWN_LAG | TWN_DELAY
  | TWN_CTL | TWN_APPLY_FAIL_CNT | PWR_STAT | PWR_CTL | PWR_RST | PWR_GOV
  | PWR_FLT_EN | PWR_QUEUE | PWR_DEFER_MAX | PWR_CLK_STAT | PWR_GRANT_CNT | PWR_TEMP
  | PWR_WAKE_LOG0 | PWR_WAKE_LOG1 | PWR_UNIT_STAT
deriving DecidableEq, Repr

/-- The posting scope of a register kind (R433), as a bit number of GLB_BUSY1:GLB_BUSY0. -/
inductive Scope where
  /-- the kind is never posted -/
  | none
  /-- scope `base + b`, `b` the first place index (port block, cluster or Thatch block) -/
  | perBlock (base : Nat)
  | fixed (n : Nat)
deriving DecidableEq, Repr

/-- A register kind. `dims` gives stride and count of each place index, outermost first. -/
structure RegKind where
  name : RegName
  base : Nat
  dims : List (Nat × Nat)
  /-- bits that hold what software writes -/
  wmask : Nat
  /-- write-triggered bits -/
  wtmask : Nat
  /-- voted fields, high and low bit (R429) -/
  tv : List (Nat × Nat)
  shadow : Bool
  scope : Scope
  reset : Nat
deriving DecidableEq, Repr

/-- Register kinds of GLB. -/
def kindsGlb : List RegKind := [
  ⟨.GLB_ID, 0x0, [], 0x0, 0x0, [], false, .none, 0x67201f57⟩,
  ⟨.GLB_STEP, 0x4, [], 0x0, 0x0, [], false, .none, 0xb100⟩,
  ⟨.GLB_ORDER, 0x8, [], 0x0, 0x0, [], false, .none, 0x0⟩,
  ⟨.GLB_SUBSYS, 0xc, [], 0x0, 0x0, [], false, .none, 0x0⟩,
  ⟨.GLB_SERIAL_LO, 0x10, [], 0x0, 0x0, [], false, .none, 0x0⟩,
  ⟨.GLB_SERIAL_HI, 0x14, [], 0x0, 0x0, [], false, .none, 0x0⟩,
  ⟨.GLB_ROM, 0x18, [], 0x0, 0x0, [], false, .none, 0x0⟩,
  ⟨.GLB_STRAP, 0x20, [], 0x0, 0x0, [], false, .none, 0x0⟩,
  ⟨.GLB_BUSY0, 0x40, [], 0x0, 0x0, [], false, .none, 0x0⟩,
  ⟨.GLB_BUSY1, 0x44, [], 0x0, 0x0, [], false, .none, 0x0⟩,
  ⟨.GLB_VOTE_STAT, 0x50, [], 0x0, 0x0, [], false, .none, 0x0⟩,
  ⟨.GLB_VOTE_LOG, 0x54, [], 0x0, 0x0, [], false, .none, 0x0⟩,
  ⟨.GLB_PW_DROP_LOG, 0x58, [], 0x0, 0x0, [], false, .none, 0x0⟩,
  ⟨.GLB_BAD_LOG, 0x5c, [], 0x0, 0x0, [], false, .none, 0x0⟩,
  ⟨.GLB_SCRATCH, 0x30, [], 0xffffffff, 0x0, [], false, .none, 0x0⟩]

/-- Register kinds of EVT. -/
def kindsEvt : List RegKind := [
  ⟨.EVT_GRP_CFG, 0x100000, [(0x4, 256)], 0xff0007ff, 0x0, [], false, .none, 0x0⟩,
  ⟨.EVT_PEND, 0x100400, [(0x4, 256)], 0x0, 0x0, [], false, .none, 0x0⟩,
  ⟨.EVT_SUM, 0x100800, [(0x4, 8)], 0x0, 0x0, [], false, .none, 0x0⟩,
  ⟨.EVT_VEC_SUM, 0x100900, [(0x4, 64)], 0x0, 0x0, [], false, .none, 0x0⟩,
  ⟨.EVT_REARM, 0x101000, [(0x4, 2048)], 0x0, 0x1, [], false, .none, 0x0⟩]

/-- Register kinds of CMD. -/
def kindsCmd0 : List RegKind := [
  ⟨.CMD_STAGE, 0x200000, [(0x4, 16)], 0xffffffff, 0x0, [], false, .none, 0x0⟩,
  ⟨.CMD_ISSUE, 0x200040, [], 0x0, 0x0, [], false, .none, 0x0⟩,
  ⟨.CMD_EPOCH, 0x200044, [], 0x0, 0x0, [], false, .none, 0x0⟩,
  ⟨.CMD_STAT, 0x200048, [], 0x0, 0x0, [], false, .none, 0x0⟩,
  ⟨.CMD_CTL, 0x20004c, [], 0x0, 0x1, [], false, .none, 0x0⟩,
  ⟨.CMD_CPL_BASE_LO, 0x200050, [], 0xffffffff, 0x0, [], false, .none, 0x0⟩,
  ⟨.CMD_CPL_BASE_HI, 0x200054, [], 0xffffffff, 0x0, [], false, .none, 0x0⟩,
  ⟨.CMD_CPL_CFG, 0x200058, [], 0x7ff000f, 0x0, [], false, .none, 0x0⟩,
  ⟨.CMD_CPL_HEAD, 0x200060, [], 0x1fff, 0x0, [], false, .none, 0x0⟩,
  ⟨.CMD_RING_BASE_LO, 0x200070, [], 0xffffffff, 0x0, [], false, .none, 0x0⟩,
  ⟨.CMD_RING_BASE_HI, 0x200074, [], 0xffffffff, 0x0, [], false, .none, 0x0⟩,
  ⟨.CMD_RING_SIZE, 0x200078, [], 0xf, 0x0, [], false, .none, 0x0⟩,
  ⟨.CMD_RING_TAIL, 0x20007c, [], 0x1fff, 0x0, [], false, .none, 0x0⟩,
  ⟨.CMD_CPL_TAIL, 0x20005c, [], 0x0, 0x0, [], false, .none, 0x0⟩,
  ⟨.CMD_RING_HEAD, 0x200080, [], 0x0, 0x0, [], false, .none, 0x0⟩,
  ⟨.CMD_GRP_CFG, 0x200100, [], 0x7f, 0x0, [(6, 6), (5, 0)], false, .fixed 57, 0x0⟩]

/-- Register kinds of CMD. -/
def kindsCmd1 : List RegKind := [
  ⟨.CMD_GRP_MEMBER_LO, 0x200104, [], 0xffffffff, 0x0, [], false, .fixed 57, 0x0⟩,
  ⟨.CMD_GRP_MEMBER_HI, 0x200108, [], 0xffffffff, 0x0, [], false, .fixed 57, 0x0⟩,
  ⟨.CMD_BATTEN_CFG, 0x200110, [], 0xffff0000, 0x0, [], false, .fixed 57, 0x88b50000⟩,
  ⟨.CMD_BATTEN_MAC_HI, 0x200114, [], 0xffff, 0x0, [], false, .fixed 57, 0x0⟩,
  ⟨.CMD_BATTEN_MAC_LO, 0x200118, [], 0xffffffff, 0x0, [], false, .fixed 57, 0x0⟩,
  ⟨.CMD_BATTEN_SESSION, 0x20011c, [], 0xffffff, 0x0, [(23, 0)], false, .fixed 57, 0x0⟩,
  ⟨.CMD_BATTEN_RETRY, 0x200120, [], 0xffff000f, 0x0, [], false, .fixed 57, 0xc80003⟩,
  ⟨.CMD_KEY, 0x200400, [(0x10, 64), (0x4, 4)], 0x0, 0xffffffff, [], false, .none, 0x0⟩,
  ⟨.CMD_KEY_VALID_LO, 0x200800, [], 0x0, 0x0, [], false, .none, 0x0⟩,
  ⟨.CMD_KEY_VALID_HI, 0x200804, [], 0x0, 0x0, [], false, .none, 0x0⟩,
  ⟨.CMD_LOFT_WIN, 0x200900, [], 0xff, 0x0, [], false, .none, 0x0⟩,
  ⟨.CMD_LOFT_MAP, 0x200904, [(0x4, 34)], 0x0, 0x0, [], false, .none, 0x0⟩]

/-- Register kinds of CMD. -/
def kindsCmd : List RegKind := kindsCmd0 ++ kindsCmd1

/-- Register kinds of PB. -/
def kindsPb0 : List RegKind := [
  ⟨.PB_MODE, 0x408000, [(0x20000, 16)], 0x7, 0x0, [(2, 0)], false, .perBlock 0, 0x0⟩,
  ⟨.PB_STAT, 0x408004, [(0x20000, 16)], 0x0, 0x0, [], false, .none, 0x0⟩,
  ⟨.PB_PORT_CFG, 0x400000, [(0x20000, 16), (0x1000, 6)], 0x3f3, 0x0, [(9, 9), (8, 8), (7, 6), (5, 4), (1, 1), (0, 0)], false, .perBlock 0, 0x0⟩,
  ⟨.PB_PORT_STAT, 0x400004, [(0x20000, 16), (0x1000, 6)], 0x0, 0x0, [], false, .none, 0x0⟩,
  ⟨.PB_MAXLEN, 0x400010, [(0x20000, 16), (0x1000, 6)], 0x3fff, 0x0, [], false, .perBlock 0, 0x5f2⟩,
  ⟨.PB_CT, 0x400020, [(0x20000, 16), (0x1000, 6)], 0x3f0f3f01, 0x0, [], false, .perBlock 0, 0x10020200⟩,
  ⟨.PB_CT_STATE, 0x400024, [(0x20000, 16), (0x1000, 6)], 0x0, 0x0, [], false, .none, 0x2⟩,
  ⟨.PB_CT_CLR, 0x400028, [(0x20000, 16), (0x1000, 6)], 0x0, 0x1, [], false, .perBlock 0, 0x0⟩,
  ⟨.PB_FC, 0x400030, [(0x20000, 16), (0x1000, 6)], 0xffffffff, 0x0, [(31, 16), (15, 8), (7, 0)], false, .perBlock 0, 0xffff0000⟩,
  ⟨.PB_PFC_MAP0, 0x400034, [(0x20000, 16), (0x1000, 6)], 0xffffff, 0x0, [(23, 21), (20, 18), (17, 15), (14, 12), (11, 9), (8, 6), (5, 3), (2, 0)], false, .perBlock 0, 0x489200⟩,
  ⟨.PB_PFC_MAP1, 0x400038, [(0x20000, 16), (0x1000, 6)], 0xffffff, 0x0, [(23, 21), (20, 18), (17, 15), (14, 12), (11, 9), (8, 6), (5, 3), (2, 0)], false, .perBlock 0, 0xfad91b⟩,
  ⟨.PB_PRE, 0x400040, [(0x20000, 16), (0x1000, 6)], 0xff00030b, 0x0, [], false, .perBlock 0, 0xa000002⟩,
  ⟨.PB_PRE_STAT, 0x400044, [(0x20000, 16), (0x1000, 6)], 0x0, 0x0, [], false, .none, 0x0⟩,
  ⟨.PB_AN, 0x400050, [(0x20000, 16), (0x1000, 6)], 0x3, 0x4, [], false, .perBlock 0, 0x3⟩,
  ⟨.PB_LINK, 0x400060, [(0x20000, 16), (0x1000, 6)], 0x1ffff, 0x0, [], false, .perBlock 0, 0x7d0⟩,
  ⟨.PB_SA_HI, 0x400070, [(0x20000, 16), (0x1000, 6)], 0xffff, 0x0, [], false, .perBlock 0, 0x0⟩]

/-- Register kinds of PB. -/
def kindsPb1 : List RegKind := [
  ⟨.PB_SA_LO, 0x400074, [(0x20000, 16), (0x1000, 6)], 0xffffffff, 0x0, [], false, .perBlock 0, 0x0⟩,
  ⟨.PB_PFC_WD, 0x400100, [(0x20000, 16), (0x1000, 6), (0x4, 9)], 0xffffffff, 0x0, [], false, .perBlock 0, 0x80fa00c8⟩,
  ⟨.PB_PFC_WD_STAT, 0x400140, [(0x20000, 16), (0x1000, 6)], 0x0, 0x0, [], false, .none, 0x0⟩,
  ⟨.PB_MDIO_CMD, 0x409000, [(0x20000, 2)], 0x7ffcffff, 0x80000000, [], false, .none, 0x0⟩,
  ⟨.PB_MDIO_STAT, 0x409004, [(0x20000, 2)], 0x0, 0x0, [], false, .none, 0x0⟩]

/-- Register kinds of PB. -/
def kindsPb : List RegKind := kindsPb0 ++ kindsPb1

/-- Register kinds of FLT. -/
def kindsFlt : List RegKind := [
  ⟨.FLT_CFG, 0x600000, [(0x10000, 16)], 0xff030f, 0x0, [(3, 0)], false, .perBlock 16, 0x80202⟩,
  ⟨.FLT_STAT, 0x600010, [(0x10000, 16)], 0x0, 0x0, [], false, .none, 0x0⟩,
  ⟨.FLT_EXC_LOG, 0x600020, [(0x10000, 16)], 0x0, 0x0, [], false, .none, 0x0⟩,
  ⟨.FLT_PORT_CFG, 0x600100, [(0x10000, 16), (0x4, 8)], 0xff07c000, 0x0, [(31, 24)], false, .perBlock 16, 0x0⟩,
  ⟨.FLT_OG_MAP, 0x600120, [(0x10000, 16), (0x4, 8)], 0xffffffff, 0x0, [], false, .perBlock 16, 0x0⟩,
  ⟨.FLT_SLOT, 0x600200, [(0x10000, 16), (0x4, 2)], 0x0, 0x0, [], false, .none, 0x0⟩,
  ⟨.FLT_ENTRY, 0x600208, [(0x10000, 16), (0x4, 2)], 0x0, 0x0, [], false, .none, 0x0⟩]

/-- Register kinds of SLT. -/
def kindsSlt : List RegKind := [
  ⟨.SLT_X_PROF, 0x700000, [(0x8, 16)], 0x1f000ff, 0x0, [], false, .fixed 48, 0x80⟩,
  ⟨.SLT_X_SEED, 0x700004, [(0x8, 16)], 0xffffffff, 0x0, [], false, .fixed 48, 0x0⟩,
  ⟨.SLT_STAT, 0x700080, [], 0x0, 0x0, [], false, .none, 0x0⟩,
  ⟨.SLT_AGE, 0x700100, [], 0xffff0001, 0x0, [], false, .fixed 48, 0x4e200001⟩,
  ⟨.SLT_LRN_STAT, 0x700200, [(0x4, 16)], 0x0, 0x0, [], false, .none, 0x0⟩,
  ⟨.SLT_LOCK, 0x700300, [(0x4, 2)], 0xffffffff, 0x0, [], false, .fixed 48, 0x0⟩,
  ⟨.SLT_LOCK_HELD, 0x700308, [(0x4, 2)], 0x0, 0x0, [], false, .none, 0x0⟩,
  ⟨.SLT_SCRUB, 0x700400, [], 0xffff0001, 0x0, [], false, .fixed 48, 0x400001⟩,
  ⟨.SLT_ERR_LOG0, 0x700500, [(0x8, 16)], 0x0, 0x0, [], false, .none, 0x0⟩,
  ⟨.SLT_ERR_LOG1, 0x700504, [(0x8, 16)], 0x0, 0x0, [], false, .none, 0x0⟩,
  ⟨.SLT_P_NODES, 0x700600, [], 0x0, 0x0, [], false, .none, 0x3000⟩,
  ⟨.SLT_P_RES, 0x700604, [], 0x0, 0x0, [], false, .none, 0xc0000⟩,
  ⟨.SLT_D_TBL, 0x700700, [(0x4, 32)], 0x7ffffff, 0x0, [], false, .fixed 48, 0x0⟩,
  ⟨.SLT_RS_STAT, 0x70c000, [], 0x0, 0x0, [(27, 24)], false, .none, 0x0⟩,
  ⟨.SLT_RS_CFG, 0x70c004, [], 0xff00ffff, 0x0, [], false, .none, 0x500000a⟩,
  ⟨.SLT_T_BANK, 0x70c100, [(0x4, 8)], 0x1, 0x0, [], false, .none, 0x0⟩]

/-- Register kinds of RDG. -/
def kindsRdg : List RegKind := [
  ⟨.RDG_CTL, 0x800000, [], 0x1, 0x2, [], false, .fixed 49, 0x0⟩,
  ⟨.RDG_CFG, 0x800004, [], 0xffff00ff, 0x0, [], false, .fixed 49, 0xa140010⟩,
  ⟨.RDG_STAT, 0x800010, [], 0x0, 0x0, [], false, .none, 0x0⟩,
  ⟨.RDG_MID_STAT, 0x800100, [(0x4, 16)], 0x0, 0x0, [], false, .none, 0x0⟩,
  ⟨.RDG_RSQ_STAT, 0x800200, [(0x4, 16)], 0x0, 0x0, [], false, .none, 0x0⟩]

/-- Register kinds of THA. -/
def kindsTha : List RegKind := [
  ⟨.THA_CFG, 0x900000, [(0x8000, 16)], 0x3f3f0000, 0x0, [(29, 24), (21, 16)], false, .perBlock 32, 0x1000000⟩,
  ⟨.THA_BLK_STAT, 0x900010, [(0x8000, 16)], 0x0, 0x0, [], false, .none, 0x0⟩,
  ⟨.THA_BLK_FREE, 0x900014, [(0x8000, 16)], 0x0, 0x0, [], false, .none, 0x0⟩,
  ⟨.THA_POOL_CFG, 0x900400, [(0x8000, 16), (0x10, 64)], 0xe000ffff, 0x0, [(31, 30), (29, 29), (15, 0)], false, .perBlock 32, 0x0⟩,
  ⟨.THA_POOL_LIM, 0x900404, [(0x8000, 16), (0x10, 64)], 0xffffffff, 0x0, [(31, 16), (15, 0)], false, .perBlock 32, 0x0⟩,
  ⟨.THA_POOL_W, 0x900408, [(0x8000, 16), (0x10, 64)], 0xffffffff, 0x0, [], false, .perBlock 32, 0x0⟩,
  ⟨.THA_POOL_STAT, 0x90040c, [(0x8000, 16), (0x10, 64)], 0x0, 0x0, [], false, .none, 0x0⟩,
  ⟨.THA_IN_MAP, 0x900800, [(0x8000, 16), (0x8, 8), (0x4, 2)], 0xffffff, 0x0, [(23, 18), (17, 12), (11, 6), (5, 0)], false, .perBlock 32, 0x0⟩,
  ⟨.THA_OUT_MAP, 0x900900, [(0x8000, 16), (0x10, 6), (0x4, 4)], 0xffffff, 0x0, [(23, 18), (17, 12), (11, 6), (5, 0)], false, .perBlock 32, 0x0⟩,
  ⟨.THA_Q_CFG, 0x900a00, [(0x8000, 16), (0x40, 6), (0x4, 16)], 0xdf1fffff, 0x0, [], false, .perBlock 32, 0x0⟩,
  ⟨.THA_Q_LOFT, 0x900c00, [(0x8000, 16), (0x40, 6), (0x4, 16)], 0xffffffff, 0x0, [], false, .perBlock 32, 0x0⟩,
  ⟨.THA_WRED_TH, 0x901000, [(0x8000, 16), (0x20, 32), (0x8, 3)], 0xffffffff, 0x0, [], true, .none, 0x0⟩,
  ⟨.THA_WRED_P, 0x901004, [(0x8000, 16), (0x20, 32), (0x8, 3)], 0xc0000fff, 0x0, [], true, .none, 0x0⟩,
  ⟨.THA_CSUM_LOG0, 0x980000, [(0x8, 16)], 0x0, 0x0, [], false, .none, 0x0⟩,
  ⟨.THA_CSUM_LOG1, 0x980004, [(0x8, 16)], 0x0, 0x0, [], false, .none, 0x0⟩,
  ⟨.THA_DRIP_LOG, 0x980100, [(0x4, 16)], 0x0, 0x0, [], false, .none, 0x0⟩]

/-- Register kinds of EGS. -/
def kindsEgs0 : List RegKind := [
  ⟨.EGS_GCL0, 0xa00000, [(0x2000, 96), (0x8, 256)], 0xffffff, 0x0, [], true, .fixed 50, 0x0⟩,
  ⟨.EGS_GCL1, 0xa00004, [(0x2000, 96), (0x8, 256)], 0x8000ffff, 0x0, [], true, .fixed 50, 0x0⟩,
  ⟨.EGS_GCL_CFG, 0xa00800, [(0x2000, 96)], 0x800301ff, 0x0, [], true, .fixed 50, 0x1⟩,
  ⟨.EGS_GCL_CYCLE, 0xa00804, [(0x2000, 96)], 0xffffff, 0x0, [], true, .fixed 50, 0x1e848⟩,
  ⟨.EGS_GCL_BASE_SH, 0xa00808, [(0x2000, 96)], 0xffff, 0x0, [], true, .fixed 50, 0x0⟩,
  ⟨.EGS_GCL_BASE_SL, 0xa0080c, [(0x2000, 96)], 0xffffffff, 0x0, [], true, .fixed 50, 0x0⟩,
  ⟨.EGS_GCL_BASE_NS, 0xa00810, [(0x2000, 96)], 0x3fffffff, 0x0, [], true, .fixed 50, 0x0⟩,
  ⟨.EGS_PSHP, 0xa00820, [(0x2000, 96)], 0x9fffffff, 0x0, [], true, .fixed 50, 0x0⟩,
  ⟨.EGS_PSHP_BURST, 0xa00824, [(0x2000, 96)], 0xffffff, 0x0, [], true, .fixed 50, 0x2800⟩,
  ⟨.EGS_PSHP_BKT, 0xa00828, [(0x2000, 96)], 0x0, 0x0, [], false, .none, 0x2800⟩,
  ⟨.EGS_PORT_STAT, 0xa00830, [(0x2000, 96)], 0x0, 0x0, [(31, 31)], false, .none, 0x0⟩,
  ⟨.EGS_OBS_CFG, 0xa00840, [(0x2000, 96)], 0xc00003ff, 0x0, [], false, .fixed 50, 0x64⟩,
  ⟨.EGS_OBS_CTL, 0xa00844, [(0x2000, 96)], 0x0, 0x1, [], false, .fixed 50, 0x0⟩,
  ⟨.EGS_BR_LIM, 0xa00850, [(0x2000, 96)], 0xffffff, 0x0, [(23, 0)], false, .fixed 50, 0x0⟩,
  ⟨.EGS_Q_W, 0xa01000, [(0x2000, 96), (0x100, 16)], 0xfff, 0x0, [], true, .fixed 50, 0x1⟩,
  ⟨.EGS_QSHP, 0xa01004, [(0x2000, 96), (0x100, 16)], 0x9fffffff, 0x0, [], true, .fixed 50, 0x0⟩]

/-- Register kinds of EGS. -/
def kindsEgs1 : List RegKind := [
  ⟨.EGS_QSHP_BURST, 0xa01008, [(0x2000, 96), (0x100, 16)], 0xffffff, 0x0, [], true, .fixed 50, 0x2800⟩,
  ⟨.EGS_QSHP_BKT, 0xa0100c, [(0x2000, 96), (0x100, 16)], 0x0, 0x0, [], false, .none, 0x2800⟩,
  ⟨.EGS_AGE, 0xa01010, [(0x2000, 96), (0x100, 16)], 0xfffff, 0x0, [], false, .fixed 50, 0x0⟩,
  ⟨.EGS_Q_WIN, 0xa01014, [(0x2000, 96), (0x100, 16)], 0x0, 0x0, [], false, .none, 0xffffffff⟩,
  ⟨.EGS_OBS_DMIN, 0xa01020, [(0x2000, 96), (0x100, 16)], 0x0, 0x0, [], false, .none, 0xffffffff⟩,
  ⟨.EGS_OBS_DMAX, 0xa01024, [(0x2000, 96), (0x100, 16)], 0x0, 0x0, [], false, .none, 0x0⟩,
  ⟨.EGS_OBS_DLAST, 0xa01028, [(0x2000, 96), (0x100, 16)], 0x0, 0x0, [], false, .none, 0x0⟩,
  ⟨.EGS_OBS_TMIN, 0xa01030, [(0x2000, 96), (0x100, 16)], 0x0, 0x0, [], false, .none, 0xffffffff⟩,
  ⟨.EGS_OBS_TMAX, 0xa01034, [(0x2000, 96), (0x100, 16)], 0x0, 0x0, [], false, .none, 0x0⟩,
  ⟨.EGS_OBS_TLAST, 0xa01038, [(0x2000, 96), (0x100, 16)], 0x0, 0x0, [], false, .none, 0x0⟩,
  ⟨.EGS_OBS_HIST, 0xa01040, [(0x2000, 96), (0x100, 16), (0x4, 16)], 0x0, 0x0, [], false, .none, 0x0⟩,
  ⟨.EGS_CFG, 0xac0000, [], 0xff, 0x0, [], false, .none, 0x5⟩,
  ⟨.EGS_VIEW, 0xac0004, [], 0x1, 0x0, [], false, .none, 0x0⟩,
  ⟨.EGS_STAT, 0xac0010, [], 0x0, 0x0, [], false, .none, 0x0⟩]

/-- Register kinds of EGS. -/
def kindsEgs : List RegKind := kindsEgs0 ++ kindsEgs1

/-- Register kinds of QTZ. -/
def kindsQtz0 : List RegKind := [
  ⟨.QTZ_CFG, 0xb00000, [], 0x1, 0x0, [], false, .fixed 51, 0x0⟩,
  ⟨.QTZ_STAT, 0xb00004, [], 0x0, 0x0, [], false, .none, 0x0⟩,
  ⟨.QTZ_LT_CAP, 0xb00010, [], 0x0, 0x1, [], false, .fixed 51, 0x0⟩,
  ⟨.QTZ_CAP_LT_HI, 0xb00014, [], 0x0, 0x0, [], false, .none, 0x0⟩,
  ⟨.QTZ_CAP_LT_LO, 0xb00018, [], 0x0, 0x0, [], false, .none, 0x0⟩,
  ⟨.QTZ_CAP_LT_FRAC, 0xb0001c, [], 0x0, 0x0, [], false, .none, 0x0⟩,
  ⟨.QTZ_CAP_D, 0xb00020, [(0x10, 4), (0x4, 4)], 0x0, 0x0, [], false, .none, 0x0⟩,
  ⟨.QTZ_D_ADJ_LO, 0xb00100, [(0x40, 4)], 0xffffffff, 0x0, [], false, .fixed 51, 0x0⟩,
  ⟨.QTZ_D_ADJ_HI, 0xb00104, [(0x40, 4)], 0xff, 0x0, [], false, .fixed 51, 0x0⟩,
  ⟨.QTZ_D_VAL0, 0xb00108, [(0x40, 4)], 0xffffffff, 0x0, [], false, .fixed 51, 0x0⟩,
  ⟨.QTZ_D_VAL1, 0xb0010c, [(0x40, 4)], 0xffffffff, 0x0, [], false, .fixed 51, 0x0⟩,
  ⟨.QTZ_D_VAL2, 0xb00110, [(0x40, 4)], 0xffffffff, 0x0, [], false, .fixed 51, 0x0⟩,
  ⟨.QTZ_D_AT_HI, 0xb00114, [(0x40, 4)], 0xffffffff, 0x0, [], false, .fixed 51, 0x0⟩,
  ⟨.QTZ_D_AT_LO, 0xb00118, [(0x40, 4)], 0xffffffff, 0x0, [], false, .fixed 51, 0x0⟩,
  ⟨.QTZ_D_SLEW_RATE, 0xb0011c, [(0x40, 4)], 0xffffffff, 0x0, [], false, .fixed 51, 0x1000000⟩,
  ⟨.QTZ_D_CMD, 0xb00120, [(0x40, 4)], 0x0, 0x3, [], false, .fixed 51, 0x0⟩]

/-- Register kinds of QTZ. -/
def kindsQtz1 : List RegKind := [
  ⟨.QTZ_D_STAT, 0xb00124, [(0x40, 4)], 0x0, 0x0, [], false, .none, 0x0⟩,
  ⟨.QTZ_D_SLEW_REM, 0xb00128, [(0x40, 4)], 0x0, 0x0, [], false, .none, 0x0⟩,
  ⟨.QTZ_LANE_CORR_RX, 0xb00400, [(0x8, 96)], 0xffffffff, 0x0, [], false, .fixed 51, 0x0⟩,
  ⟨.QTZ_LANE_CORR_TX, 0xb00404, [(0x8, 96)], 0xffffffff, 0x0, [], false, .fixed 51, 0x0⟩,
  ⟨.QTZ_TOUT_CFG, 0xb00800, [(0x20, 8)], 0xe3000000, 0x0, [], false, .fixed 51, 0x0⟩,
  ⟨.QTZ_TOUT_START_SH, 0xb00804, [(0x20, 8)], 0xffff, 0x0, [], false, .fixed 51, 0x0⟩,
  ⟨.QTZ_TOUT_START_SL, 0xb00808, [(0x20, 8)], 0xffffffff, 0x0, [], false, .fixed 51, 0x0⟩,
  ⟨.QTZ_TOUT_START_NS, 0xb0080c, [(0x20, 8)], 0x3fffffff, 0x0, [], false, .fixed 51, 0x0⟩,
  ⟨.QTZ_TOUT_PERIOD, 0xb00810, [(0x20, 8)], 0xffffffff, 0x0, [], false, .fixed 51, 0x3b9aca00⟩,
  ⟨.QTZ_TOUT_WIDTH, 0xb00814, [(0x20, 8)], 0xffffffff, 0x0, [], false, .fixed 51, 0x5f5e100⟩,
  ⟨.QTZ_TIN_CFG, 0xb00a00, [(0x20, 4)], 0xe00000ff, 0x0, [], false, .fixed 51, 0x20000004⟩,
  ⟨.QTZ_TIN_STAT, 0xb00a04, [(0x20, 4)], 0x0, 0x0, [], false, .none, 0x0⟩,
  ⟨.QTZ_TIN_HEAD_HI, 0xb00a08, [(0x20, 4)], 0x0, 0x0, [], false, .none, 0x0⟩,
  ⟨.QTZ_TIN_HEAD_LO, 0xb00a0c, [(0x20, 4)], 0x0, 0x0, [], false, .none, 0x0⟩,
  ⟨.QTZ_TIN_HEAD_FRAC, 0xb00a10, [(0x20, 4)], 0x0, 0x0, [], false, .none, 0x0⟩,
  ⟨.QTZ_TIN_POP, 0xb00a14, [(0x20, 4)], 0x0, 0x1, [], false, .fixed 51, 0x0⟩]

/-- Register kinds of QTZ. -/
def kindsQtz2 : List RegKind := [
  ⟨.QTZ_PPS_CFG, 0xb00b00, [], 0xc0000000, 0x0, [], false, .fixed 51, 0x0⟩,
  ⟨.QTZ_PPS_LAST_HI, 0xb00b04, [], 0x0, 0x0, [], false, .none, 0x0⟩,
  ⟨.QTZ_PPS_LAST_LO, 0xb00b08, [], 0x0, 0x0, [], false, .none, 0x0⟩,
  ⟨.QTZ_PPS_LAST_FRAC, 0xb00b0c, [], 0x0, 0x0, [], false, .none, 0x0⟩,
  ⟨.QTZ_PPS_COUNT, 0xb00b10, [], 0x0, 0x0, [], false, .none, 0x0⟩,
  ⟨.QTZ_SYNCE_CFG, 0xb00c00, [(0x10, 2)], 0x807f03ff, 0x0, [], false, .fixed 51, 0x8⟩,
  ⟨.QTZ_SYNCE_STAT, 0xb00c04, [(0x10, 2)], 0x0, 0x0, [], false, .none, 0x80000000⟩,
  ⟨.QTZ_ECHO_CFG, 0xb00d00, [], 0x13f, 0x0, [], false, .fixed 51, 0x0⟩]

/-- Register kinds of QTZ. -/
def kindsQtz : List RegKind := kindsQtz0 ++ kindsQtz1 ++ kindsQtz2

/-- Register kinds of GUT. -/
def kindsGut0 : List RegKind := [
  ⟨.GUT_CFG, 0xc00000, [], 0xf000000f, 0x0, [], false, .fixed 52, 0x4⟩,
  ⟨.GUT_STAT, 0xc00004, [], 0x0, 0x0, [], false, .none, 0x0⟩,
  ⟨.GUT_WR, 0xc00008, [], 0x0, 0x0, [], false, .none, 0x0⟩,
  ⟨.GUT_RD, 0xc0000c, [], 0x7ffffff, 0x0, [], false, .none, 0x0⟩,
  ⟨.GUT_SEQ, 0xc00010, [], 0x0, 0x0, [], false, .none, 0x0⟩,
  ⟨.GUT_DROP_CFG, 0xc00020, [], 0xe07f0000, 0x0, [], false, .fixed 52, 0x0⟩,
  ⟨.GUT_DROP_N, 0xc00024, [], 0xffffff, 0x0, [], false, .fixed 52, 0x1⟩,
  ⟨.GUT_SES_CFG, 0xc00100, [(0x10, 16)], 0xffffff00, 0x0, [], false, .fixed 52, 0x0⟩,
  ⟨.GUT_SES_FIX, 0xc00104, [(0x10, 16)], 0xffff0000, 0x0, [], false, .fixed 52, 0xffff0000⟩,
  ⟨.GUT_SES_TMPL, 0xc00200, [(0x40, 16), (0x4, 16)], 0xffffffff, 0x0, [], false, .fixed 52, 0x0⟩,
  ⟨.GUT_SAMP_CFG, 0xc01000, [(0x8, 96)], 0xf0ffffff, 0x0, [], false, .fixed 52, 0x1⟩,
  ⟨.GUT_BRW_TH, 0xc01004, [(0x8, 96)], 0xc0ffffff, 0x0, [], false, .fixed 52, 0x0⟩,
  ⟨.GUT_BRW_IN, 0xc01400, [(0x4, 96)], 0xffffff, 0x0, [], false, .fixed 52, 0x0⟩,
  ⟨.GUT_EXP_CFG, 0xc02000, [], 0xffffffff, 0x0, [], false, .fixed 52, 0x2300⟩,
  ⟨.GUT_EXP_SEND, 0xc02004, [], 0xffff01ff, 0x0, [], false, .fixed 52, 0x640040⟩,
  ⟨.GUT_EXP_HDR, 0xc02100, [(0x4, 64)], 0xffffffff, 0x0, [], false, .fixed 52, 0x0⟩]

/-- Register kinds of GUT. -/
def kindsGut1 : List RegKind := [
  ⟨.STA_CFG, 0xc80000, [], 0xff, 0x0, [], false, .none, 0x5⟩,
  ⟨.STA_SNAP_STAT, 0xc80010, [], 0x0, 0x0, [], false, .none, 0x0⟩,
  ⟨.STA_SNAP_GEN, 0xc80020, [(0x4, 5)], 0x0, 0x0, [], false, .none, 0x0⟩,
  ⟨.STA_SNAP_LT_LO, 0xc80040, [], 0x0, 0x0, [], false, .none, 0x0⟩,
  ⟨.STA_SNAP_LT_HI, 0xc80044, [], 0x0, 0x0, [], false, .none, 0x0⟩,
  ⟨.STA_HALF_LOG, 0xc80800, [(0x4, 256)], 0x0, 0x0, [], false, .none, 0x0⟩]

/-- Register kinds of GUT. -/
def kindsGut : List RegKind := kindsGut0 ++ kindsGut1

/-- Register kinds of PMU. -/
def kindsPmu0 : List RegKind := [
  ⟨.PMU_USER_CYC, 0xd00000, [(0x4, 2)], 0x0, 0x0, [], false, .none, 0x0⟩,
  ⟨.PMU_USER_LT, 0xd00008, [(0x4, 2)], 0x0, 0x0, [], false, .none, 0x0⟩,
  ⟨.PMU_USER_CTR, 0xd00100, [(0x8, 64), (0x4, 2)], 0x0, 0x0, [], false, .none, 0x0⟩,
  ⟨.PMU_CTL, 0xd01000, [], 0xc0000000, 0x0, [], false, .none, 0x0⟩,
  ⟨.PMU_USER, 0xd01004, [], 0x1, 0x0, [], false, .none, 0x0⟩,
  ⟨.PMU_CYC_LO, 0xd01010, [], 0x0, 0x0, [], false, .none, 0x0⟩,
  ⟨.PMU_CYC_HI, 0xd01014, [], 0x0, 0x0, [], false, .none, 0x0⟩,
  ⟨.PMU_LT_LO, 0xd01018, [], 0x0, 0x0, [], false, .none, 0x0⟩,
  ⟨.PMU_LT_HI, 0xd0101c, [], 0x0, 0x0, [], false, .none, 0x0⟩,
  ⟨.PMU_SEL, 0xd01100, [(0x10, 64)], 0xffffffff, 0x0, [], false, .none, 0xc0000000⟩,
  ⟨.PMU_CTR_CFG, 0xd01104, [(0x10, 64)], 0xc0000000, 0x0, [], false, .none, 0x0⟩,
  ⟨.PMU_CTR_LO, 0xd01108, [(0x10, 64)], 0xffffffff, 0x0, [], false, .none, 0x0⟩,
  ⟨.PMU_CTR_HI, 0xd0110c, [(0x10, 64)], 0xffff, 0x0, [], false, .none, 0x0⟩,
  ⟨.PMU_RELOAD_LO, 0xd01500, [(0x8, 64)], 0xffffffff, 0x0, [], false, .none, 0x0⟩,
  ⟨.PMU_RELOAD_HI, 0xd01504, [(0x8, 64)], 0xffff, 0x0, [], false, .none, 0x0⟩,
  ⟨.PMU_SMP, 0xd01800, [(0x10, 64), (0x4, 4)], 0x0, 0x0, [], false, .none, 0x0⟩]

/-- Register kinds of PMU. -/
def kindsPmu1 : List RegKind := [
  ⟨.PMU_HOLD, 0xd01c00, [(0x8, 64), (0x4, 2)], 0x0, 0x0, [], false, .none, 0x0⟩,
  ⟨.PMU_HOLD_CYC, 0xd01e00, [(0x4, 2)], 0x0, 0x0, [], false, .none, 0x0⟩,
  ⟨.PMU_HOLD_LT, 0xd01e08, [(0x4, 2)], 0x0, 0x0, [], false, .none, 0x0⟩,
  ⟨.PMU_BW_CFG, 0xd02000, [], 0xfffff, 0x0, [], false, .none, 0x3e8⟩,
  ⟨.PMU_BW_CTL, 0xd02004, [], 0x0, 0x1, [], false, .fixed 52, 0x0⟩,
  ⟨.PMU_BW, 0xd02100, [(0x10, 96), (0x4, 4)], 0x0, 0x0, [], false, .none, 0x0⟩]

/-- Register kinds of PMU. -/
def kindsPmu : List RegKind := kindsPmu0 ++ kindsPmu1

/-- Register kinds of LFT. -/
def kindsLft0 : List RegKind := [
  ⟨.LFT_STAT, 0xe00000, [], 0x0, 0x0, [], false, .none, 0x0⟩,
  ⟨.LFT_TRAIN_CFG, 0xe00004, [], 0xff, 0x0, [], false, .fixed 53, 0xa⟩,
  ⟨.LFT_RH_CFG, 0xe00010, [], 0xffffff00, 0x0, [], false, .fixed 53, 0x10002000⟩,
  ⟨.LFT_RH_THR, 0xe00014, [], 0xffffffff, 0x0, [], false, .fixed 53, 0x3e803e8⟩,
  ⟨.LFT_RH_LOG0, 0xe00100, [(0x8, 16)], 0x0, 0x0, [], false, .none, 0x0⟩,
  ⟨.LFT_RH_LOG1, 0xe00104, [(0x8, 16)], 0x0, 0x0, [], false, .none, 0x0⟩,
  ⟨.LFT_CH_STAT, 0xe01000, [(0x100, 32)], 0x0, 0x0, [], false, .none, 0x0⟩,
  ⟨.LFT_TIM, 0xe01004, [(0x100, 32)], 0xff, 0x0, [], false, .fixed 53, 0xc0⟩,
  ⟨.LFT_WL, 0xe01010, [(0x100, 32)], 0xffff, 0x0, [], false, .fixed 53, 0x0⟩,
  ⟨.LFT_RDQS, 0xe01014, [(0x100, 32)], 0xffff, 0x0, [], false, .fixed 53, 0x0⟩,
  ⟨.LFT_DQ, 0xe01020, [(0x100, 32), (0x4, 4)], 0xffffffff, 0x0, [], false, .fixed 53, 0x0⟩,
  ⟨.LFT_CA0, 0xe01030, [(0x100, 32)], 0xffffffff, 0x0, [], false, .fixed 53, 0x0⟩,
  ⟨.LFT_CA1, 0xe01034, [(0x100, 32)], 0xffffffff, 0x0, [], false, .fixed 53, 0x0⟩,
  ⟨.LFT_VREF, 0xe01038, [(0x100, 32)], 0xffff, 0x0, [], false, .fixed 53, 0x0⟩,
  ⟨.PUR_CTL, 0xe40000, [], 0x3, 0x0, [], false, .fixed 53, 0x0⟩,
  ⟨.PUR_STAT, 0xe40004, [], 0x0, 0x0, [], false, .none, 0x40000000⟩]

/-- Register kinds of LFT. -/
def kindsLft1 : List RegKind := [
  ⟨.PUR_QUOTA, 0xe40008, [], 0xffffffff, 0x0, [], false, .fixed 53, 0x4000100⟩,
  ⟨.PUR_PRIO, 0xe40100, [(0x4, 64)], 0x107, 0x0, [], false, .fixed 53, 0x0⟩,
  ⟨.PUR_REQ_STAT, 0xe40200, [(0x4, 64)], 0x0, 0x0, [], false, .none, 0x0⟩,
  ⟨.PUR_ARB_STAT, 0xe40400, [(0x4, 18)], 0x0, 0x0, [], false, .none, 0x0⟩]

/-- Register kinds of LFT. -/
def kindsLft : List RegKind := kindsLft0 ++ kindsLft1

/-- Register kinds of MCA. -/
def kindsMca : List RegKind := [
  ⟨.MCA_CFG, 0xf00000, [], 0xffffc600, 0x0, [], false, .fixed 54, 0x10000400⟩,
  ⟨.MCA_STAT, 0xf00010, [], 0x0, 0x0, [], false, .none, 0x0⟩,
  ⟨.MCA_SCN_STAT, 0xf00100, [(0x4, 16)], 0x0, 0x0, [], false, .none, 0x0⟩,
  ⟨.MCA_SCN_CFG, 0xf00200, [(0x4, 16)], 0x1, 0x0, [], false, .fixed 54, 0x0⟩,
  ⟨.MCA_SET_STAT, 0xf00400, [(0x4, 16)], 0x0, 0x0, [], false, .none, 0x0⟩,
  ⟨.MCA_SET_INFO, 0xf00440, [(0x4, 16)], 0x0, 0x0, [], false, .none, 0x0⟩]

/-- Register kinds of GNS. -/
def kindsGns : List RegKind := [
  ⟨.GNS_STAT, 0x1000000, [], 0x0, 0x0, [], false, .none, 0x20000000⟩,
  ⟨.GNS_ABORT, 0x1000008, [], 0x0, 0xffff, [], false, .fixed 56, 0x0⟩,
  ⟨.GNS_PATCH, 0x1000010, [], 0x0, 0x0, [], false, .none, 0x0⟩,
  ⟨.GNS_PATCH_MIN, 0x1000014, [], 0x0, 0x0, [], false, .none, 0x0⟩,
  ⟨.GNS_SP_GAP, 0x1000020, [], 0x0, 0x0, [], false, .none, 0x0⟩,
  ⟨.GNS_TRAP_LOG0, 0x1000030, [], 0x0, 0x0, [], false, .none, 0x0⟩,
  ⟨.GNS_TRAP_LOG1, 0x1000034, [], 0x0, 0x0, [], false, .none, 0x0⟩,
  ⟨.GNS_MATCH, 0x1000100, [(0x4, 64)], 0x0, 0x0, [], false, .none, 0x0⟩]

/-- Register kinds of TWN. -/
def kindsTwn : List RegKind := [
  ⟨.TWN_CFG, 0x1100000, [], 0xe000ffff, 0x0, [(31, 31)], false, .fixed 55, 0x20000400⟩,
  ⟨.TWN_ROLE, 0x1100004, [], 0x1, 0x0, [(0, 0)], false, .fixed 55, 0x0⟩,
  ⟨.TWN_CYC, 0x1100010, [], 0x3ffffff, 0x0, [], false, .fixed 55, 0x1e848⟩,
  ⟨.TWN_BASE_SH, 0x1100014, [], 0xffff, 0x0, [], false, .fixed 55, 0x0⟩,
  ⟨.TWN_BASE_SL, 0x1100018, [], 0xffffffff, 0x0, [], false, .fixed 55, 0x0⟩,
  ⟨.TWN_BASE_NS, 0x110001c, [], 0x3fffffff, 0x0, [], false, .fixed 55, 0x0⟩,
  ⟨.TWN_STAT, 0x1100020, [], 0x0, 0x0, [], false, .none, 0x0⟩,
  ⟨.TWN_LAG, 0x1100024, [], 0x0, 0x0, [], false, .none, 0x0⟩,
  ⟨.TWN_DELAY, 0x1100028, [], 0x0, 0x0, [], false, .none, 0x0⟩,
  ⟨.TWN_CTL, 0x1100030, [], 0x0, 0x1, [], false, .none, 0x0⟩,
  ⟨.TWN_APPLY_FAIL_CNT, 0x1100440, [], 0x0, 0x0, [], false, .none, 0x0⟩]

/-- Register kinds of PWR. -/
def kindsPwr : List RegKind := [
  ⟨.PWR_STAT, 0x1200000, [], 0x0, 0x0, [], false, .none, 0x20000000⟩,
  ⟨.PWR_CTL, 0x1200004, [], 0x1, 0x2, [], false, .fixed 58, 0x0⟩,
  ⟨.PWR_RST, 0x1200008, [], 0x0, 0xffff, [], false, .none, 0x0⟩,
  ⟨.PWR_GOV, 0x1200010, [], 0xffff007f, 0x0, [], false, .fixed 58, 0x640028⟩,
  ⟨.PWR_FLT_EN, 0x1200014, [], 0xffff, 0x0, [], false, .fixed 58, 0x0⟩,
  ⟨.PWR_QUEUE, 0x1200018, [], 0x0, 0x0, [], false, .none, 0x0⟩,
  ⟨.PWR_DEFER_MAX, 0x120001c, [], 0x0, 0x0, [], false, .none, 0x0⟩,
  ⟨.PWR_CLK_STAT, 0x1200020, [], 0x0, 0x0, [], false, .none, 0x0⟩,
  ⟨.PWR_GRANT_CNT, 0x1200040, [], 0x0, 0x0, [], false, .none, 0x0⟩,
  ⟨.PWR_TEMP, 0x1200060, [], 0x0, 0x0, [], false, .none, 0x0⟩,
  ⟨.PWR_WAKE_LOG0, 0x1200100, [(0x8, 16)], 0x0, 0x0, [], false, .none, 0x0⟩,
  ⟨.PWR_WAKE_LOG1, 0x1200104, [(0x8, 16)], 0x0, 0x0, [], false, .none, 0x0⟩,
  ⟨.PWR_UNIT_STAT, 0x1200400, [(0x4, 138)], 0x0, 0x0, [], false, .none, 0x0⟩]

/-- The kinds of the block of R426 that an offset lies in. -/
def kindsAt (off : Nat) : List RegKind :=
  if off < 0x100000 then kindsGlb
  else if off < 0x200000 then kindsEvt
  else if off < 0x400000 then kindsCmd
  else if off < 0x600000 then kindsPb
  else if off < 0x700000 then kindsFlt
  else if off < 0x800000 then kindsSlt
  else if off < 0x900000 then kindsRdg
  else if off < 0xa00000 then kindsTha
  else if off < 0xb00000 then kindsEgs
  else if off < 0xc00000 then kindsQtz
  else if off < 0xd00000 then kindsGut
  else if off < 0xe00000 then kindsPmu
  else if off < 0xf00000 then kindsLft
  else if off < 0x1000000 then kindsMca
  else if off < 0x1100000 then kindsGns
  else if off < 0x1200000 then kindsTwn
  else if off < 0x1300000 then kindsPwr
  else []

/-- The place indices of an offset `rem` bytes above a kind's base, outermost first. -/
def placeOf : List (Nat × Nat) → Nat → Option (List Nat)
  | [], rem => if rem = 0 then some [] else none
  | (st, n) :: ds, rem =>
    if rem / st < n then (placeOf ds (rem % st)).map (fun l => rem / st :: l) else none

/-- The place indices of `off` when it is a register of kind `k`. -/
def RegKind.place (k : RegKind) (off : Nat) : Option (List Nat) :=
  if off < k.base then none else placeOf k.dims (off - k.base)

/-- The register at a BAR0 offset: its kind and place indices; none where R426 defines no register. -/
def regAt (off : Nat) : Option (RegKind × List Nat) :=
  (kindsAt off).findSome? (fun k => (k.place off).map (fun p => (k, p)))

/-- The offset of the register of kind `k` at the place `p`. -/
def RegKind.offset (k : RegKind) (p : List Nat) : Nat :=
  (k.dims.zip p).foldl (fun a dp => a + dp.1.1 * dp.2) k.base

/-- Where the event counters of one event of a group set lie: `cnt` is the offset of the _CNT register of
the first group, the _ACK register stands 4 above it. -/
structure EventKind where
  /-- first group and number of groups (R439) -/
  group : Nat
  groups : Nat
  bit : Nat
  cnt : Nat
  /-- distance of the counters of neighbouring groups; 0 for the per-port placement of the PB block -/
  stride : Nat
deriving DecidableEq, Repr

/-- The events of R439 in group order (the event tables of the chapters). -/
def eventKinds : List EventKind := [
  ⟨0, 96, 0, 0x400400, 0x0⟩  ,
  ⟨0, 96, 1, 0x400408, 0x0⟩  ,
  ⟨0, 96, 2, 0x400410, 0x0⟩  ,
  ⟨0, 96, 3, 0x400418, 0x0⟩  ,
  ⟨0, 96, 4, 0x400420, 0x0⟩  ,
  ⟨0, 96, 5, 0xa00900, 0x2000⟩  ,
  ⟨0, 96, 6, 0xa00908, 0x2000⟩  ,
  ⟨96, 16, 0, 0x600400, 0x10000⟩  ,
  ⟨96, 16, 1, 0x600408, 0x10000⟩  ,
  ⟨96, 16, 2, 0x600410, 0x10000⟩  ,
  ⟨96, 16, 3, 0x600418, 0x10000⟩  ,
  ⟨112, 16, 0, 0x902000, 0x8000⟩  ,
  ⟨112, 16, 1, 0x902008, 0x8000⟩  ,
  ⟨112, 16, 2, 0x902010, 0x8000⟩  ,
  ⟨112, 16, 3, 0x902018, 0x8000⟩  ,
  ⟨112, 16, 4, 0x902020, 0x8000⟩  ,
  ⟨112, 16, 5, 0x902028, 0x8000⟩  ,
  ⟨128, 1, 0, 0x70c400, 0x4⟩  ,
  ⟨128, 1, 1, 0x70c408, 0x4⟩  ,
  ⟨128, 1, 2, 0x70c410, 0x4⟩  ,
  ⟨128, 1, 3, 0x700800, 0x4⟩  ,
  ⟨128, 1, 4, 0x700808, 0x4⟩  ,
  ⟨128, 1, 5, 0x700810, 0x4⟩  ,
  ⟨129, 1, 0, 0xf00800, 0x4⟩  ,
  ⟨129, 1, 1, 0xf00808, 0x4⟩  ,
  ⟨130, 1, 0, 0x800400, 0x4⟩  ,
  ⟨130, 1, 1, 0x800408, 0x4⟩  ,
  ⟨130, 1, 2, 0x800410, 0x4⟩  ,
  ⟨130, 1, 3, 0x800418, 0x4⟩  ,
  ⟨131, 1, 0, 0x980400, 0x4⟩  ,
  ⟨131, 1, 1, 0x980408, 0x4⟩  ,
  ⟨131, 1, 2, 0x980410, 0x4⟩  ,
  ⟨132, 1, 0, 0xac0400, 0x4⟩  ,
  ⟨133, 1, 0, 0xb00f00, 0x4⟩  ,
  ⟨133, 1, 1, 0xb00f08, 0x4⟩  ,
  ⟨133, 1, 2, 0xb00f10, 0x4⟩  ,
  ⟨133, 1, 3, 0xb00f18, 0x4⟩  ,
  ⟨133, 1, 4, 0xb00f20, 0x4⟩  ,
  ⟨133, 1, 5, 0xb00f28, 0x4⟩  ,
  ⟨134, 1, 0, 0xc03000, 0x4⟩  ,
  ⟨134, 1, 1, 0xc03008, 0x4⟩  ,
  ⟨134, 1, 2, 0xc80400, 0x4⟩  ,
  ⟨134, 1, 3, 0xc80408, 0x4⟩  ,
  ⟨134, 1, 4, 0xd01f00, 0x4⟩  ,
  ⟨135, 1, 0, 0xe00800, 0x4⟩  ,
  ⟨135, 1, 1, 0xe00808, 0x4⟩  ,
  ⟨136, 1, 0, 0x1100400, 0x4⟩  ,
  ⟨136, 1, 1, 0x1100408, 0x4⟩  ,
  ⟨136, 1, 2, 0x1100410, 0x4⟩  ,
  ⟨136, 1, 3, 0x1100418, 0x4⟩  ,
  ⟨136, 1, 4, 0x1100420, 0x4⟩  ,
  ⟨136, 1, 5, 0x1100428, 0x4⟩  ,
  ⟨137, 1, 0, 0x200a00, 0x4⟩  ,
  ⟨137, 1, 1, 0x200a08, 0x4⟩  ,
  ⟨137, 1, 2, 0x200a10, 0x4⟩  ,
  ⟨137, 1, 3, 0x200a18, 0x4⟩  ,
  ⟨137, 1, 4, 0x200a20, 0x4⟩  ,
  ⟨138, 1, 0, 0x1000400, 0x4⟩  ,
  ⟨138, 1, 1, 0x1000408, 0x4⟩  ,
  ⟨138, 1, 2, 0x1000410, 0x4⟩  ,
  ⟨139, 1, 0, 0x400, 0x4⟩  ,
  ⟨139, 1, 1, 0x408, 0x4⟩  ,
  ⟨139, 1, 2, 0x410, 0x4⟩  ,
  ⟨140, 1, 0, 0x1200800, 0x4⟩  ,
  ⟨140, 1, 1, 0x1200808, 0x4⟩  ]

end Sys2Proof.Machine
end

