-- ==== Sys2Proof/Machine/State.lean ====
section
/-! DEFINITION. The state of the SP-6720 as plain data, the reasons a step can stop, and the state right
after device reset (R447). Every field's default is its value at reset. `Env` holds what only register
writes, the clock and a few commands change; `Dev` holds everything the units of the device change while
they work. Times are counted in thirds of a nanosecond since device reset, two to a core cycle (R23). -/
namespace Sys2Proof.Machine

/-- Sparse table: strictly rising keys; a key that is not listed holds the table's default value. -/
abbrev Tbl (α : Type) := List (Nat × α)

/-- Sparse memory: strictly rising addresses, no byte equal to what an unlisted address reads as. -/
abbrev Memory := List Host.Cell

/-! ## Registers, time and power -/

/-- A posted write that has been accepted and has not landed (R432). -/
structure Posted where
  scope : Nat
  offset : Nat
  value : Word
  /-- the staged low word that lands with it (R435) -/
  low : Option Word := none
deriving DecidableEq, Repr

/-- The register file of BAR0: only values that differ from reset are listed, by BAR0 offset / 4. -/
structure Regs where
  /-- landed values; of an SH register the shadow copy (R6, R262). Reset: the register tables -/
  vals : Tbl Word := []
  /-- active copies of SH registers (R262). Reset: the register tables -/
  active : Tbl Word := []
  /-- second copy of voted registers, as the difference from the first (R429). Reset: equal, 0 -/
  tvB : Tbl Word := []
  /-- third copy of voted registers, as the difference from the first (R429). Reset: equal, 0 -/
  tvC : Tbl Word := []
  /-- staged low words held in the management domain (R435). Reset: none -/
  staged : Tbl Word := []
  /-- posted writes accepted and not landed, oldest first (R432, R433). Reset: none -/
  posted : List Posted := []
deriving DecidableEq, Repr

/-- A domain operation waiting for its apply time, with the latched values (R293). -/
structure DomOp where
  op : Nat
  val : Int
  atNs : Nat
  rate : Nat
deriving DecidableEq, Repr

/-- A Quartz time domain (R290). `count` is 3 × 2^48 times N_d with its 48 hidden fraction bits, as it
stood when LT had run `at3` thirds of a nanosecond. -/
structure Domain where
  /-- N_d with hidden fraction (R290), 96 + 48 bits. Reset 0 -/
  count : Nat := 0
  /-- LT thirds at which `count` held. Reset 0 -/
  at3 : Nat := 0
  /-- a_d, signed 40 bits (R290). Reset 0 -/
  adj : Int := 0
  /-- remainder of the slew in progress in 2^-16 ns × 3 × 2^48; 0 when none (R292). Reset 0 -/
  slewRem : Int := 0
  /-- rate of the slew in progress, 2^-40 per ns, as latched (R293). Reset 0 -/
  slewRate : Nat := 0
  /-- a slew is in progress (QTZ_D_STAT.slewing). Reset false -/
  slewing : Bool := false
  /-- pending operation (QTZ_D_STAT.pending, R293). Reset none -/
  pend : Option DomOp := none
deriving DecidableEq, Repr

/-- What changes only by register writes, the clock, and a few commands that act on the whole device. -/
structure Env where
  /-- thirds of a nanosecond since device reset (R23). Reset 0 -/
  third : Nat := 0
  /-- the third at which the time PLL first locked and LT started (R286). Reset none: LT stands at 0 -/
  ltBase : Option Nat := none
  regs : Regs := {}
  /-- straps as sampled at reset (R444). Reset: DESIGN CHOICE all zero until PERST_RISE samples them -/
  straps : Straps := { devid := 0, twinRole := false, bootSrc := 0, pcieWidth := false }
  /-- Quartz domains D0-D3 (R290). Reset: counts and ratios 0 -/
  doms : List Domain := [{}, {}, {}, {}]
  /-- PERST_N is high: the reset ball has risen (R447, R449). Reset false -/
  perst : Bool := false
deriving DecidableEq, Repr

/-! ## Events, interrupts, statistics, performance counters -/

/-- Event counters and MSI-X (R437-R441). Event keys are 8 × group + bit. -/
structure EvtSt where
  /-- _CNT registers, 32 bits (R437). Reset 0 -/
  cnt : Tbl Word := []
  /-- _ACK registers, 32 bits (R437). Reset 0 -/
  ack : Tbl Word := []
  /-- PF0 vectors whose MSI-X mask bit is clear (R441). Reset: PRESUMED every vector masked (PCI Express) -/
  unmasked : Tbl Bool := []
  /-- MSI-X function mask of PF0 (R441). Reset: PRESUMED clear (PCI Express) -/
  fnMask : Bool := false
  /-- pending bit array of PF0 (R441). Reset clear -/
  pba : Tbl Bool := []
  /-- messages sent so far on each PF0 vector (R440). Model's record; reset 0 -/
  sent : Tbl Nat := []
deriving DecidableEq, Repr

/-- A snapshot accepted and not yet taken (R333). -/
structure SnapReq where
  /-- the instant, in LT ns -/
  lt : Nat
  /-- group mask -/
  groups : Nat
  /-- the requested time had passed -/
  late : Bool
  /-- command slot -/
  slot : Nat
  /-- counters advanced since their domain's copy edge, with their values at that edge (R25): by BAR0 offset / 8 -/
  saved : Tbl Nat := []
deriving DecidableEq, Repr

/-- Statistics counters and their snapshots (R328-R334). Counter keys are the BAR0 offset of the low word divided by 8. -/
structure StatSt where
  /-- live counters, 48 bits (R328). Reset 0 -/
  live : Tbl Nat := []
  /-- held copies (R334), 48 bits. Reset 0 -/
  held : Tbl Nat := []
  /-- STA_HALF_LOG, 256 entries of 24 bits (R329). Reset 0 -/
  halfLog : Tbl Nat := []
  /-- device-wide snapshot generation, 32 bits (R333). Reset 0 -/
  gen : Nat := 0
  /-- STA_SNAP_GEN of groups 0-4 (R333). Reset 0 -/
  gens : Tbl Nat := []
  /-- STA_SNAP_LT: LT nanoseconds of the last snapshot instant, 64 bits. Reset 0 -/
  snapLt : Nat := 0
  /-- snapshots whose instant is settled and has not been served, in issue order (R333, R334). Reset none -/
  snaps : List SnapReq := []
deriving DecidableEq, Repr

/-- A flow counter (R335). -/
structure Flow where
  /-- Loft frame total, 64 bits. Reset 0 -/
  frames : Nat := 0
  /-- Loft byte total, 64 bits. Reset 0 -/
  bytes : Nat := 0
  /-- frame accumulator, 20 bits. Reset 0 -/
  accF : Nat := 0
  /-- byte accumulator, 32 bits. Reset 0 -/
  accB : Nat := 0
  /-- sat flag. Reset false -/
  sat : Bool := false
  /-- lost flag. Reset false -/
  lost : Bool := false
deriving DecidableEq, Repr

/-- Performance monitor (R337-R343). -/
structure PmuSt where
  /-- PMU_CTR 0-63, 48 bits; a value of 2^48 or more has overflowed and waits for PMU_OVERFLOW (R339). Reset 0 -/
  ctr : Tbl Nat := []
  /-- PMU_CTL.freeze (R339). Reset 0 -/
  freeze : Bool := false
  /-- performance counters advanced since a pending snapshot's copy edge, with their values at that edge (R25): key
  64 × command slot + counter. Reset none -/
  saved : Tbl Nat := []
  /-- what each counter has added in its latest core cycle of adding: the cycle and the amount (R339). Reset none -/
  now : Tbl (Nat × Nat) := []
  /-- frame context of each counter's overflowing add: in_port, ver, queue (R340). Reset none -/
  ctx : Tbl (Option (Nat × Nat × Nat)) := []
  /-- PMU_SMP: 64 entries of four words (R340). Reset 0 -/
  smp : Tbl Nat := []
  /-- PMU_HOLD: held copies of the 64 counters, PMU_CYC at 64 and PMU_LT at 65 (R333). Reset 0 -/
  hold : Tbl Nat := []
  /-- amounts of the cycle events of R338 in the present core cycle, key 13 × block + i. Reset 0 -/
  cyc : Tbl Nat := []
  /-- the core cycle `cyc` belongs to. Reset 0 -/
  cycAt : Nat := 0
  /-- wire bytes counted in the present window of the bandwidth monitors, key 2 × port + direction
  (R342). Reset 0 -/
  bwBytes : Tbl Nat := []
  /-- LAST words of the bandwidth monitors, kb/s, key as above. Reset 0 -/
  bwLast : Tbl Nat := []
  /-- PEAK words of the bandwidth monitors, kb/s, key as above. Reset 0 -/
  bwPeak : Tbl Nat := []
  /-- time at which each port's present window began. Reset 0 -/
  bwStart : Tbl Nat := []
deriving DecidableEq, Repr

/-- Records and counts of the management domain (R427-R434). -/
structure MgmtSt where
  /-- GLB_VOTE_STAT.pass_us, 16 bits (R430). Reset 0 -/
  passUs : Nat := 0
  /-- the scrubber reads next the first voted register at or above this BAR0 offset (R430). Reset 0 -/
  scrubAt : Nat := 0
  /-- time of the scrubber's last read (R430). Reset 0 -/
  scrubTime : Nat := 0
  /-- time at which the scrub pass in progress began. Reset 0 -/
  passStart : Nat := 0
  /-- GLB_VOTE_LOG (R429). Reset 0 -/
  voteLog : Word := 0
  /-- GLB_PW_DROP_LOG (R434). Reset 0 -/
  dropLog : Word := 0
  /-- GLB_BAD_LOG (R427). Reset 0 -/
  badLog : Word := 0
  /-- the value the last REGISTER_READ or CMD_ISSUE returned to the host, up to 64 bits. Model's record; reset 0 -/
  readData : Nat := 0
deriving DecidableEq, Repr

/-- A request in the step governor's queue (R454). -/
structure PwrReq where
  unit : Nat
  up : Bool
  since : Nat
deriving DecidableEq, Repr

/-- Power and clocks (R444-R459, R471). -/
structure PwrSt where
  /-- PWR_STAT.phase (R449): 0, 2, 5 or 7. It reads 3 in the second half of 2, and 5 while an arbiter has not followed datapath
  enable (`phaseShown`). Reset 2 -/
  phase : Nat := 2
  /-- PWR_STAT.fuse_err (R450). Reset 0 -/
  fuseErr : Bool := false
  /-- PWR_STAT.rom_err (R450). Reset 0 -/
  romErr : Bool := false
  /-- PWR_STAT.bist_done (R450). Reset 0 -/
  bistDone : Bool := false
  /-- PWR_STAT.bist_fail (R450). Reset 0 -/
  bistFail : Bool := false
  /-- the memory self-test runs (R450). Reset false -/
  bistRun : Bool := false
  /-- cluster power-downs stored under R457, bit c. Reset 0 -/
  fltPending : Nat := 0
  /-- requests of the step governor, head first (R454). Reset none -/
  queue : List PwrReq := []
  /-- ramps in progress: unit, up, start time (R454). Reset none -/
  ramps : List (Nat × Bool × Nat) := []
  /-- PWR_UNIT_STAT.on of units 0-137 (R456). Reset off -/
  on : Tbl Bool := []
  /-- PWR_UNIT_STAT.deferral of units 0-137, ns (R459). Reset 0 -/
  deferral : Tbl Nat := []
  /-- PWR_DEFER_MAX, 32 bits (R459). Reset 0 -/
  deferMax : Nat := 0
  /-- PWR_GRANT_CNT, 32 bits (R459). Reset 0 -/
  grants : Nat := 0
  /-- PWR_WAKE_LOG: 16 entries of two words, key 2n + word (R459). Reset 0 -/
  wakeLog : Tbl Nat := []
  /-- PWR_CLK_STAT: SD_REFCLK0-3 in bits 0-3, PCIE_REFCLK 4, SYS_REFCLK 5 (R446). Reset 0 -/
  clkOk : Nat := 0
  /-- PWR_TEMP word (R471). Reset 0 -/
  temp : Word := 0
  /-- THERMTRIP_N is driven low and transmission has stopped (R471). Reset false -/
  tripped : Bool := false
  /-- the time PLL is locked to TREF (R287). Reset false -/
  locked : Bool := false
  /-- the device rails are good; false once POWER_GOOD falls (R465). Reset true -/
  railsGood : Bool := true
  /-- the PCIe link is up. Reset: DESIGN CHOICE true -/
  pcieUp : Bool := true
  /-- time at which datapath enable landed (R451). Reset 0 -/
  dpAt : Nat := 0
deriving DecidableEq, Repr

/-! ## Frames, tiles and Ridge -/

/-- Where a frame stands on its way through its input block (R14). -/
inductive FStage where
  /-- being received or waiting for a dispatch entry -/
  | waiting
  /-- holds a dispatch entry -/
  | entry
  /-- loaded in a thread -/
  | running
  /-- its pass has ended; it waits in the sieve (R89, R90) -/
  | sieved
  /-- released to Ridge, the host slice or discarded -/
  | released
deriving DecidableEq, Repr

/-- A request recorded for transmit or for the end of the pass (R126). -/
structure StampReq where
  /-- kind: 1 correction, 2 originTimestamp, 3 Pdelay_Resp turnaround -/
  kind : Nat
  dom : Nat
  /-- base of the address of the PTP common header: 0 absolute, n + 1 for hN; and its offset (R126) -/
  base : Nat
  off : Nat
deriving DecidableEq, Repr

/-- A frame in its input block (R14, R19, R73). -/
structure Frame where
  /-- md.in_port: 0-112 -/
  inPort : Nat := 0
  /-- input block 0-15 -/
  blk : Nat := 0
  /-- local port 0-7 (R88) -/
  lp : Nat := 0
  /-- the ingress port has the critical attribute (R38) -/
  crit : Bool := false
  /-- the frame's bytes, FCS included, as received and as passes left them -/
  bytes : List Byte := []
  /-- start of its reception, and the rate of its port in kb/s: they give the bytes received so far -/
  startAt : Nat := 0
  rate : Nat := 0
  /-- received to its end -/
  rxDone : Bool := false
  /-- found bad at ingress (R32, R33, R41) -/
  bad : Bool := false
  /-- one of its ingress tiles failed its check at stage 1 (R168, R240) -/
  tileBad : Bool := false
  /-- ingress pool charged and tiles charged to it (R227) -/
  pool : Nat := 0
  charge : Nat := 0
  /-- ingress tiles it holds (R19) -/
  tiles : List Nat := []
  stage : FStage := .waiting
  /-- metadata block, 64 bytes, w0 most significant (R73) -/
  md : BitVec 512 := 0
  /-- header index h0-h7 (R70) -/
  hidx : List (BitVec 16) := []
  /-- its version has been tagged at dispatch (R133) -/
  tagged : Bool := false
  /-- sieve stream and sequence number (R88) -/
  stream : Nat := 0
  seq : Nat := 0
  inSieve : Bool := false
  /-- arrival number among the frames of its block -/
  arrival : Nat := 0
  /-- time its dispatch entry was written (R85) -/
  entryAt : Nat := 0
  /-- time it became complete for the sieve (R89) -/
  completeAt : Option Nat := none
  /-- marked late (R91) -/
  late : Bool := false
  /-- one-step request (R126) -/
  stamp : Option StampReq := none
  /-- checksum requests, with base and offset as above: kind 0 IPv4 header, 1 L4 incremental, 2 L4 full (R126) -/
  csum : Tbl (Nat × Nat) := []
  /-- offsets of the L4 and the network header of an L4 full checksum due at transmit (R127) -/
  l4 : Option (Nat × Nat) := none
  /-- may be cut through as far as ingress is concerned (R42) -/
  ct : Bool := true
  /-- scan requested: enforce mode and depth (R126, R162) -/
  scan : Option (Bool × Nat) := none
  /-- an enforce-mode verdict is awaited, with the time of the request (R89, R166) -/
  holdSince : Option Nat := none
  /-- references that keep the ingress tiles: Mica lanes and queued scans (R167), mirror copies -/
  refs : Nat := 0
  /-- chosen by the ingress sampler, with N (R322) -/
  sampled : Option Nat := none
  /-- cookie of the host send (R386) -/
  cookie : Nat := 0
  /-- host receive rings the frame still goes to -/
  hostRing : Option Nat := none
  /-- crossings of this frame still to be sent -/
  sendsLeft : Nat := 0
  /-- its echo has been made (R305) -/
  echoed : Bool := false
  /-- it has waited for a dispatch entry and was counted for it (R85) -/
  waitCounted : Bool := false
deriving DecidableEq, Repr

/-- One crossing of Ridge: a frame or mirror copy on its way to one output block (R205, R206). -/
structure Send where
  frame : Nat := 0
  cookie : Nat := 0
  inBlk : Nat := 0
  outBlk : Nat := 0
  /-- class group: 1 Bedrock, 0 other -/
  cg : Nat := 0
  lp : Nat := 0
  /-- descriptor words d0-d7; d0.seq is set as the descriptor shingle is sent (R205, R208) -/
  desc : List Nat := []
  /-- a mirror copy, built whole at release (R321) -/
  mirror : Bool := false
  /-- kind and number of the replication entry whose output blocks have still to be derived (R216) -/
  group : Option (Nat × Nat) := none
  /-- all bytes the crossing carries, new FCS included -/
  data : List Byte := []
  /-- rule-set version of the frame, for Gutter records -/
  ver : Nat := 0
  /-- next shingle index, 0 before the descriptor shingle -/
  next : Nat := 0
  /-- open in the injector (R206) -/
  opened : Bool := false
  /-- 24-bit sequence number, once taken (R208) -/
  seq : Nat := 0
  /-- ended with the final shingle sent -/
  done : Bool := false
  /-- a tile checksum failure was found after the descriptor shingle (R240) -/
  badTile : Bool := false
deriving DecidableEq, Repr

/-- A shingle with its sideband (R204). Its 64 data bytes are those of the crossing it belongs to. -/
structure Shingle where
  /-- the crossing it belongs to: the model's own, for its data bytes -/
  send : Nat
  src : Nat
  out : Nat
  cg : Nat
  /-- seq[9:0] of its frame -/
  tag : Nat
  idx : Nat
  last : Bool
  bad : Bool
  /-- data bytes valid on a final shingle; 0 means 64 -/
  valid : Nat
  /-- CRC-32C over its data bytes and the fields above (R18) -/
  crc : Nat := 0
  /-- core cycle in which it was sent on the stage it is on, or written at its middle -/
  cycle : Nat
  /-- middle tile it occupies, once written there -/
  tile : Nat := 0
deriving DecidableEq, Repr

/-- A frame at an output block: held, ordered, assembled (R211-R215). -/
structure Asm where
  out : Nat := 0
  src : Nat := 0
  cg : Nat := 0
  /-- its stream sequence number, once the descriptor shingle has arrived; until then seq[9:0] (R212) -/
  seq : Nat := 0
  send : Nat := 0
  /-- descriptor words, once the descriptor shingle has arrived -/
  desc : Option (List Nat) := none
  /-- time the descriptor arrived, while it is held (R213) -/
  heldAt : Nat := 0
  /-- ordered, with the time (R212, R214) -/
  orderedAt : Option Nat := none
  /-- shingle indices that have arrived -/
  got : List Nat := []
  /-- index of the final shingle and exact frame length, once it has arrived -/
  fin : Option (Nat × Nat) := none
  /-- its final shingle has arrived with bad = 1 (R215) -/
  badFin : Bool := false
  /-- frame bytes as the crossing carried them -/
  bytes : List Byte := []
  /-- rule-set version of the frame, for Gutter records -/
  ver : Nat := 0
  /-- cookie of a host frame that asked for an echo -/
  cookie : Nat := 0
  /-- ended: bad, assembly timeout, or no copy admitted; later shingles are discarded (R211, R214, R215) -/
  dead : Bool := false
  /-- none of its copies was admitted: its shingles are discarded and counted (R211) -/
  refused : Bool := false
  /-- copies not yet transmitted or discarded -/
  copies : List Nat := []
  /-- output tiles it holds (R230) -/
  tiles : List Nat := []
deriving DecidableEq, Repr

/-- A copy of a frame in an egress queue (R212, R231). -/
structure Copy where
  asm : Nat := 0
  port : Nat := 0
  queue : Nat := 0
  /-- output pool and tiles charged to it (R227, R230) -/
  pool : Nat := 0
  charge : Nat := 0
  /-- egress edit index in force for the copy (R217) -/
  edit : Nat := 0
  /-- marked for CE (R236) -/
  ce : Bool := false
  /-- WFQ finish time of the head, 48 bits (R251) -/
  fin : Option Nat := none
  /-- Loft tiles holding it while spilled (R238) -/
  loft : List Nat := []
  /-- spilled and not read back -/
  spilled : Bool := false
  /-- the spill write is under way (R238) -/
  spilling : Bool := false
  /-- comes back or came back from Loft (R42); while it does, `loft` lists the tiles still to be read -/
  readBack : Bool := false
  /-- tiles read back so far, while it comes back -/
  back : Nat := 0
  started : Bool := false
deriving DecidableEq, Repr

/-- What a port holds of the frame it receives in fragments (R39, R41, R58). -/
structure Reasm where
  /-- bytes so far -/
  data : List Byte := []
  /-- next fragment count, modulo 4 -/
  next : Nat := 0
  /-- receive stamp of its start (R58), and the time of it -/
  stamp : Nat := 0
  startAt : Nat := 0
  /-- a PCS error symbol or an uncorrectable codeword has been met (R33) -/
  codeErr : Bool := false
  /-- ingress pool, the tiles charged to it, and the tiles held -/
  pool : Nat := 0
  charge : Nat := 0
  tiles : List Nat := []
  /-- its pool has refused it: discarded whole on a critical port, truncated on another (R39, R41) -/
  ovf : Bool := false
deriving DecidableEq, Repr

/-- A transmission in progress or preempted (R249, R261). -/
structure Tx where
  copy : Nat
  queue : Nat
  /-- start decision, and wire time at which it ends -/
  startAt : Nat
  endAt : Nat
  /-- start-of-frame out in LT 2^-16 ns (R295) -/
  tOut : Nat
  /-- the bytes as sent, FCS included -/
  bytes : List Byte
  /-- sent by cut-through -/
  ct : Bool
  /-- to be ended with the stomp pattern after this many bytes (R34) -/
  stomp : Option Nat := none
  /-- bytes sent in earlier fragments (R261) -/
  sentBefore : Nat := 0
  /-- a flow-control frame: key k and quanta (R51) -/
  flow : Option (Nat × Nat) := none
  /-- to be stomped at PB_MAXLEN, its length having proved too great (R35) -/
  overLen : Bool := false
  /-- length its start was judged by, to find a run past a gate close (R261), and that close in thirds -/
  lenEst : Nat := 0
  closeAt : Option Nat := none
deriving DecidableEq, Repr

/-- The last frame a port sent: the block's output, for an observer. -/
structure Sent where
  bytes : List Byte := []
  tOut : Nat := 0
  stomped : Bool := false
deriving DecidableEq, Repr

/-- A pause watchdog (R52-R54). -/
structure Watchdog where
  /-- time run so far, thirds. Reset 0 -/
  run : Nat := 0
  /-- time at which the run last resumed; none while not running. Reset none -/
  since : Option Nat := none
  /-- tripped and holding until this time (R53). Reset none -/
  hold : Option Nat := none
  /-- the hold is in ignore mode (R53). Reset false -/
  ignore : Bool := false
deriving DecidableEq, Repr

/-- A frame being received at a port (R32, R39). -/
structure RxSt where
  bytes : List Byte
  codeErr : Bool
  /-- the frame, when tiles were granted -/
  frame : Option Nat
  /-- refused by its pool: discarded whole on a critical port, truncated on another (R39, R41) -/
  ovf : Bool
  startAt : Nat
deriving DecidableEq, Repr

/-- Delay and depth observations of one queue (R269). -/
structure ObsSt where
  dmin : Nat := 0xFFFFFFFF
  dmax : Nat := 0
  dlast : Nat := 0
  tmin : Nat := 0xFFFFFFFF
  tmax : Nat := 0
  tlast : Nat := 0
  hist : Tbl Nat := []
deriving DecidableEq, Repr

/-- A network port P0-P95: MAC, flow control, preemption and egress (chapters 02 and 10). -/
structure PortSt where
  /-- PB_PORT_STAT.link (R64). Reset 0 -/
  link : Bool := false
  /-- enabled as it landed (R64). Reset false -/
  enabled : Bool := false
  /-- field mode in force (R29). Reset 0 -/
  fieldMode : Nat := 0
  /-- resolved SGMII speed: 0 10, 1 100, 2 1,000 Mb/s (R29). Reset 0 -/
  sgmii : Nat := 0
  /-- the link partner's signal is present. Reset false -/
  signal : Bool := false
  /-- PB_PORT_STAT.local_fault. Reset 0 -/
  localFault : Bool := false
  /-- PB_PORT_STAT.remote_fault. Reset 0 -/
  remoteFault : Bool := false
  /-- PB_PORT_STAT.an_state (R63). Reset 0 -/
  an : Nat := 0
  /-- PB_PORT_STAT.lt_state (R63). Reset 0 -/
  lt : Nat := 0
  /-- PB_CT_STATE.cur_thresh (R43). Reset 2 -/
  curThresh : Nat := 2
  /-- PB_CT_STATE.sf_forced (R44). Reset 0 -/
  sfForced : Bool := false
  /-- frame being received. Reset none -/
  rx : Option RxSt := none
  /-- preempted frame being reassembled (R58). Reset none -/
  reasm : Option Reasm := none
  /-- a fault epoch has voided the frame being reassembled (R399). Reset false -/
  reasmDead : Bool := false
  /-- pause timers: PFC priorities 0-7 and PAUSE 8: time at which each ends (R48). Reset none -/
  pause : Tbl Nat := []
  /-- watchdogs 0-8 (R52). Reset all clear -/
  wd : Tbl Watchdog := []
  /-- XOFF outstanding: priorities 0-7 and PAUSE 8, time of the last one sent (R51). Reset none -/
  xoff : Tbl Nat := []
  /-- flow-control frames waiting for the frame boundary: key and quanta (R51). Reset none -/
  flowQ : List (Nat × Nat) := []
  /-- PB_PRE_STAT.state: 0 disabled, 1 verifying, 2 active, 3 failed (R56). Reset 0 -/
  preState : Nat := 0
  /-- verify frames sent and time of the last (R56). Reset 0 -/
  verifySent : Nat := 0
  verifyAt : Nat := 0
  /-- PB_PRE_STAT.rx_fragments. Reset 0 -/
  rxFrag : Bool := false
  /-- the window set in force: false A, true B (EGS_PORT_STAT.set, R262). Reset A -/
  setB : Bool := false
  /-- swap pending: T' in LT ns, and command slot (R264). Reset none -/
  swap : Option (Nat × Nat) := none
  /-- queues Q0-Q15, numbers of the copies not yet started, head first (R247). Reset empty -/
  queues : Tbl (List Nat) := []
  /-- WFQ virtual time V, 48 bits (R251). Reset 0 -/
  vtime : Nat := 0
  /-- F_prev of Q0-Q13, 48 bits (R251). Reset 0 -/
  fprev : Tbl Nat := []
  /-- shaper buckets of Q0-Q14, and of the port at 16, in 1/24,000,000 byte (R253). Reset 10,240 bytes -/
  bkt : Tbl Int := []
  /-- time each bucket was last refilled. Reset 0 -/
  bktAt : Tbl Nat := []
  /-- transmission in progress. Reset none -/
  tx : Option Tx := none
  /-- preempted transmission (R249). Reset none -/
  preempted : Option Tx := none
  /-- EGS_PORT_STAT.down_hold (R266). Reset 0 -/
  downHold : Bool := false
  /-- end of the link hold (R266). Reset 0 -/
  holdEnd : Nat := 0
  /-- EGS_PORT_STAT.flushing (R268). Reset 0 -/
  flushing : Bool := false
  /-- WRED average depth of each queue, 2^-16 of 256 bytes (R234). Reset 0 -/
  avg : Tbl Nat := []
  /-- queues that are spilling to Loft (R238). Reset none -/
  spill : Tbl Bool := []
  /-- observations of Q0-Q15 (R269). Reset as the register table -/
  obs : Tbl ObsSt := []
  /-- time of the last queue sample (R269). Reset 0 -/
  sampleAt : Nat := 0
  /-- ingress sampler: frames to the next sample (R322). Reset 0: the next run starts afresh -/
  sampler : Nat := 0
  /-- the last frame sent, for an observer. Model's record -/
  lastTx : Sent := {}
  /-- gate position last acted on: mask and hold in force (R256). Reset all open -/
  gates : Nat := 0xFFFF
  hold : Bool := false
deriving DecidableEq, Repr

/-- The answer to a tagged operation, as lkw delivers it (R112, R117, R119, R120). -/
structure Answer where
  value : Nat := 0
  /-- flags z and c that lkw sets -/
  z : Bool := false
  c : Bool := false
  /-- what lkw writes to md.colour and to md.seq, if anything -/
  colour : Option Nat := none
  seq : Option Nat := none
deriving DecidableEq, Repr

/-- A thread's lookup tag (R102, R111). -/
structure Tag where
  /-- request number outstanding or answered -/
  req : Option Nat := none
  /-- the answer, once it has come -/
  ans : Option Answer := none
deriving DecidableEq, Repr

/-- A Flint thread (R66-R68). -/
structure Thread where
  /-- frame held -/
  frame : Option Nat := none
  /-- g0-g31 (R68); only registers that are not zero are listed -/
  g : Tbl Word := []
  z : Bool := false
  n : Bool := false
  c : Bool := false
  v : Bool := false
  /-- call stack, top first, at most 4 entries of 14 bits -/
  stack : List Nat := []
  /-- tags 0-3 -/
  tags : List Tag := []
  /-- header window: 256 bytes, longer while bytes are pushed out of it (R69, R108) -/
  win : List Byte := []
  /-- for each byte of the window its offset at dispatch plus 1, or 0 for a byte inserted since (R127) -/
  src : List Nat := []
  /-- frame bytes in the window as dispatched, plus pushes less pops -/
  winLen : Nat := 0
  /-- frame bytes in the window as dispatched: at most 256 -/
  loaded : Nat := 0
  /-- net bytes inserted and deleted this pass (R69) -/
  net : Int := 0
  /-- scratch, 128 bytes -/
  scratch : List Byte := []
  pc : Nat := 0
  /-- version slot it runs (R94) -/
  slot : Nat := 0
  /-- instructions issued this pass (R78), slots counted under R80, lookups made -/
  issued : Nat := 0
  slots : Nat := 0
  lookups : Nat := 0
  /-- runs the Bedrock entry (R79) -/
  bedrock : Bool := false
  /-- core cycle from which it is ready (R67, R85) -/
  readyAt : Nat := 0
  /-- the frame's pass has ended; the thread is free at this core cycle (R85) -/
  freeAt : Nat := 0
deriving DecidableEq, Repr

/-! ## Port blocks: dispatch, sieve, Ridge, Thatch -/

/-- A request in a block's scan queue or on a lane (R156). -/
structure ScanReq where
  frame : Nat
  /-- enforce mode -/
  enf : Bool
  /-- payload bytes to scan, first payload offset in the frame -/
  len : Nat
  off : Nat
  set : Nat
  /-- the pass ended with recirculate: the frame waits for the verdict (R171) -/
  recirc : Bool
  /-- end of the pass -/
  since : Nat
deriving DecidableEq, Repr

/-- A lane of a Mica scanner (R155). -/
structure Lane where
  req : ScanReq
  /-- block whose queue the request came from -/
  blk : Nat
  start : Nat
  /-- the scan has met its cold state (R161) -/
  fetched : Bool := false
deriving DecidableEq, Repr

/-- A learn, insert or delete request in the learning queue (R180). -/
structure LearnReq where
  profile : Nat
  key : Nat
  result : Nat
  /-- 0 LEARN, 1 host insert, 2 host delete, 3 and 4 the insert and the delete of a twin record (R371) -/
  op : Nat
  static : Bool := false
  /-- command slot of a host request -/
  slot : Nat := 0
  /-- the thread that posted a LEARN, and the number that its next tagged operation had then (R187) -/
  thread : Nat := 0
  after : Nat := 0
deriving DecidableEq, Repr

/-- An echo waiting for the host slice (R303-R305). -/
structure Echo where
  bytes : List Byte
  status : Nat
  port : Nat
  tOut : Nat
  cookie : Nat
deriving DecidableEq, Repr

/-- A frame waiting for host delivery: receive ring, bytes, and the words of its receive descriptor (R388). -/
structure HostRx where
  ring : Nat
  bytes : List Byte
  /-- frame length, ingress port, time-stamp in 2^-16 ns, md.hash, drop_reason, ver, echo status and cookie -/
  len : Nat
  inPort : Nat
  ts : Nat
  hash : Nat
  ver : Nat
  queue : Nat := 0
  bad : Bool := false
  echo : Option (Nat × Nat) := none
  frame : Nat := 0
deriving DecidableEq, Repr

/-- A port block PB0-PB15 with its cluster, middle and output block. -/
structure BlkSt where
  /-- trunk mode in force (R28). Reset 0 -/
  trunkMode : Nat := 0
  /-- PB_STAT.mode_pending (R28). Reset 0 -/
  modePending : Bool := false
  /-- on-chip tiles allocated, ascending, of 32,768 (R223). Reset none: every tile free -/
  alloc : List Nat := []
  /-- quarantined tiles (R242). Reset none -/
  quar : List Nat := []
  /-- suspect table, at most 64, newest first (R242). Reset empty -/
  suspect : List Nat := []
  /-- tiles whose failure has been counted in this occupation (R241). Reset none -/
  failed : List Nat := []
  /-- tiles marked to be quarantined when next freed (R242). Reset none -/
  doomed : List Nat := []
  /-- charge C of pools 0-63 (R228). Reset 0 -/
  charge : Tbl Nat := []
  /-- slack tiles in use by each middle pool, of 40 (R232). Reset 0 -/
  slack : Tbl Nat := []
  /-- THA_BLK_STAT.overcommit (R229). Reset 0 -/
  overcommit : Bool := false
  /-- next arrival number of a received frame. Model's own; reset 0 -/
  arrivals : Nat := 0
  /-- frames waiting for a dispatch entry, general and Bedrock, in arrival order (R85). Reset none -/
  waitGen : List Nat := []
  waitBr : List Nat := []
  /-- dispatch entries in use, oldest first: 224 general and 32 Bedrock (R85). Reset none -/
  dispGen : List Nat := []
  dispBr : List Nat := []
  /-- frames held by the sieve, at most 1,024 (R88). Reset none -/
  sieve : List Nat := []
  /-- next sequence number to give and to release, of streams 0-255 (R88). Reset 0 -/
  nextSeq : Tbl Nat := []
  relSeq : Tbl Nat := []
  /-- FLT_EXC_LOG (R93). Reset 0 -/
  excLog : Nat := 0
  /-- reserved engines in force: engines that are reserved now, bit e (R79, R84). Reset E30 and E31 -/
  reserved : Nat := 0xC0000000
  /-- round-robin pointer of each engine's threads (R66). Reset 0 -/
  rr : Tbl Nat := []
  /-- core cycle in which each engine last issued, plus 1 (R66). Reset 0 -/
  issuedAt : Tbl Nat := []
  /-- core cycle + 1 in which each engine last lost an attempt to steal (R87). Reset none -/
  stealLost : Tbl Nat := []
  /-- core cycle of the last general and Bedrock hand-over, plus 1 (R85). Reset 0 -/
  handGen : Nat := 0
  handBr : Nat := 0
  /-- scan queue, oldest first, 64 requests (R156). Reset empty -/
  scanQ : List ScanReq := []
  /-- learning queue, oldest first (R180). Reset empty -/
  learnQ : List LearnReq := []
  /-- stage-1 injection queues, Bedrock and other: crossings in order (R206). Reset empty -/
  injBr : List Nat := []
  injOth : List Nat := []
  /-- open crossings of the other queue, next turn first (R206). Reset none -/
  openOth : List Nat := []
  /-- core cycle of the last stage-1 and stage-2 send, plus 1 (R203). Reset 0 -/
  sent1 : Nat := 0
  sent2 : Nat := 0
  /-- sequence counters, key 2 × out + cg (R208). Reset 0 -/
  seqCnt : Tbl Nat := []
  /-- frames sent and not yet credited, key 2 × out + cg (R209). Reset 0 -/
  unacked : Tbl Nat := []
  /-- credits on their way back, key 2 × out + cg, with ordering time (R209). Reset none -/
  credits : List (Nat × Nat) := []
  /-- shingles on their way to this middle and to this output block, oldest first (R203). Reset none -/
  toMid : List Shingle := []
  toOut : List Shingle := []
  /-- virtual output queues of this middle, key 2 × out + cg (R210). Reset empty -/
  voq : Tbl (List Shingle) := []
  /-- shingles still in each middle tile (R210). Reset none -/
  midTiles : Tbl Nat := []
  /-- the pool each middle tile is charged to (R227). Reset none -/
  midOwner : Tbl Nat := []
  /-- frames dropped because their replication entry names no port, by ingress local port (R216). Reset 0 -/
  noMember : Tbl Nat := []
  /-- RDG_MID_STAT.stop_br, stop_other (R207). Reset 0 -/
  stopBr : Bool := false
  stopOth : Bool := false
  /-- RDG_MID_STAT.br_hwm (R219). Reset 0 -/
  hwm : Nat := 0
  /-- next expected number E of streams, key 2 × src + cg (R212). Reset 0 -/
  expect : Tbl Nat := []
  /-- egress edit table: 4,096 entries of four words, key 4 × index + word (R217). Reset 0 -/
  edits : Tbl Word := []
  /-- echoes waiting for the host slice (R303). Reset none -/
  echoes : List Echo := []
  /-- the transmit ring of its four that the host slice turns to next (R387). Reset 0 -/
  hostRr : Nat := 0
  /-- frames waiting for delivery to the host through this block's slice (R11). Reset none -/
  hostQ : List HostRx := []
  /-- drip audit: tiles touched since the audit began (R244). Reset none -/
  touched : List Nat := []
  /-- candidates kept from the previous audit (R244). Reset none -/
  dripOld : List Nat := []
  /-- lanes of the block's Mica scanner, by lane (R155). Reset idle -/
  lanes : Tbl Lane := []
deriving DecidableEq, Repr

/-! ## Rule sets and Mica -/

/-- A version slot of the program memory, the same in all clusters (R94). -/
structure SlotSt where
  /-- FLT_SLOT.valid. Reset 0 -/
  valid : Bool := false
  /-- FLT_SLOT.compat. Reset 0 -/
  compat : Bool := false
  /-- FLT_SLOT.state: 0 empty, 1 loading, 2 active, 3 retiring. Reset 0 -/
  state : Nat := 0
  /-- FLT_SLOT.version. Reset 0 -/
  version : Nat := 0
  /-- FLT_ENTRY.br_valid. Reset 0 -/
  brValid : Bool := false
  /-- FLT_ENTRY.br_entry, 14 bits. Reset 0 -/
  brEntry : Nat := 0
  /-- FLT_ENTRY.entry, 14 bits. Reset 0 -/
  entry : Nat := 0
  /-- instruction words loaded; words beyond read 0 (R101). Reset none -/
  words : List DWord := []
deriving DecidableEq, Repr

/-- A commit in progress (R135, R136). -/
structure Commit where
  /-- command slot -/
  slot : Nat
  version : Nat
  imageAddr : Nat
  imageLen : Nat
  imageCrc : Nat
  entry : Nat
  brEntry : Nat
  brValid : Bool
  compat : Bool
  dom : Nat
  /-- 80-bit domain time in ns; 0 as early as possible -/
  time : Nat
  /-- step of R136 reached: 2 waiting, 3 arguments checked and image being copied, 5 instant chosen,
  7 waiting for frames, 8 retirement walk -/
  step : Nat
  /-- program slot loaded -/
  prog : Nat := 0
  switchLt : Nat := 0
  late : Bool := false
  /-- the version it made retire -/
  retired : Option Nat := none
  /-- time of the switch, and whether rs_retire_slow has been raised -/
  switchedAt : Nat := 0
  slow : Bool := false
deriving DecidableEq, Repr

/-- Rule-set versions (chapter 05). -/
structure RsSt where
  /-- version slots 0 and 1 (R94). Reset empty -/
  slots : List SlotSt := [{}, {}]
  /-- SLT_RS_STAT.active_valid and active, a voted pointer (R131). Reset none -/
  active : Option Nat := none
  /-- SLT_RS_STAT.retiring (R131). Reset none -/
  retiring : Option Nat := none
  /-- versions committed and not switched (R131). Reset none -/
  committed : List Nat := []
  /-- commits in issue order (R136). Reset none -/
  commits : List Commit := []
  /-- LT ns of the last switch, and the version active before it: frames stamped earlier bear it (R133).
  Reset 0 and none -/
  switchLt : Nat := 0
  before : Option Nat := none
  /-- parameter banks: 16 × 8 KiB bytes, key 8,192 v + offset (R130). Reset 0 (R152) -/
  banks : Tbl Byte := []
  /-- Slate-T positions (R144): key 128 position + byte, bytes 0-91. Reset 0 -/
  tTable : Tbl Byte := []
  /-- staged bytes of each position (R145). Reset none -/
  tStage : Tbl Byte := []
  /-- the retirement walk runs, with its start (R138). Reset none -/
  walk : Option Nat := none
  /-- the positions of Slate-T that the walk has passed. Reset 0 -/
  walkAt : Nat := 0
deriving DecidableEq, Repr

/-- A Mica set slot (R159). -/
structure SetSlot where
  /-- MCA_SET_STAT.valid. Reset 0 -/
  valid : Bool := false
  /-- MCA_SET_STAT.resident. Reset 0 -/
  resident : Bool := false
  /-- MCA_SET_STAT.lost. Reset 0 -/
  lost : Bool := false
  /-- MCA_SET_STAT.quota_kib, 15 bits. Reset 0 -/
  quota : Nat := 0
  /-- CRC-32C of the stored image (R161). Reset 0 -/
  crc : Nat := 0
  /-- the compiled patterns. Reset none -/
  patterns : List Pattern := []
  /-- hit table: 262,144 counts of 48 bits (R172). Reset 0 -/
  hits : Tbl Nat := []
deriving DecidableEq, Repr

/-! ## Slate, meters, sequence recovery -/

/-- A Slate-X slot (R177). -/
structure XSlot where
  /-- key, 128 bits. Reset 0 -/
  key : Nat := 0
  /-- result, 64 bits. Reset 0 -/
  result : Nat := 0
  /-- control word: valid, static, activity, poison, profile, idle. Reset 0 -/
  valid : Bool := false
  static : Bool := false
  activity : Bool := false
  poison : Bool := false
  profile : Nat := 0
  idle : Nat := 0
  /-- the stored parity does not fit the contents (R195). Reset false -/
  parBad : Bool := false
deriving DecidableEq, Repr

/-- What a tagged operation asks (R111, R115, R117, R119, R120). -/
inductive LkKind where
  | x (profile key : Nat)
  | p (v6 : Bool) (addr vrf : Nat)
  | t (wide : Bool) (key : Nat) (ver : Nat)
  | d (table index : Nat)
  /-- a request that Slate, the meter unit or the sequence unit has taken carries its answer (R113, R114, R118) -/
  | done (answer : Answer)
deriving DecidableEq, Repr

/-- An outstanding tagged operation. -/
structure LkReq where
  /-- thread key 128 × cluster + 4 × engine + thread, and tag -/
  thread : Nat
  tag : Nat
  kind : LkKind
  /-- discarded on arrival (R113, R116) -/
  dropped : Bool := false
  since : Nat := 0
deriving DecidableEq, Repr

/-- A route the host has given (R397). -/
structure Route where
  root : Nat
  v6 : Bool
  pfx : Nat
  len : Nat
  result : Nat
deriving DecidableEq, Repr

/-- A meter's buckets (R117, R118). -/
structure Meter where
  /-- bytes in the committed and the excess or peak bucket, and time of the last update, in
  1/24,000,000 byte. Reset none: full -/
  tc : Option Nat := none
  te : Option Nat := none
  at3 : Nat := 0
deriving DecidableEq, Repr

/-- A recovery stream (R120). -/
structure Recov where
  /-- RecovSeqNum of IEEE 802.1CB. Reset 0 -/
  seq : Nat := 0
  /-- history bits, bit 0 the newest. Reset 0 -/
  hist : Nat := 0
  /-- TakeAny of IEEE 802.1CB. Reset true -/
  takeAny : Bool := true
  /-- time of the last accepted frame. Reset 0 -/
  last : Nat := 0
  /-- passed, discarded and rogue counts. Reset 0 -/
  passed : Nat := 0
  discarded : Nat := 0
  rogue : Nat := 0
deriving DecidableEq, Repr

/-- A route record as P_UPDATE applies it: root, family, prefix left-aligned, length, result, or its deletion (R192). -/
structure RouteStep where
  root : Nat
  v6 : Bool
  del : Bool
  pfx : Nat
  len : Nat
  result : Nat
deriving DecidableEq, Repr

/-- A P_UPDATE under way: its subtrees switch one at a time (R192). -/
structure PJob where
  /-- command slot -/
  slot : Nat
  /-- records left; the first may have switched `at_` of its stage-1 entries -/
  todo : List RouteStep
  at_ : Nat := 0
  /-- results that go free when the first record is done -/
  old : List Nat := []
deriving DecidableEq, Repr

/-- An X_FLUSH under way (R200): command slot, time of its start, next bucket of the walk, slots invalidated. -/
structure FlushJob where
  slot : Nat
  since : Nat
  next : Nat := 0
  count : Nat := 0
deriving DecidableEq, Repr

/-- A request taken by the meter or the recovery unit in the present core cycle (R118, R121). -/
structure UnitOp where
  /-- 32 × cluster + engine -/
  eng : Nat
  /-- request number -/
  req : Nat
  /-- 2 × meter, or 2 × recovery stream + 1 -/
  item : Nat
  /-- metered length, or sequence number -/
  arg : Nat
  /-- pre-colour of a meter -/
  pre : Nat := 0
  /-- time of the request -/
  at3 : Nat
  /-- the meter and the stream as they stood before it -/
  meter : Meter := {}
  recov : Recov := {}
deriving DecidableEq, Repr

/-- Slate's tables and engines (chapter 07), the meter and sequence units (chapter 04). -/
structure SlateSt where
  /-- Slate-X slots, key (131,072 way + bucket) × 4 + slot (R174). Reset empty -/
  x : Tbl XSlot := []
  /-- staged slot bytes 0-23, key 32 × slot + byte (R179). Reset none -/
  xStage : Tbl Byte := []
  /-- host insert queue, oldest first (R180). Reset empty -/
  hostQ : List LearnReq := []
  /-- round-robin pointer of the learning engine: block 0-15, host 16. Reset 0 -/
  learnRr : Nat := 0
  /-- Slate-P root entries, key root × 65,536 + entry, 32 bits (R190). Reset 0 -/
  roots : Tbl Nat := []
  /-- Slate-P node entries, key node × 256 + entry, 32 bits (R191). Reset 0 -/
  nodes : Tbl Nat := []
  /-- Slate-P results, 64 bits (R193). Reset 0 -/
  results : Tbl Nat := []
  /-- nodes and results in use (R193). Reset none -/
  nodeUsed : List Nat := []
  resUsed : List Nat := []
  /-- replaced nodes waiting to be freed, with the time of the rewrite (R192). Reset none -/
  nodeFree : List (Nat × Nat) := []
  /-- the routes from which Gneiss builds the tables (R192). Reset none -/
  routes : List Route := []
  /-- VRF map, 16 bits (R190). Reset 0 -/
  vrf : Tbl Nat := []
  /-- Slate-D words, 64 bits (R194). Reset 0 -/
  d : Tbl Nat := []
  /-- staged low half of a Slate-D word: index and value (R194). Reset none -/
  dStage : Option (Nat × Nat) := none
  /-- entries failing parity, and poisoned: key 2^22 × table + index (R195, R196). Reset none -/
  parBad : Tbl Bool := []
  poison : Tbl Bool := []
  /-- SLT_ERR_LOG: 16 records of two words, key 2n + word (R196). Reset 0 -/
  errLog : Tbl Nat := []
  /-- scrubber: next entry of a pass, 0 to 6,586,367 (R197). Reset 0 -/
  scrubAt : Nat := 0
  /-- time of the last scrub read. Reset 0 -/
  scrubTime : Nat := 0
  /-- ageing sweep in progress: next bucket (R188). Reset none -/
  sweep : Option Nat := none
  /-- start of the present ageing epoch. Reset 0 -/
  epochStart : Nat := 0
  /-- locks in effect, key 32 × way + region, with the time from which 10 ms run (R198, R199). Reset none -/
  held : Tbl Nat := []
  /-- the bit of SLT_LOCK was written 1 and the lock is not yet in effect. Reset none -/
  lockWait : List Nat := []
  /-- outstanding tagged operations by request number. Reset none -/
  reqs : Tbl LkReq := []
  /-- next request number. Model's own; reset 0 -/
  nextReq : Nat := 0
  /-- requests that each cluster's lookup port took in core cycle `tookAt` (R175). Reset none -/
  took : Tbl Nat := []
  tookAt : Nat := 0
  /-- P_UPDATE under way (R192). Reset none -/
  pJob : Option PJob := none
  /-- X_FLUSH under way (R200). Reset none -/
  flush : Option FlushJob := none
  /-- meters 0-262,143 (R117). Reset full -/
  meters : Tbl Meter := []
  /-- sequence generation counters, 65,536 of 16 bits (R119); one that is not listed has the value of the next field.
  Reset 0 -/
  gen : Tbl Nat := []
  /-- what takeovers have added to the counters not listed (R375). Reset 0 -/
  genDef : Nat := 0
  /-- recovery streams (R120). Reset as a fresh stream -/
  recov : Tbl Recov := []
  /-- the requests that the meter and the recovery unit took in core cycle `opsAt`, by ascending engine: the unit's order
  within a cycle (R118, R121). Reset none -/
  ops : List UnitOp := []
  opsAt : Nat := 0
  /-- flow counters 0-524,287 (R335); one that is not listed is 0, with `lost` as the next field says. Reset 0 -/
  flows : Tbl Flow := []
  /-- a LOFT_RESTART has set lost on the counters not listed. Reset false -/
  flowLost : Bool := false
  /-- BAR2 words of the meter, policer and recovery tables, by BAR2 offset / 4 (R384): their layout is not
  given. Reset 0 -/
  raw : Tbl Word := []
  /-- active copies of the policer profiles' words (R262). Reset 0 -/
  rawActive : Tbl Word := []
  /-- replication table, key 4 × entry + word (R216). Reset 0 -/
  repl : Tbl Word := []
  /-- staged words 0-2 of replication entries (R216). Reset none -/
  replStage : Tbl Word := []
deriving DecidableEq, Repr

/-! ## Loft and Purlin -/

/-- An access in a channel controller's queue (R347). -/
structure Access where
  req : Nat
  bank : Nat
  row : Nat
  since : Nat
deriving DecidableEq, Repr

/-- An aggressor-table entry (R352). -/
structure Aggr where
  group : Nat
  count : Nat
  lead : Nat
  vote : Nat
deriving DecidableEq, Repr

/-- A Loft channel (R345-R355). -/
structure ChSt where
  /-- LFT_CH_STAT.state between test windows: 0 offline, 2 online; it reads 1, training, during one (R354). Reset 0 -/
  state : Nat := 0
  /-- LFT_CH_STAT.hot (R349). Reset 0 -/
  hot : Bool := false
  /-- the real-time bursts in progress, by requester and time of the grant (LFT_CH_STAT.burst, R348). Reset none -/
  burst : List (Nat × Nat) := []
  /-- LFT_CH_STAT.no_eye (R356). Reset 0 -/
  noEye : Bool := false
  /-- queued accesses, oldest first, at most 32 (R347). Reset empty -/
  queue : List Access := []
  /-- accesses of the last grant that wait for a free entry of the queue (R347, R360). Reset empty -/
  feed : List Access := []
  /-- open row of each bank. Reset none -/
  openRow : Tbl Nat := []
  /-- postponement count p of each bank (R349). Reset 0 -/
  post : Tbl Nat := []
  /-- end of the refresh or RFM window of each bank (R347). Reset 0 -/
  window : Tbl Nat := []
  /-- bank whose refresh falls due next (R349). Reset 0 -/
  dueBank : Nat := 0
  /-- time of the last refresh due, in eighths of a third of a nanosecond. Reset 0 -/
  dueAt : Nat := 0
  /-- aggressor tables, at most 16 entries each (R352). Reset empty -/
  aggr : Tbl (List Aggr) := []
  /-- banks for which RFM waits for a boundary (R353). Reset none -/
  rfm : List Nat := []
  /-- throttled requesters: end of the throttle and last activation (R353). Reset none -/
  thr : Tbl (Nat × Nat) := []
deriving DecidableEq, Repr

/-- A LOFT_TRAIN in progress (R354). -/
structure TrainSt where
  slot : Nat
  ch : Nat
  item : Nat
  lane : Nat
  last : Nat
  stride : Nat
  mapAddr : Nat
  /-- next setting, and settings that have passed -/
  next : Nat
  passed : List Nat
  /-- the channel was online -/
  wasOnline : Bool
  /-- the 64 bytes of the host's pattern; none for PRBS15 -/
  pattern : Option (List Byte)
  /-- test windows so far, and the end of the last of them -/
  windows : Nat
  windowTo : Option Nat
deriving DecidableEq, Repr

/-- A request at a Purlin arbiter (R360, R361). -/
structure PurReq where
  id : Nat
  /-- channel of the pair it is for -/
  odd : Bool
  /-- what it is for, among the wants of its requester -/
  key : Nat
  /-- banks and rows of its accesses -/
  acc : List (Nat × Nat)
deriving DecidableEq, Repr

/-- What an access that has been made is still to win an arbiter for (R359): a Loft unit, a leaf of the Loft bitmap (R224),
or the Slate port of arbiter 16 or 17. -/
inductive AskAt where
  | unit (u : Nat)
  | leaf (i : Nat)
  | port (a : Nat)
deriving DecidableEq, Repr

/-- A request raised by an access of requester `id` (R359): `key` tells it from the requester's others. -/
structure PurAsk where
  id : Nat
  key : Nat
  place : AskAt
deriving DecidableEq, Repr

/-- A Purlin arbiter (R358-R366). -/
structure ArbSt where
  /-- parked requests in their pending queues, oldest first (R361). Reset none -/
  pend : List PurReq := []
  /-- wants no longer asserted: granted, withdrawn or parked, as requester, key and channel. Model's record; reset
  none -/
  served : List (Nat × Nat × Bool) := []
  /-- round-robin pointer of each priority (R360). Reset 0 -/
  ptr : Tbl Nat := []
  /-- wins of each requester in the present quota window (R362). Reset 0 -/
  wins : Tbl Nat := []
  /-- start of the present quota window. Reset 0 -/
  winStart : Nat := 0
  /-- the last grant on the even and the odd channel, with its time (R364, R365). Reset none -/
  grant : Tbl (PurReq × Nat) := []
  /-- the arbiter's cycle of the next decision on the even and the odd channel, after an empty slot (R365). Reset 0 -/
  nextAt : Tbl Nat := []
  /-- PUR_ARB_STAT.dead, saturating (R364, R365). Reset 0 -/
  dead : Nat := 0
  /-- PUR_ARB_STAT.pend_full, saturating (R361). Reset 0 -/
  pendFull : Nat := 0
  /-- pipelined mode in force (R358). Reset true -/
  pipelined : Bool := true
deriving DecidableEq, Repr

/-- Loft (chapter 14) and the deep buffers' store (R224). -/
structure LoftSt where
  chans : Tbl ChSt := []
  arbs : Tbl ArbSt := []
  /-- requests that accesses have raised and no arbiter has granted, oldest first, and how many have been raised (R359).
  Model's record; reset none -/
  asks : List PurAsk := []
  askN : Nat := 0
  /-- LFT_STAT.deep_off (R355). Reset 0 -/
  deepOff : Bool := false
  /-- command slot of a LOFT_RESTART in progress and its mask (R356). Reset none -/
  restart : Option (Nat × Nat) := none
  train : Option TrainSt := none
  /-- Loft tiles in use by spilled frames, of 268,435,456 units (R224). Reset none -/
  alloc : List Nat := []
  /-- units reserved at the bottom of Loft by the last LOFT_RESTART (R224, R356). Reset 0 -/
  reserved : Nat := 0
  /-- the channels of the interleave, ascending, as the last LOFT_RESTART named them (R346, R356). Reset none -/
  inter : List Nat := []
  /-- a LOFT_RESTART has completed since reset (R314). Reset false -/
  up : Bool := false
  /-- a channel has gone offline NO_EYE since the last restart (R355). Reset false -/
  lostEye : Bool := false
  /-- suspect and quarantined Loft tiles (R242); failures counted in this occupation (R241). Reset none -/
  suspect : List Nat := []
  quar : List Nat := []
  failed : List Nat := []
  doomed : List Nat := []
  /-- LFT_RH_LOG: 16 records of two words, key 2n + word (R353). Reset 0 -/
  rhLog : Tbl Nat := []
  /-- time of the last clearing of the aggressor tables (R352). Reset 0 -/
  aggrAt : Nat := 0
  /-- THA_CSUM_LOG: 16 records of two words (R241), and how many failures have been logged. Reset 0 -/
  csumLog : Tbl Nat := []
  csumN : Nat := 0
  /-- THA_DRIP_LOG: 16 words (R245). Reset 0 -/
  dripLog : Tbl Nat := []
  /-- drip audit in progress: slot, region, reclaim, snapshot taken at its start (R244). Reset none -/
  drip : Option (Nat × Nat × Bool × List Nat) := none
  /-- Loft tiles touched since the audit began, and candidates kept (R244). Reset none -/
  touched : List Nat := []
  dripOld : List Nat := []
deriving DecidableEq, Repr

/-- A Gutter record in the staging buffer (R317, R318): its bytes with word 7 still zero, and the tile its
snap was read from: block and tile. -/
structure GutRec where
  bytes : List Byte
  tile : Option (Nat × Nat) := none
deriving DecidableEq, Repr

/-- A record of the ring in use that has not been consumed (R315-R318, R327). -/
structure RingRec where
  /-- its first unit and its units -/
  unit : Nat
  units : Nat
  /-- it is a pad -/
  pad : Bool := false
  /-- time at which it was written -/
  at_ : Nat := 0
deriving DecidableEq, Repr

/-- Gutter (R313-R327). -/
structure GutSt where
  /-- GUT_WR and GUT_RD, 27 bits (R313). Reset 0 -/
  wr : Nat := 0
  rd : Nat := 0
  /-- GUT_SEQ, 32 bits (R316). Reset 0 -/
  seq : Nat := 0
  /-- GUT_STAT.full (R315). Reset 0 -/
  full : Bool := false
  /-- GUT_STAT.fallback: the fallback ring is in use. Reset DEDUCED true: R314 has it in use before the first
  LOFT_RESTART, where the register table gives 0 -/
  fallback : Bool := true
  /-- ring size code in force (R313). Reset 4 -/
  size : Nat := 4
  /-- staging buffer: whole records not yet drained, oldest first (R317). Reset empty -/
  staging : List GutRec := []
  /-- records of the ring in use not yet consumed, oldest first. Reset none -/
  recs : List RingRec := []
  /-- the core cycle after the one in which an overwrite last moved GUT_RD (R315). Reset 0 -/
  overAt : Nat := 0
  /-- GUT_RD, its records and the core cycle after the one of the host's last write of GUT_RD, as they stood before that
  write: an overwrite in the same cycle overrules it (R315). Reset none -/
  rdWas : Option (Nat × Nat × List RingRec) := none
  /-- bytes of the Loft ring, by byte offset (R313). Reset 0 -/
  ring : Memory := []
  /-- bytes of the 1 MiB fallback ring (R314). Reset 0 -/
  fall : Memory := []
  /-- drops since the last one recorded (R323). Reset 0 -/
  dropN : Nat := 0
deriving DecidableEq, Repr

/-! ## Quartz signals, MDIO, twin -/

/-- A time output (R306, R307). -/
structure ToutSt where
  /-- the output is running: it was enabled and has not stopped. Reset false -/
  running : Bool := false
  /-- number of the next pulse, 0 before the first. Reset 0 -/
  k : Nat := 0
  /-- level of the output. Reset low -/
  level : Bool := false
  /-- domain nanoseconds at which the present pulse ends. Reset none -/
  pulseEnd : Option Nat := none
deriving DecidableEq, Repr

/-- Captures and time signals of Quartz (R286-R288, R306-R311). Stamps are 2^-16 ns. -/
structure QtzSt where
  /-- QTZ_CAP_LT: LT stamp of the last capture, 80 bits (R288). Reset 0 -/
  capLt : Nat := 0
  /-- QTZ_CAP_D of D0-D3: 96 bits each (R288). Reset 0 -/
  capD : Tbl Nat := []
  /-- time outputs 0-7 -/
  tout : Tbl ToutSt := []
  /-- stamp queues of the time inputs 0-3, oldest first, at most 16 (R308). Reset empty -/
  tin : Tbl (List Nat) := []
  /-- LT stamp of the last PPS edge (R310). Reset 0 -/
  ppsLast : Nat := 0
  /-- PPS edges counted, 32 bits (R310). Reset 0 -/
  ppsCount : Nat := 0
  /-- SYNCE outputs held low, bit n (R311). Reset 3: both (QTZ_SYNCE_STAT) -/
  squelch : Nat := 3
  /-- what each SYNCE output that is not held low drives: lane, its signalling rate in kb/s, and the divisor 64 × div
  (R311). Reset none -/
  synce : Tbl (Nat × Nat × Nat) := []
deriving DecidableEq, Repr

/-- An MDIO bus (R62). -/
structure MdioSt where
  /-- PB_MDIO_STAT.busy. Reset 0 -/
  busy : Bool := false
  /-- PB_MDIO_STAT.rdata. Reset 0 -/
  rdata : Nat := 0
  /-- the command in progress. Reset 0 -/
  cmd : Word := 0
  /-- time at which it began. Reset 0 -/
  since : Nat := 0
  /-- commands dropped while busy. Reset 0 -/
  drops : Nat := 0
deriving DecidableEq, Repr

/-- A heartbeat as it is sent (R371): k, the active's LT in nanoseconds, and its flags. -/
structure Heartbeat where
  k : Nat
  lt : Nat
  handover : Bool
  fault : Bool
deriving DecidableEq, Repr

/-- The twin (chapter 15). Items of the state delta are named (order of R371, key). -/
structure TwinSt where
  /-- TWN_STAT.state. Reset 0 -/
  state : Nat := 0
  /-- TWN_STAT.eligible (R372). Reset 0 -/
  eligible : Bool := false
  /-- TWN_STAT.lagging (R373). Reset 0 -/
  lagging : Bool := false
  /-- TWN_STAT.time_locked (R376). Reset 0 -/
  timeLocked : Bool := false
  /-- consecutive cycles with the phase error within 10 ns (R376). Reset 0 -/
  lockN : Nat := 0
  /-- TWN_STAT.fence_in: level of the pin. Reset 0 -/
  fenceIn : Bool := false
  /-- level of TWIN_FENCE_OUT (R375, R377). Reset low -/
  fenceOut : Bool := false
  /-- TWN_STAT.mismatch (R371). Reset 0 -/
  mismatch : Bool := false
  /-- TWN_LAG.bytes (R373). Reset 0 -/
  lag : Nat := 0
  /-- TWN_DELAY.ns (R374). Reset 0 -/
  delay : Nat := 0
  /-- number of the last boundary passed, and its time. Reset 0 -/
  k : Nat := 0
  kAt : Nat := 0
  /-- last heartbeat received and last acknowledgement received (R374). Reset 0 -/
  hbK : Nat := 0
  ackK : Nat := 0
  /-- heartbeats and acknowledgements judged so far (R374). Reset 0 -/
  hbJudged : Nat := 0
  ackJudged : Nat := 0
  /-- consecutive misses of heartbeats and acknowledgements (R375, R377). Reset 0 -/
  missHb : Nat := 0
  missAck : Nat := 0
  /-- items changed in the present cycle, and those closed and not sent (R371, R373). Reset none -/
  changed : List (Nat × Nat) := []
  toSend : List (Nat × Nat) := []
  /-- a full copy is under way (R372). Reset false -/
  full : Bool := false
  /-- the full copy has arrived, and as many of its learn and age-out records wait in the learning engine's host queue (R372).
  Reset none -/
  copyLeft : Option Nat := none
  /-- a boundary has passed and its state copy has not started (R418). Reset false -/
  copyDue : Bool := false
  /-- heartbeats and acknowledgements count: the pair has gone through its first cycle. Reset false -/
  counting : Bool := false
  /-- TWIN_SWITCH waiting for its boundary: slot, domain, time in ns (R379). Reset none -/
  handover : Option (Nat × Nat × Nat) := none
  /-- slot of the TWIN_SWITCH whose handover heartbeat has been sent, and its k. Reset none -/
  handed : Option (Nat × Nat) := none
  /-- time at which enable landed, until the role exchange is settled. Reset none -/
  enabledAt : Option Nat := none
  /-- TWN_APPLY_FAIL_CNT (R381). Reset 0 -/
  applyFail : Nat := 0
  /-- the last heartbeat sent. Model's record of the link; reset none -/
  sentHb : Option Heartbeat := none
  /-- k of the last acknowledgement sent. Model's record of the link; reset none -/
  sentAck : Option Nat := none
  /-- withdraw notices sent (R380). Model's record of the link; reset 0 -/
  sentWithdraw : Nat := 0
  /-- delta records sent since the last boundary (R371). Model's record of the link; reset none -/
  sentRecs : List DeltaRec := []
  /-- totals of each flow counter as last sent (R371). Reset 0 -/
  flowSent : Tbl (Nat × Nat) := []
deriving DecidableEq, Repr

/-! ## Host interface, commands, Batten -/

/-- A host-port ring (R386-R389): transmit ring t is number t, receive ring r number 64 + r. -/
structure RingSt where
  /-- HPT_HEAD, 15 bits. Reset 0 -/
  head : Nat := 0
  /-- HPT_ERR_CNT, 32 bits. Reset 0 -/
  err : Nat := 0
  /-- time of the last message of the ring's PF1 vector (R442). Reset none -/
  vecAt : Option Nat := none
  /-- a message waits for the end of the 2 us interval (R442). Reset false -/
  vecPend : Bool := false
  /-- messages sent. Model's record; reset 0 -/
  vecSent : Nat := 0
deriving DecidableEq, Repr

/-- A command slot (R393). -/
structure CmdSlot where
  /-- generation of the present or last use, 4 bits (R393). Reset 0 -/
  gen : Nat := 0
  /-- in use: its handle is outstanding or its completion not yet consumed. Reset false -/
  used : Bool := false
  /-- the command has been started by its unit. Reset false -/
  running : Bool := false
  /-- the command has finished: its completion is waiting or posted. Reset false -/
  finished : Bool := false
  /-- the descriptor, words 0-15. Reset none -/
  desc : List Word := []
  /-- issue number, for issue order. Model's own; reset 0 -/
  order : Nat := 0
  /-- LT ns at which the device accepted it (R391, R406). Reset 0 -/
  acceptAt : Nat := 0
  /-- the member it was sent to; its handle is a proxy (R407). Reset none -/
  member : Option Nat := none
  /-- it runs a command accepted in a Batten frame (R406). Reset false -/
  forHead : Bool := false
deriving DecidableEq, Repr

/-- A completion waiting for the ring or posted (R394). -/
structure Cpl where
  /-- slots free once it is consumed: one, or all that an epoch completion voids (R393, R399) -/
  slots : List Nat
  handle : Nat
  status : Nat
  devid : Nat
  tag : Word
  opcode : Nat
  irq : Bool
  results : List Word
deriving DecidableEq, Repr

/-- A command sent to a member and not completed (R406, R407). -/
structure MSlot where
  /-- head slot, member-slot generation -/
  slot : Nat
  gen : Nat
  /-- time of the last sending, resends so far, acknowledged -/
  sentAt : Nat
  resends : Nat
  acked : Bool
deriving DecidableEq, Repr

/-- What the head keeps of a member (R405-R407). -/
structure MembSt where
  /-- outstanding commands by mslot 0-255. Reset none -/
  out : Tbl MSlot := []
  /-- generation of each mslot's last use, 4 bits. Reset 0 -/
  gens : Tbl Nat := []
  /-- head slots queued for the member, oldest first. Reset none -/
  queue : List Nat := []
  /-- last counter accepted from the member, 48 bits. Reset 0 -/
  last : Nat := 0
deriving DecidableEq, Repr

/-- A command a member has accepted (R406). -/
structure Accepted where
  gen : Nat
  /-- local slot running it -/
  slot : Nat
  /-- the completion body, once there is one -/
  body : Option (List Byte)
deriving DecidableEq, Repr

/-- Commands, completions, epochs and device groups (chapter 16). -/
structure CmdSt where
  /-- CMD_EPOCH.epoch, 16 bits. Reset 0 -/
  epoch : Nat := 0
  /-- CMD_EPOCH.cause. Reset 0 -/
  cause : Nat := 0
  /-- CMD_STAT.rebuilding. Reset 0 -/
  rebuilding : Bool := false
  /-- CMD_STAT.cpl_stall. Reset 0 -/
  stall : Bool := false
  /-- command slots 0-4,095 (R393). Reset free -/
  slots : Tbl CmdSlot := []
  /-- commands issued so far. Model's own; reset 0 -/
  issued : Nat := 0
  /-- completions in finishing order that have not been posted (R394, R396). Reset none -/
  cpls : List Cpl := []
  /-- CMD_CPL_TAIL. Reset 0 -/
  tail : Nat := 0
  /-- phase of the present pass of the ring (R394). Reset 1 -/
  phase : Bool := true
  /-- completions in the ring not yet consumed, oldest first: the slots each frees. Reset none -/
  inRing : List (List Nat) := []
  /-- slots that the epoch under way voided, for its completion (R399). Reset none -/
  voided : List Nat := []
  /-- CMD_CPL_HEAD before it was last written, and the management cycle of that write: a posting of the same cycle goes by it
  (R396). Reset none -/
  headWas : Option (Nat × Nat) := none
  /-- CMD_RING_HEAD. Reset 0 -/
  ringHead : Nat := 0
  /-- CMD_KEY words, key 4 m + w (R405). Reset 0 -/
  keys : Tbl Word := []
  /-- CMD_KEY_VALID, bit m. Reset 0 -/
  keyValid : Nat := 0
  /-- members' state at the head. Reset none -/
  memb : Tbl MembSt := []
  /-- the head's 24-bit count, last sent. Reset 0 -/
  headCnt : Nat := 0
  /-- last counter accepted from the head, 48 bits. Reset 0 -/
  lastHead : Nat := 0
  /-- ID of the head that sent the last accepted command. Reset 0 -/
  headId : Nat := 0
  /-- the member's own count, 24 bits (R405). Reset 0 -/
  membCnt : Nat := 0
  /-- accepted commands by mslot (R406). Reset none -/
  accepted : Tbl Accepted := []
deriving DecidableEq, Repr

/-! ## Gneiss -/

/-- The routines Gneiss runs (R420). -/
inductive RoutineKind where
  | rebuild
  | stateCopy
  | rsCopy
  | walk
  | snapshot
  | swap
  | pUpdate
  | loftRestart
  | patchLoad
  | xFlush
  | dripAudit
  | loftTrain
deriving DecidableEq, Repr

/-- A routine ready to start, with its command slot (R420). -/
structure Routine where
  kind : RoutineKind
  slot : Option Nat
deriving DecidableEq, Repr

/-- The context of a routine (R410, R418). -/
structure Ctx where
  rt : Routine
  /-- executing in patch RAM -/
  space : Bool := false
  upc : Nat := 0
  /-- return stack, newest first, at most 8 entries of space bit and address -/
  stack : List (Bool × Nat) := []
  /-- the 64 registers -/
  rf : Tbl DWord := []
  /-- loop counter, 16 bits -/
  loop : Nat := 0
  /-- dispatch register, 8 bits -/
  disp : Nat := 0
  z : Bool := false
  n : Bool := false
  c : Bool := false
  /-- unwind entry (R417) -/
  unwind : Option (Bool × Nat) := none
  /-- the routine has been aborted and runs its unwind entry (R420) -/
  unwinding : Bool := false
deriving DecidableEq, Repr

/-- Gneiss (chapter 17). -/
structure GnsSt where
  /-- patch RAM, 2,048 words of 128 bits (R410). Reset empty -/
  patch : Tbl (BitVec 128) := []
  /-- GNS_MATCH 0-63. Reset 0 -/
  matchRegs : Tbl Word := []
  /-- GNS_PATCH.loaded and version. Reset 0 -/
  loaded : Bool := false
  version : Nat := 0
  /-- GNS_STAT.dead (R413). Reset 0 -/
  dead : Bool := false
  /-- GNS_SP_GAP.cycles (R419). Reset 0 -/
  gap : Nat := 0
  /-- cycles since the last safe point. Reset 0 -/
  since : Nat := 0
  /-- GNS_TRAP_LOG (R421). Reset 0 -/
  trapLog0 : Word := 0
  trapLog1 : Word := 0
  /-- the running routine. Reset none -/
  run : Option Ctx := none
  /-- suspended contexts, highest priority first (R420). Reset none -/
  susp : List Ctx := []
  /-- command slots flagged to abort (R422). Reset none -/
  aborts : List Nat := []
  /-- requests outstanding: port, operation, address, data (R417). Reset none -/
  reqs : List (Nat × Nat × Nat × DWord) := []
  /-- reply registers of ports 1-6 (R414): listed once the reply is in. Reset none -/
  reply : Tbl DWord := []
deriving DecidableEq, Repr

/-! ## The whole device -/

/-- What the units of the device change while they work. -/
structure Dev where
  evt : EvtSt := {}
  stat : StatSt := {}
  pmu : PmuSt := {}
  mgmt : MgmtSt := {}
  pwr : PwrSt := {}
  ports : Tbl PortSt := []
  blks : Tbl BlkSt := []
  /-- frames in the device by number, and the next number (model's own) -/
  frames : Tbl Frame := []
  nextFrame : Nat := 1
  /-- crossings of Ridge by number, and the next number (model's own) -/
  sends : Tbl Send := []
  nextSend : Nat := 1
  /-- frames at output blocks by number, and the next number (model's own) -/
  asms : Tbl Asm := []
  nextAsm : Nat := 1
  /-- copies in egress queues by number, and the next number (model's own) -/
  copies : Tbl Copy := []
  nextCopy : Nat := 1
  /-- a swap of the WRED profiles, and of the policer profiles, pending: T' in LT ns, and command slot (R264). Reset
  none -/
  wredSwap : Option (Nat × Nat) := none
  policerSwap : Option (Nat × Nat) := none
  /-- latest swap instant in LT ns, and late, of each SHADOW_SWAP under way, by command slot (R263). Reset none -/
  swapRes : Tbl (Nat × Bool) := []
  /-- threads, key 128 × cluster + 4 × engine + thread -/
  threads : Tbl Thread := []
  /-- Ridge is frozen (RDG_STAT.frozen, R221). Reset false -/
  frozen : Bool := false
  rs : RsSt := {}
  /-- Mica set slots 0-15 -/
  sets : Tbl SetSlot := []
  slate : SlateSt := {}
  loft : LoftSt := {}
  gut : GutSt := {}
  qtz : QtzSt := {}
  mdio : Tbl MdioSt := []
  twin : TwinSt := {}
  rings : Tbl RingSt := []
  cmd : CmdSt := {}
  gns : GnsSt := {}
  /-- free values taken so far: the model's own counter (assumption 2). Reset 0, DESIGN CHOICE -/
  free : Nat := 0
deriving DecidableEq, Repr

/-- The state of the block. -/
structure State where
  env : Env := {}
  dev : Dev := {}
  /-- host memory as the device has written it -/
  host : Memory := []
  /-- Loft bytes as written; an unlisted byte reads 0 (DESIGN CHOICE, assumption 5) -/
  loft : Memory := []
  /-- PF1 BAR0 registers the host writes, by offset / 4 (HPT_BASE, SIZE, TAIL, WB). Reset 0 -/
  hpt : Tbl Word := []
  /-- commands waiting, first in, first out -/
  pending : List Instr := []
deriving DecidableEq, Repr

/-- Why the machine would stop with a fault. No command of this block stops with one. -/
inductive Fault where
  /-- never raised: the manual gives every command an effect. Safe: stopping can prove nothing false. -/
  | none
deriving DecidableEq, Repr

/-- Why a command has no meaning. -/
inductive Refusal where
  /-- raised by an arm of `exec` for a command that has no meaning in this model yet. Safe. -/
  | notModelled (mnemonic : String)
deriving DecidableEq, Repr

/-- The block right after device reset (R447, R449): every field at its reset value. -/
def State.reset : State := {}

end Sys2Proof.Machine
end

