-- ==== Sys2Proof/Machine/Ops.lean ====
section
/-! DEFINITION. The named operations every chapter uses: sparse tables and memories, register values, time,
event counters with MSI-X (R437-R441), statistics counters (R328-R331), performance counters (R337, R339)
and free values. Operations on the device have the shape `Env → … → Dev → Dev`. -/
namespace Sys2Proof.Machine

/-! ## Tables and memories -/

/-- The value a table holds at key k; `d` where nothing is listed. -/
def tget {α : Type} (d : α) : Tbl α → Nat → α
  | [], _ => d
  | (j, v) :: r, k => if j = k then v else tget d r k

/-- Whether a key is listed. -/
def thas {α : Type} : Tbl α → Nat → Bool
  | [], _ => false
  | (j, _) :: r, k => if j = k then true else thas r k

/-- The listed value at k, if any. -/
def tfind {α : Type} : Tbl α → Nat → Option α
  | [], _ => none
  | (j, v) :: r, k => if j = k then some v else tfind r k

/-- The table without key k. -/
def tdel {α : Type} : Tbl α → Nat → Tbl α
  | [], _ => []
  | (j, v) :: r, k => if j = k then tdel r k else (j, v) :: tdel r k

/-- The table with v listed at k; the keys stay strictly rising. -/
def tput {α : Type} : Tbl α → Nat → α → Tbl α
  | [], k, v => [(k, v)]
  | (j, u) :: r, k, v =>
    if k < j then (k, v) :: (j, u) :: r
    else if j = k then (k, v) :: r
    else (j, u) :: tput r k v

/-- The table with value v at k, in canonical form: the default d is never listed. -/
def tset {α : Type} [DecidableEq α] (d : α) (t : Tbl α) (k : Nat) (v : α) : Tbl α :=
  if v = d then tdel t k else tput t k v

/-- The byte at an address; an unlisted byte reads 0 (assumption 5). -/
def mget (m : Memory) (a : Nat) : Byte := tget 0 m a

/-- A byte written. -/
def mset (m : Memory) (a : Nat) (b : Byte) : Memory := tset 0 m a b

/-- Bytes written from an address upward. -/
def mwrite : Memory → Nat → List Byte → Memory
  | m, _, [] => m
  | m, a, b :: r => mwrite (mset m a b) (a + 1) r

/-- `n` bytes read from an address upward. -/
def mread (m : Memory) (a : Nat) : Nat → List Byte
  | 0 => []
  | n + 1 => mget m a :: mread m (a + 1) n

/-- The listed addresses rise strictly from `lo` and no listed byte is 0. -/
def Memory.wfFrom : Nat → Memory → Bool
  | _, [] => true
  | lo, (a, b) :: r => decide (lo ≤ a) && decide (b ≠ 0) && Memory.wfFrom (a + 1) r

/-- The canonical form of memories. -/
def Memory.wf (m : Memory) : Bool := Memory.wfFrom 0 m

/-! ## Time (R23, R286) -/

/-- Nanoseconds as thirds. -/
def ns (n : Nat) : Nat := 3 * n
/-- Microseconds as thirds. -/
def us (n : Nat) : Nat := 3000 * n
/-- Milliseconds as thirds. -/
def ms (n : Nat) : Nat := 3000000 * n

/-- Thirds of a nanosecond that LT has run; 0 before the PLL has locked. -/
def Env.lt3 (e : Env) : Nat := match e.ltBase with
  | some b => e.third - b
  | none => 0

/-- LT in whole nanoseconds. -/
def Env.ltNs (e : Env) : Nat := e.lt3 / 3

/-- LT in 2^-16 ns, as stamps hold it (R286, R295). -/
def Env.ltStamp (e : Env) : Nat := e.lt3 * 65536 / 3

/-- Core cycles since reset (R23). -/
def Env.cycle (e : Env) : Nat := e.third / 2

/-! ## Register values -/

/-- GLB_STRAP as sampled (R444). -/
def Straps.word (s : Straps) : Nat :=
  s.devid.toNat + flagAt s.twinRole 6 + s.bootSrc.toNat * 128 + flagAt s.pcieWidth 9

/-- Reset value of PUR_PRIO by requester (R359). -/
def purPrioReset (id : Nat) : Nat :=
  if id < 16 then 4 else if id < 32 then 5 else
    [3, 2, 2, 3, 2, 7, 4, 6, 0, 0, 0, 0, 0, 0, 0, 0, 4, 1].getD (id - 32) 0

/-- Writable bits of the register of a kind at a place: PUR_PRIO has compat for IDs 33 and 34 only, and reads 0 for an ID that
R359 does not name. -/
def wmaskAt (k : RegKind) (p : List Nat) : Nat :=
  let id := p.headD 0
  match k.name with
  | .PUR_PRIO => if id = 33 ∨ id = 34 then k.wmask else if id < 40 ∨ 48 ≤ id ∧ id ≤ 50 then 7 else 0
  | _ => k.wmask

/-- The reset value of the register of a kind at a place: the table's, or the rule that gives it by place. -/
def resetAt (k : RegKind) (p : List Nat) : Nat :=
  match k.name with
  | .EGS_AGE => if p.getLast? = some 15 then 0x3E8 else k.reset
  | .PUR_PRIO => purPrioReset (p.headD 0)
  | _ => k.reset

/-- Reset value at a BAR0 offset; 0 where no register stands. -/
def resetOff (off : Nat) : Nat :=
  match regAt off with
  | some (k, p) => resetAt k p
  | none => 0

/-- One voted field of a register (R429): the value at least two copies hold; where all three differ, a
value the manual leaves open until R431 resets the field. -/
def votedField (off v b c : Nat) (f : Nat × Nat) : Nat :=
  let x := bits v f.1 f.2
  let y := bits (v ^^^ b) f.1 f.2
  let z := bits (v ^^^ c) f.1 f.2
  if x = y ∨ x = z then x else if y = z then y
  else bits (Config.voteOpen off (w32 x) (w32 y) (w32 z)).toNat (f.1 - f.2) 0

/-- A register value with every voted field at its voted value. -/
def votedWord (off v b c : Nat) : Nat :=
  match regAt off with
  | some (k, _) => k.tv.foldl (fun a f => setBits a f.1 f.2 (votedField off v b c f)) v
  | none => v

/-- The landed value of a register as hardware uses it: of an SH register the shadow copy, of voted fields
the voted value (R429). -/
def Env.reg (e : Env) (off : Nat) : Nat :=
  let v := match tfind e.regs.vals (off / 4) with
    | some w => w.toNat
    | none => resetOff off
  let b := (tget 0 e.regs.tvB (off / 4)).toNat
  let c := (tget 0 e.regs.tvC (off / 4)).toNat
  if b = 0 ∨ c = 0 then v else votedWord off v b c

/-- The active copy of an SH register (R262). -/
def Env.act (e : Env) (off : Nat) : Nat :=
  match tfind e.regs.active (off / 4) with
  | some w => w.toNat
  | none => resetOff off

/-- Field hi..lo of a register. -/
def Env.f (e : Env) (off hi lo : Nat) : Nat := bits (e.reg off) hi lo
/-- Bit i of a register. -/
def Env.b (e : Env) (off i : Nat) : Bool := bit (e.reg off) i
/-- Field hi..lo of the active copy of an SH register. -/
def Env.fa (e : Env) (off hi lo : Nat) : Nat := bits (e.act off) hi lo
/-- Bit i of the active copy of an SH register. -/
def Env.ba (e : Env) (off i : Nat) : Bool := bit (e.act off) i

/-- A register set to a value, all three copies of its voted fields with it (R429). -/
def Env.setReg (e : Env) (off v : Nat) : Env :=
  let k := off / 4
  { e with regs := { e.regs with
      vals := tset (w32 (resetOff off)) e.regs.vals k (w32 v)
      tvB := tdel e.regs.tvB k
      tvC := tdel e.regs.tvC k } }

/-- The active copy of an SH register set to a value. -/
def Env.setAct (e : Env) (off v : Nat) : Env :=
  { e with regs := { e.regs with active := tset (w32 (resetOff off)) e.regs.active (off / 4) (w32 v) } }

/-! ## Places of registers -/

/-- Block of a network port (R10): P(4b)-P(4b+3) and P(64+2b), P(65+2b) belong to block b. -/
def blkOf (n : Nat) : Nat := if n < 64 then n / 4 else (n - 64) / 2
/-- Local port of a network port: 0-3 the trunk ports, 4 and 5 the field ports. -/
def lpOf (n : Nat) : Nat := if n < 64 then n % 4 else 4 + (n - 64) % 2
/-- The network port at local port lp of block b. -/
def portAt (b lp : Nat) : Nat := if lp < 4 then 4 * b + lp else 64 + 2 * b + (lp - 4)
/-- Port registers: the PB block's register `r` of port n. -/
def pbReg (n r : Nat) : Nat := 0x400000 + 0x20000 * blkOf n + 0x1000 * lpOf n + r
/-- PB block registers. -/
def pbBlk (b r : Nat) : Nat := 0x400000 + 0x20000 * b + r
/-- FLT registers of cluster c. -/
def fltReg (c r : Nat) : Nat := 0x600000 + 0x10000 * c + r
/-- THA registers of block b. -/
def thaReg (b r : Nat) : Nat := 0x900000 + 0x8000 * b + r
/-- EGS registers of port n. -/
def egsReg (n r : Nat) : Nat := 0xA00000 + 0x2000 * n + r

/-! ## Units -/

/-- Port n. -/
def Dev.port (d : Dev) (n : Nat) : PortSt := tget {} d.ports n
/-- Port n replaced. -/
def Dev.setPort (d : Dev) (n : Nat) (p : PortSt) : Dev := { d with ports := tput d.ports n p }
/-- Block b. -/
def Dev.blk (d : Dev) (b : Nat) : BlkSt := tget {} d.blks b
/-- Block b replaced. -/
def Dev.setBlk (d : Dev) (b : Nat) (x : BlkSt) : Dev := { d with blks := tput d.blks b x }
/-- Port n changed. -/
def Dev.onPort (d : Dev) (n : Nat) (f : PortSt → PortSt) : Dev := d.setPort n (f (d.port n))
/-- Block b changed. -/
def Dev.onBlk (d : Dev) (b : Nat) (f : BlkSt → BlkSt) : Dev := d.setBlk b (f (d.blk b))
/-- Frame i. -/
def Dev.frame (d : Dev) (i : Nat) : Frame := tget {} d.frames i
/-- Frame i replaced. -/
def Dev.setFrame (d : Dev) (i : Nat) (f : Frame) : Dev := { d with frames := tput d.frames i f }
/-- Frame i changed. -/
def Dev.onFrame (d : Dev) (i : Nat) (f : Frame → Frame) : Dev := d.setFrame i (f (d.frame i))
/-- Crossing i. -/
def Dev.send (d : Dev) (i : Nat) : Send := tget {} d.sends i
/-- Crossing i replaced. -/
def Dev.setSend (d : Dev) (i : Nat) (x : Send) : Dev := { d with sends := tput d.sends i x }
/-- Frame at an output block. -/
def Dev.asm (d : Dev) (i : Nat) : Asm := tget {} d.asms i
/-- Frame at an output block replaced. -/
def Dev.setAsm (d : Dev) (i : Nat) (x : Asm) : Dev := { d with asms := tput d.asms i x }
/-- Copy i. -/
def Dev.copy (d : Dev) (i : Nat) : Copy := tget {} d.copies i
/-- Copy i replaced. -/
def Dev.setCopy (d : Dev) (i : Nat) (x : Copy) : Dev := { d with copies := tput d.copies i x }
/-- Thread t. -/
def Dev.thread (d : Dev) (t : Nat) : Thread := tget {} d.threads t
/-- Thread t replaced. -/
def Dev.setThread (d : Dev) (t : Nat) (x : Thread) : Dev := { d with threads := tput d.threads t x }
/-- Mica set slot k. -/
def Dev.set (d : Dev) (k : Nat) : SetSlot := tget {} d.sets k
/-- Mica set slot k replaced. -/
def Dev.setSet (d : Dev) (k : Nat) (x : SetSlot) : Dev := { d with sets := tput d.sets k x }

/-- The table number of a thread. -/
def ThreadId.key (t : ThreadId) : Nat := 128 * t.cl.val + 4 * t.eng.val + t.thr.val

/-! ## Free values -/

/-- The next free value (assumption 2) and the device with the counter advanced. -/
def Dev.takeFree (d : Dev) : Nat × Dev := ((Config.freeValue d.free).toNat, { d with free := d.free + 1 })

/-! ## Performance counters (R337, R339) -/

/-- Frame context of a performance sample: in_port, ver, queue (R340). -/
abbrev FrCtx := Option (Nat × Nat × Nat)

/-- The counters whose PMU_CTR_CFG.enable is 1. Reset disables all, so an enabled one is listed. -/
def pmuEnabled (e : Env) : List Nat :=
  (List.range 64).filter (fun i => match tfind e.regs.vals (0x340441 + 4 * i) with
    | some w => bit w.toNat 31
    | none => false)

/-- The copy edge of a snapshot at LT `lt` is behind for a counter's domain (R25): in the core domain the copy holds what is
applied up to its first edge after the instant, in a lane domain what is applied up to the instant. -/
def snapPast (e : Env) (lt : Nat) (lane : Bool) : Bool := match e.ltBase with
  | none => false
  | some b => if lane then decide (b + 3 * lt < e.third) else decide ((b + 3 * lt) / 2 + 1 < e.cycle)

/-- Group of a statistics counter by its BAR0 offset / 8 (R330). -/
def statGroup (key : Nat) : Nat :=
  let a := 8 * key - 0xC10000
  if a < 0x30000 then 0 else if a < 0x50000 then 1 else if a < 0x60000 then 2 else 3

/-- The counter counts in its port's lane domain: of the port set, what reception counts (R25, R331). -/
def laneCounter (key : Nat) : Bool :=
  let i := (8 * key - 0xC10000) % 0x800 / 8
  statGroup key == 0 && (decide (i < 2) || (decide (4 ≤ i) && decide (i < 13)) || (decide (22 ≤ i) && decide (i < 25)) ||
    (decide (28 ≤ i) && decide (i < 37)) || (decide (46 ≤ i) && decide (i < 55)) || i == 59 || i == 60)

/-- A statistics counter is about to change from `v`: the snapshots whose copy edge is behind keep `v` (R25). -/
def snapSave (e : Env) (key v : Nat) (d : Dev) : Dev :=
  { d with stat := { d.stat with snaps := d.stat.snaps.map (fun q =>
      if bit q.groups (statGroup key) && snapPast e q.lt (laneCounter key) && !(thas q.saved key) then
        { q with saved := tput q.saved key v }
      else q) } }

/-- The same for performance counter i. -/
def pmuSave (e : Env) (i : Nat) (d : Dev) : Dev :=
  let keep := fun (t : Tbl Nat) (q : SnapReq) =>
    if bit q.groups 4 && snapPast e q.lt false && !(thas t (64 * q.slot + i)) then
      tput t (64 * q.slot + i) (tget 0 d.pmu.ctr i)
    else t
  { d with pmu := { d.pmu with saved := d.stat.snaps.foldl keep d.pmu.saved } }

/-- What performance counter i has added in the present core cycle (R339). -/
def pmuNow (e : Env) (d : Dev) (i : Nat) : Nat :=
  let x := tget (0, 0) d.pmu.now i
  if x.1 = e.cycle then x.2 else 0

/-- Performance counter i adds n; the frame context of the add that passes 2^48 - 1 is kept for its sample (R337, R340). -/
def pmuPlus (e : Env) (i n : Nat) (ctx : FrCtx) (d : Dev) : Dev :=
  if n = 0 then d else
    let d := pmuSave e i d
    let v := tget 0 d.pmu.ctr i
    { d with pmu := { d.pmu with
        ctr := tset 0 d.pmu.ctr i (v + n)
        now := tset (0, 0) d.pmu.now i (e.cycle, pmuNow e d i + n)
        ctx := if v < 2 ^ 48 ∧ 2 ^ 48 ≤ v + n then tset none d.pmu.ctx i ctx else d.pmu.ctx } }

/-- `n` occurrences of the event that `sel` selects, added to every counter that selects it. -/
def pmuAdd (e : Env) (sel : Nat → Bool) (n : Nat) (ctx : FrCtx) (d : Dev) : Dev :=
  if d.pmu.freeze then d else
    (pmuEnabled e).foldl (fun d i => if sel (e.reg (0xD01100 + 0x10 * i)) then pmuPlus e i n ctx d else d) d

/-- The PMU_SEL value that selects counter i of a statistics set: kinds 0-3 (R337). -/
def pmuSel (kind idx inst : Nat) (w : Nat) : Bool :=
  bits w 31 29 == kind && bits w 28 20 == idx && bits w 19 8 == inst

/-! ## Events and MSI-X (R437-R441) -/

/-- Count of event i of group g. -/
def Dev.evCnt (d : Dev) (g i : Nat) : Word := tget 0 d.evt.cnt (8 * g + i)
/-- Acknowledged count of event i of group g. -/
def Dev.evAck (d : Dev) (g i : Nat) : Word := tget 0 d.evt.ack (8 * g + i)

/-- EVT_GRP_CFG of group g. -/
def grpCfg (e : Env) (g : Nat) : Nat := e.reg (0x100000 + 4 * g)

/-- Event i of group g is pending (R437). -/
def evPending (e : Env) (d : Dev) (g i : Nat) : Bool :=
  bit (grpCfg e g) (24 + i) && decide (d.evCnt g i ≠ d.evAck g i)

/-- Group g has a pending event. -/
def grpPending (e : Env) (d : Dev) (g : Nat) : Bool := (List.range 8).any (evPending e d g)

/-- The groups that can have a pending event: an enabled group has a listed EVT_GRP_CFG. -/
def listedGroups (e : Env) : List Nat :=
  e.regs.vals.filterMap (fun kv => if 0x40000 ≤ kv.1 ∧ kv.1 < 0x40100 then some (kv.1 - 0x40000) else none)

/-- The pending set of vector v is not empty (R440). -/
def vecPending (e : Env) (d : Dev) (v : Nat) : Bool :=
  (listedGroups e).any (fun g => bits (grpCfg e g) 10 0 == v && grpPending e d g)

/-- Send the message of PF0 vector v; masked, its pending bit is set (R441). -/
def sendMsix (v : Nat) (d : Dev) : Dev :=
  if d.evt.fnMask || !(tget false d.evt.unmasked v) then
    { d with evt := { d.evt with pba := tset false d.evt.pba v true } }
  else { d with evt := { d.evt with sent := tset 0 d.evt.sent v (tget 0 d.evt.sent v + 1) } }

/-- The message of every vector whose pending set went from empty to non-empty between two states of the
registers and the event counters (R440), for the vectors given. -/
def vecEdge (e0 : Env) (d0 : Dev) (e1 : Env) (vs : List Nat) (d1 : Dev) : Dev :=
  vs.foldl (fun d v => if vecPending e1 d v && !(vecPending e0 d0 v) then sendMsix v d else d) d1

/-- BAR0 offset of the _CNT register of event i of group g (event tables of the chapters). -/
def cntOffset (g i : Nat) : Nat :=
  match eventKinds.find? (fun k => k.bit == i && decide (k.group ≤ g) && decide (g < k.group + k.groups)) with
  | some k => if k.stride = 0 then pbReg (g - k.group) (k.cnt % 0x1000) else k.cnt + k.stride * (g - k.group)
  | none => 0

/-- Event i of group g occurs: its count advances, performance counters that select it count, and the
vector's message is sent when its pending set becomes non-empty (R337, R437, R440). -/
def raiseEv (e : Env) (g i : Nat) (d : Dev) : Dev :=
  let d1 := { d with evt := { d.evt with cnt := tset 0 d.evt.cnt (8 * g + i) (d.evCnt g i + 1) } }
  let d2 := if d.pmu.freeze then d1 else
    pmuAdd e (fun w => bits w 31 29 == 5 && 4 * bits w 23 0 == cntOffset g i) 1 none d1
  vecEdge e d e [bits (grpCfg e g) 10 0] d2

/-! ## Statistics counters (R328-R331) -/

/-- A counter in the live set named by its BAR0 offset advances by n; at half range it is logged (R329). -/
def bump (e : Env) (off n : Nat) (sel : Nat → Bool) (ctx : FrCtx) (d : Dev) : Dev :=
  if n = 0 then d else
    let old := tget 0 d.stat.live (off / 8)
    let new := (old + n) % 2 ^ 48
    let d := snapSave e (off / 8) old d
    let d := { d with stat := { d.stat with live := tset 0 d.stat.live (off / 8) new } }
    let d := pmuAdd e sel n ctx d
    if bit new 47 && !(bit old 47) then
      let idx := (d.evCnt 134 2).toNat % 256
      raiseEv e 134 2 { d with stat := { d.stat with halfLog := tset 0 d.stat.halfLog idx (off / 4) } }
    else d

/-- Port-set counter i of port n advances by k (R330, R331). -/
def bumpPort (e : Env) (n i k : Nat) (ctx : FrCtx) (d : Dev) : Dev :=
  bump e (0xC10000 + 0x800 * n + 8 * i) k (pmuSel 0 i n) ctx d
/-- Queue-set counter i of queue q of port n advances by k. -/
def bumpQ (e : Env) (n q i k : Nat) (ctx : FrCtx) (d : Dev) : Dev :=
  bump e (0xC40000 + 0x400 * n + 0x40 * q + 8 * i) k (pmuSel 1 i (16 * n + q)) ctx d
/-- Block-set counter i of block b advances by k. -/
def bumpBlk (e : Env) (b i k : Nat) (ctx : FrCtx) (d : Dev) : Dev :=
  bump e (0xC60000 + 0x800 * b + 8 * i) k (pmuSel 2 i b) ctx d
/-- Device-set counter i advances by k. -/
def bumpDev (e : Env) (i k : Nat) (ctx : FrCtx) (d : Dev) : Dev :=
  bump e (0xC70000 + 8 * i) k (pmuSel 3 i 0) ctx d

/-! ## Marks of the twin's state delta (R371, R372) -/

/-- The device is the active of a pair that copies its state: syncing or paired. -/
def twinCopies (e : Env) (d : Dev) : Bool :=
  e.b 0x1100000 31 && !(e.b 0x1100004 0) && (d.twin.state == 2 || d.twin.state == 3)

/-- The item that item i supersedes: a learn and an age-out of one Slate-X key are one thing that changes (R371, R373). -/
def twinTwin (i : Nat × Nat) : Nat × Nat := (if i.1 = 5 then 6 else if i.1 = 6 then 5 else i.1, i.2)

/-- Item `k` of record order `o` has changed in the present twin cycle (R371). -/
def twinMark (e : Env) (o k : Nat) (d : Dev) : Dev :=
  if twinCopies e d && !(d.twin.changed.contains (o, k)) then
    let l := d.twin.changed.filter (fun i => o = 5 ∨ o = 6 → i != twinTwin (o, k))
    { d with twin := { d.twin with changed := l ++ [(o, k)] } }
  else d

/-- `k` more of cycle event i of block b in the present core cycle (R338). -/
def cycAdd (e : Env) (b i k : Nat) (d : Dev) : Dev :=
  let base : Tbl Nat := if d.pmu.cycAt = e.cycle then d.pmu.cyc else []
  { d with pmu := { d.pmu with cyc := tset 0 base (13 * b + i) (tget 0 base (13 * b + i) + k), cycAt := e.cycle } }

end Sys2Proof.Machine
end

