-- ==== Sys2Proof/Machine/Power.lean ====
section
/-! DEFINITION. The step governor and the power of units (R454-R459), start-up phases (R449, R450) and die
temperature (R471). -/
namespace Sys2Proof.Machine

/-! ## Governor (R454-R459) -/

/-- Ramp rate of a unit in A/us (R455). -/
def unitRho (u : Nat) : Nat :=
  if u < 32 then 5 else if u < 96 then 3 else if u < 128 then 2 else if u < 130 then 3 else 4

/-- Ramp time of a unit in thirds of a nanosecond (R455). -/
def unitRamp (u : Nat) : Nat :=
  if u < 32 then us 2 else if u < 96 then ns 500 else if u < 128 then ns 200 else if u < 130 then ns 500 else us 1

/-- The unit is powered and serves (R456). -/
def unitOn (d : Dev) (u : Nat) : Bool := tget false d.pwr.on u

/-- The state a unit will have once what is granted and queued for it has been done. -/
def unitTarget (d : Dev) (u : Nat) : Bool :=
  match d.pwr.queue.find? (fun r => r.unit == u), d.pwr.ramps.find? (fun r => r.1 == u) with
  | some r, _ => r.up
  | none, some r => r.2.1
  | none, none => unitOn d u

/-- A request put into the queue: arrival order, requests of one core cycle by ascending unit (R454). -/
def govInsert (r : PwrReq) : List PwrReq → List PwrReq
  | [] => [r]
  | x :: l => if x.since / 2 = r.since / 2 ∧ r.unit < x.unit then r :: x :: l else x :: govInsert r l

/-- A change of power state of a unit requested (R454, R458): a queued opposite request is removed instead; a
unit already bound for that state asks for nothing. -/
def powerRequest (e : Env) (u : Nat) (up : Bool) (d : Dev) : Dev :=
  if unitTarget d u == up then d
  else if d.pwr.queue.any (fun r => r.unit == u) then
    { d with pwr := { d.pwr with queue := d.pwr.queue.filter (fun r => r.unit != u) } }
  else { d with pwr := { d.pwr with queue := govInsert { unit := u, up := up, since := e.third } d.pwr.queue } }

/-- S of PWR_GOV.slew, 10 to 80 (R454). -/
def govSlew (e : Env) : Nat := clamp 10 80 (e.f 0x1200010 6 0)

/-- Rates of the ramps in progress. -/
def rampRate (d : Dev) : Nat := d.pwr.ramps.foldl (fun a r => a + unitRho r.1) 0

/-- GOVERNOR_GRANT: the head of the queue is granted when the rates in use leave room and its unit does not
ramp (R454, R458), and the deferral is recorded (R459). A unit that powers down serves no longer. -/
def grantOp (e : Env) (d : Dev) : Dev :=
  match d.pwr.queue with
  | [] => d
  | r :: rest =>
    if govSlew e < rampRate d + unitRho r.unit ∨ d.pwr.ramps.any (fun x => x.1 == r.unit) then d else
      let df := min 0xFFFFFFFF ((e.third - r.since) / 3)
      let i := d.pwr.grants % 16
      let d := { d with pwr := { d.pwr with
        queue := rest
        ramps := d.pwr.ramps ++ [(r.unit, r.up, e.third)]
        on := if r.up then d.pwr.on else tset false d.pwr.on r.unit false
        deferral := tset 0 d.pwr.deferral r.unit (min 0xFFFFFF df)
        deferMax := max d.pwr.deferMax df
        grants := (d.pwr.grants + 1) % 2 ^ 32
        wakeLog := tset 0 (tset 0 d.pwr.wakeLog (2 * i) (flagAt (!r.up) 31 + r.unit)) (2 * i + 1) df } }
      if e.f 0x1200010 31 16 * 1000 < df then raiseEv e 140 0 d else d

/-- RAMP_END: a ramp that has lasted its time ends; a woken unit serves from now (R454, R456). -/
def rampEndOp (e : Env) (u : Nat) (d : Dev) : Dev :=
  match d.pwr.ramps.find? (fun r => r.1 == u) with
  | none => d
  | some r =>
    if e.third < r.2.2 + unitRamp u then d else
      { d with pwr := { d.pwr with
          ramps := d.pwr.ramps.filter (fun x => x.1 != u)
          on := tset false d.pwr.on u r.2.1 } }

/-- Host transmit ring t is enabled (HPT_SIZE). -/
def txRingOn (hpt : Tbl Word) (t : Nat) : Bool := bit (tget 0 hpt ((0x40 * t + 8) / 4)).toNat 31

/-- A port of block c or a host transmit ring of its slice is enabled (R457). -/
def blockInUse (s : State) (c : Nat) : Bool :=
  [0, 1, 2, 3, 4, 5].any (fun lp => (s.dev.port (portAt c lp)).enabled) ||
    [c, c + 16, c + 32, c + 48].any (txRingOn s.hpt)

/-- Bit c of PWR_FLT_EN lands (R456, R457). -/
def clusterPower (c : Nat) (on : Bool) (s : State) : State :=
  let d := s.dev
  let keep := d.pwr.fltPending &&& (0xFFFF ^^^ 2 ^ c)
  let set := fun f => { d with pwr := { d.pwr with fltPending := f } }
  if on then { s with dev := powerRequest s.env c true (set keep) }
  else if !(unitTarget d c) then s
  else if blockInUse s c then { s with dev := set (keep ||| 2 ^ c) }
  else { s with dev := powerRequest s.env c false (set keep) }

/-- A write of PWR_FLT_EN lands. -/
def clusterPowerLanded (v : Nat) (s : State) : State :=
  (List.range 16).foldl (fun s c => clusterPower c (bit v c) s) s

/-- Stored cluster power-downs whose block is no longer in use are requested (R457). -/
def fltSettle (s : State) : State :=
  if s.dev.pwr.fltPending = 0 then s else
    (List.range 16).foldl (fun s c =>
      if bit s.dev.pwr.fltPending c && !(blockInUse s c) then
        let p := s.dev.pwr
        let d := { s.dev with pwr := { p with fltPending := p.fltPending &&& (0xFFFF ^^^ 2 ^ c) } }
        { s with dev := powerRequest s.env c false d }
      else s) s

/-! ## Start-up (R287, R449, R450) -/

/-- PLL_LOCK: TREF has been present long enough and the time PLL locks; LT starts at its first lock (R286, R287). -/
def pllLockOp (s : State) : State :=
  let e := s.env
  { s with
    env := { e with ltBase := some (e.ltBase.getD e.third) }
    dev := { s.dev with pwr := { s.dev.pwr with locked := true } } }

/-- CONFIGURATION_READY (R449, R450): phases 2 to 4 have ended; an error leaves phase 0. With BOOT_SRC = 1 the
memory self-test starts. -/
def configReadyOp (fuseErr romErr : Bool) (s : State) : State :=
  let d := s.dev
  if !s.env.perst || d.pwr.phase ≠ 2 then s else
    let bad := fuseErr || romErr
    { s with dev := { d with
        pwr := { d.pwr with
          phase := if bad then 0 else if s.env.b 0x1200004 0 then 7 else 5
          fuseErr := fuseErr
          romErr := romErr
          bistRun := !bad && s.env.straps.bootSrc == 1 }
        gns := { d.gns with dead := d.gns.dead || romErr } } }

/-- BIST_END (R450). -/
def bistEndOp (failed : Bool) (d : Dev) : Dev :=
  if !d.pwr.bistRun then d else
    { d with pwr := { d.pwr with bistRun := false, bistDone := true, bistFail := failed } }

/-! ## Temperature (R471) -/

/-- TEMP_SENSOR_READ: the sixteen sensors, in 0.125 degrees Celsius; PWR_TEMP keeps the hottest. -/
def tempOp (sensors : List Int) (d : Dev) : Dev :=
  match sensors with
  | [] => d
  | a :: r =>
    let hot := r.foldl max a
    let w : Nat := 2 ^ 31 + ofSigned 11 hot
    let d := { d with pwr := { d.pwr with temp := w32 w } }
    if 960 ≤ hot then
      { d with pwr := { d.pwr with tripped := true }, twin := { d.twin with fenceOut := false } }
    else d

end Sys2Proof.Machine
end

