-- ==== Sys2Proof/Machine/Quartz.lean ====
section
/-! DEFINITION. Quartz (chapter 12): time domains, their operations, captures and time signals. -/
namespace Sys2Proof.Machine

/-! ## Domains (R290-R294) -/

/-- One unit of 2^-16 ns of a domain in units of `Domain.count`. -/
def domUnit : Nat := 3 * 2 ^ 48
/-- The modulus of a domain's count: 96 bits of 2^-16 ns. -/
def domMod : Nat := domUnit * 2 ^ 96

/-- A count from an exact integer value. -/
def domWrap (x : Int) : Nat := (x % (domMod : Int)).toNat

/-- The domain brought to LT third t with no pending operation: a third of LT adds 2^64 + a_d × 2^16, and a
slew adds rate × 2^24 with its sign until its remainder is used up (R290, R292). -/
def Domain.run (m : Domain) (t : Nat) : Domain :=
  let dt := t - m.at3
  let full : Int := (dt * m.slewRate * 2 ^ 24 : Nat)
  let g : Int := if m.slewRem < 0 then - min full (-m.slewRem) else min full m.slewRem
  let g := if m.slewing then g else 0
  { m with
    count := domWrap (m.count + (dt : Int) * (2 ^ 64 + m.adj * 2 ^ 16) + g)
    at3 := max t m.at3
    slewRem := m.slewRem - g }

/-- A set, step or slew applied to a domain brought up to its apply time (R292, R293). -/
def Domain.apply (m : Domain) (o : DomOp) : Domain :=
  match o.op with
  | 1 => { m with count := domWrap (o.val * domUnit), slewRem := 0, slewing := false }
  | 2 => { m with count := domWrap (m.count + o.val * domUnit), slewRem := 0, slewing := false }
  | _ => { m with slewRem := o.val * domUnit, slewRate := o.rate, slewing := decide (o.val ≠ 0) }

/-- The domain at LT third t: a pending operation whose apply time has come is applied at that nanosecond. -/
def Domain.now (m : Domain) (t : Nat) : Domain :=
  match m.pend with
  | some o => if 3 * o.atNs ≤ t then { ((m.run (3 * o.atNs)).apply o).run t with pend := none } else m.run t
  | none => m.run t

/-- N_d in 2^-16 ns at LT third t. -/
def Domain.n (m : Domain) (t : Nat) : Nat := (m.now t).count / domUnit

/-- Domain k. -/
def Env.dom (e : Env) (k : Nat) : Domain := e.doms.getD k {}
/-- Domain k replaced. -/
def Env.setDom (e : Env) (k : Nat) (m : Domain) : Env := { e with doms := e.doms.set k m }
/-- N_d of domain k now, in 2^-16 ns. -/
def Env.domN (e : Env) (k : Nat) : Nat := (e.dom k).n e.lt3
/-- Domain k's time in whole nanoseconds. -/
def Env.domNs (e : Env) (k : Nat) : Nat := e.domN k / 65536

/-- Nanoseconds of a time written as seconds [47:32], seconds [31:0] and nanoseconds (R291). -/
def timeNs (sh sl n : Nat) : Nat := (bits sh 15 0 * 2 ^ 32 + sl) * 1000000000 + bits n 29 0

/-- A domain time in ns converted to LT ns with the domain as it stands (R294): the first LT nanosecond at
which the domain reaches it at its present ratio; the present LT when it has passed. -/
def Env.toLt (e : Env) (k t : Nat) : Nat :=
  let m := (e.dom k).now e.lt3
  let n := m.count / domUnit
  if t * 65536 ≤ n then e.ltNs
  else e.ltNs + ceilDiv ((t * 65536 - n) * 2 ^ 32) ((2 ^ 48 + m.adj : Int).toNat)

/-- a_d × 2^-48 of a domain as the signed numerator a_d. -/
def Env.ratioAdj (e : Env) (k : Nat) : Int := (e.dom k).adj

/-! ## Stamps (R295) -/

/-- First lane of a network port. -/
def firstLane (n : Nat) : Nat := n

/-- The receive stamp of port n now, in 2^-16 ns: LT less QTZ_LANE_CORR.rx, 80 bits. -/
def rxStamp (e : Env) (n : Nat) : Nat :=
  ((e.ltStamp - toSigned 32 (e.reg (0xB00400 + 8 * firstLane n)) : Int) % 2 ^ 80).toNat

/-- Start-of-frame out of port n now, in 2^-16 ns: LT plus QTZ_LANE_CORR.tx, 80 bits. -/
def txStamp (e : Env) (n : Nat) : Nat :=
  ((e.ltStamp + toSigned 32 (e.reg (0xB00404 + 8 * firstLane n)) : Int) % 2 ^ 80).toNat

/-! ## TOUT (R306, R307) -/

/-- TOUT n's register r. -/
def toutReg (n r : Nat) : Nat := 0xB00800 + 0x20 * n + r
/-- Start of TOUT n in domain ns. -/
def toutStart (e : Env) (n : Nat) : Nat :=
  timeNs (e.reg (toutReg n 4)) (e.reg (toutReg n 8)) (e.reg (toutReg n 0xC))
/-- Period of TOUT n: below 16 acts as 16. -/
def toutPeriod (e : Env) (n : Nat) : Nat := max 16 (e.reg (toutReg n 0x10))
/-- Width of TOUT n, limited to 4 .. period - 4. -/
def toutWidth (e : Env) (n : Nat) : Nat := clamp 4 (toutPeriod e n - 4) (e.reg (toutReg n 0x14))
/-- Domain of TOUT n. -/
def toutDom (e : Env) (n : Nat) : Nat := e.f (toutReg n 0) 25 24
/-- TOUT n is periodic. -/
def toutPeriodic (e : Env) (n : Nat) : Bool := e.b (toutReg n 0) 30
/-- Active level of TOUT n. -/
def toutActive (e : Env) (n : Nat) : Bool := !(e.b (toutReg n 0) 29)

/-- TOUT n. -/
def Dev.tout (d : Dev) (n : Nat) : ToutSt := tget {} d.qtz.tout n
/-- TOUT n replaced. -/
def Dev.setTout (d : Dev) (n : Nat) (t : ToutSt) : Dev := { d with qtz := { d.qtz with tout := tput d.qtz.tout n t } }

/-- TOUT n takes the next edge at or after the domain's present time: at enable, at a set or step, and at a write while it is
enabled (R307). A once-mode start that has passed gives no pulse, and raises tout_missed if `tell`. -/
def toutAim (e : Env) (n : Nat) (tell : Bool) (d : Dev) : Dev :=
  let t := d.tout n
  let start := toutStart e n
  let now := e.domN (toutDom e n)
  if toutPeriodic e n then
    let k := if now ≤ start * 65536 then 0 else ceilDiv (now - start * 65536) (toutPeriod e n * 65536)
    d.setTout n { t with running := true, k := k }
  else if now ≤ start * 65536 then d.setTout n { t with running := true, k := 0 }
  else
    let d := d.setTout n { t with running := false, k := 0 }
    if tell then raiseEv e 133 3 d else d

/-- Every enabled output of a domain that was set or stepped takes its next edge (R307); a once-mode pulse still to come that
the domain has gone past is missed. -/
def toutDomMoved (e : Env) (k : Nat) (d : Dev) : Dev :=
  (List.range 8).foldl (fun d n =>
    if e.b (toutReg n 0) 31 && toutDom e n == k then toutAim e n (d.tout n).running d else d) d

/-- A write of a register of TOUT n landed (R307): enabling aims the output, disabling drives the inactive level; a write
while enabled that changes where its edges fall takes effect for the next edge. `e0` is the environment before. -/
def toutLanded (e0 e : Env) (n : Nat) (d : Dev) : Dev :=
  if !(e.b (toutReg n 0) 31) then d.setTout n { running := false, k := 0, level := !(toutActive e n), pulseEnd := none }
  else if !(e0.b (toutReg n 0) 31) then toutAim e n true (d.setTout n { d.tout n with level := !(toutActive e n) })
  else if toutStart e0 n ≠ toutStart e n ∨ toutPeriod e0 n ≠ toutPeriod e n ∨ toutDom e0 n ≠ toutDom e n ∨
      toutPeriodic e0 n ≠ toutPeriodic e n then toutAim e n false d
  else d

/-- An active edge of TOUT n (R306): due once the domain has reached start + k × period. -/
def toutEdgeOp (e : Env) (n : Nat) (d : Dev) : Dev :=
  let t := d.tout n
  if !(e.b (toutReg n 0) 31 && t.running) then d
  else if e.domN (toutDom e n) < (toutStart e n + t.k * toutPeriod e n) * 65536 then d
  else d.setTout n { running := toutPeriodic e n, k := t.k + 1, level := toutActive e n,
                     pulseEnd := some (e.ltNs + toutWidth e n) }

/-- The pulse of TOUT n has lasted its width (R306). -/
def toutPulseEndOp (e : Env) (n : Nat) (d : Dev) : Dev :=
  let t := d.tout n
  match t.pulseEnd with
  | some x => if x ≤ e.ltNs then d.setTout n { t with level := !(toutActive e n), pulseEnd := none } else d
  | none => d

/-! ## Domain operations -/

/-- V of domain k, 96 bits. -/
def domVal (e : Env) (k : Nat) : Nat :=
  let y := 0xB00100 + 0x40 * k
  e.reg (y + 8) + e.reg (y + 0xC) * 2 ^ 32 + e.reg (y + 0x10) * 2 ^ 64

/-- This device is a twin standby that steers its domains (R376). -/
def disciplining (e : Env) (d : Dev) : Bool :=
  e.b 0x1100000 31 && e.b 0x1100000 29 && e.b 0x1100004 0 && d.twin.state != 4

/-- A pending operation of domain k whose apply time has come (R293). -/
def domOpApply (k : Nat) (s : State) : State :=
  match (s.env.dom k).pend with
  | some o =>
    if o.atNs ≤ s.env.ltNs then
      let e' := s.env.setDom k ((s.env.dom k).now s.env.lt3)
      { s with env := e', dev := if o.op = 3 then s.dev else toutDomMoved e' k s.dev }
    else s
  | none => s

/-- A write of QTZ_D_CMD lands (R292, R293, R376), behind a pending operation whose time has come. A cancel is never refused,
on a disciplining standby either (R292, R293 against R376: DEDUCED, assumption 104). -/
def domCmd (k op : Nat) (s0 : State) : State :=
  let s := domOpApply k s0
  let e := s.env
  let y := 0xB00100 + 0x40 * k
  let m := (e.dom k).now e.lt3
  if op = 0 then
    { s with env := e.setDom k { m with slewRem := 0, slewing := false, pend := none } }
  else if disciplining e s.dev then { s with dev := raiseEv e 133 1 s.dev }
  else
    let v : Int := if op = 1 then domVal e k else toSigned 96 (domVal e k)
    if m.pend.isSome || (op == 3 && decide (65536 * 1000000000 < v.natAbs)) then
      { s with env := e.setDom k m, dev := raiseEv e 133 1 s.dev }
    else
      let at_ := e.reg (y + 0x14) * 2 ^ 32 + e.reg (y + 0x18)
      let o : DomOp := { op := op, val := v, atNs := at_, rate := max 1 (e.reg (y + 0x1C)) }
      if e.ltNs < at_ then { s with env := e.setDom k { m with pend := some o } }
      else
        let e' := e.setDom k (m.apply o)
        let d := if at_ = 0 ∨ at_ = e.ltNs then s.dev else raiseEv e 133 2 s.dev
        { s with env := e', dev := if op = 3 then d else toutDomMoved e' k d }

/-- A change of a_d takes effect (R290, R293), behind a pending operation whose time has come: the count does not jump, a slew
keeps running. -/
def domRatio (k : Nat) (adj : Nat) (s0 : State) : State :=
  let s := domOpApply k s0
  { s with env := s.env.setDom k { (s.env.dom k).now s.env.lt3 with adj := toSigned 40 adj } }

/-- A slew of domain k has added all of V (R292). -/
def slewEndOp (k : Nat) (e : Env) : Env :=
  let m := (e.dom k).now e.lt3
  if m.slewing && decide (m.slewRem = 0) then e.setDom k { m with slewing := false } else e

/-! ## Captures and inputs -/

/-- LT and all four domains copied at one instant (R288). -/
def ltCaptureOp (e : Env) (d : Dev) : Dev :=
  { d with qtz := { d.qtz with
      capLt := e.ltStamp % 2 ^ 80
      capD := (List.range 4).foldl (fun t k => tset 0 t k (e.domN k)) d.qtz.capD } }

/-- An edge of TIN n now, after which the level holds for `held` nanoseconds: it counts when that is the filter time or more
(R308, R309). -/
def tinEdgeOp (e : Env) (n : Nat) (rising : Bool) (held : Nat) (d : Dev) : Dev :=
  let r := 0xB00A00 + 0x20 * n
  let edges := e.f r 30 29
  let wanted := if edges = 3 then true else if edges = 2 then !rising else rising
  let q := tget [] d.qtz.tin n
  if !(e.b r 31) || !wanted || decide (held < e.f r 7 0) then d
  else if 16 ≤ q.length then raiseEv e 133 4 d
  else { d with qtz := { d.qtz with
      tin := tset [] d.qtz.tin n (q ++ [2 * (e.ltStamp % 2 ^ 80) + (flagAt rising 0)]) } }

/-- The head of TIN n's FIFO removed (R308). -/
def tinPopOp (n : Nat) (d : Dev) : Dev :=
  { d with qtz := { d.qtz with tin := tset [] d.qtz.tin n (tget [] d.qtz.tin n).tail } }

/-- An edge of PPS_IN (R310). -/
def ppsEdgeOp (e : Env) (falling : Bool) (d : Dev) : Dev :=
  if e.b 0xB00B00 31 && e.b 0xB00B00 30 == falling then
    { d with qtz := { d.qtz with ppsLast := e.ltStamp % 2 ^ 80, ppsCount := (d.qtz.ppsCount + 1) % 2 ^ 32 } }
  else d

/-! ## Meanings -/

/-- QTZ_REF_LOSS: TREF is lost while the PLL is locked (R287). -/
def execQtzRefLoss (s : State) : Host.Outcome State Fault Refusal :=
  .next (if s.dev.pwr.locked then
    { s with dev := raiseEv s.env 133 0 { s.dev with pwr := { s.dev.pwr with locked := false } } } else s)

/-- DOMAIN_OP_APPLY. -/
def execDomainOpApply (k : Fin 4) (s : State) : Host.Outcome State Fault Refusal :=
  .next (domOpApply k.val s)

/-- SLEW_END. -/
def execSlewEnd (k : Fin 4) (s : State) : Host.Outcome State Fault Refusal :=
  .next { s with env := slewEndOp k.val s.env }

/-- TOUT_EDGE. -/
def execToutEdge (n : Fin 8) (s : State) : Host.Outcome State Fault Refusal :=
  .next { s with dev := toutEdgeOp s.env n.val s.dev }

/-- TOUT_PULSE_END. -/
def execToutPulseEnd (n : Fin 8) (s : State) : Host.Outcome State Fault Refusal :=
  .next { s with dev := toutPulseEndOp s.env n.val s.dev }

/-- TIN_EDGE. -/
def execTinEdge (n : Fin 4) (edge : TinEdge) (s : State) : Host.Outcome State Fault Refusal :=
  .next { s with dev := tinEdgeOp s.env n.val edge.rising edge.held s.dev }

/-- PPS_IN_EDGE. -/
def execPpsInEdge (falling : Bool) (s : State) : Host.Outcome State Fault Refusal :=
  .next { s with dev := ppsEdgeOp s.env falling s.dev }

end Sys2Proof.Machine
end

