-- ==== Sys2Proof/Machine/Gutter.lean ====
section
/-! DEFINITION. The metadata block's fields (R73), what a frame or copy shows of itself to a Gutter record,
and the making of Gutter records (R315-R319, R323). -/
namespace Sys2Proof.Machine

/-! ## Metadata block (R73) -/

/-- Bits hi..lo of word k of a metadata block. -/
def mdGet (md : BitVec 512) (k hi lo : Nat) : Nat := bits md.toNat ((15 - k) * 32 + hi) ((15 - k) * 32 + lo)
/-- Bits hi..lo of word k set to v. -/
def mdSet (md : BitVec 512) (k hi lo v : Nat) : BitVec 512 :=
  BitVec.ofNat 512 (setBits md.toNat ((15 - k) * 32 + hi) ((15 - k) * 32 + lo) v)
/-- The metadata block as its 64 bytes, byte 0 first. -/
def mdBytes (md : BitVec 512) : List Byte := natBE 64 md.toNat
/-- A metadata block from 64 bytes. -/
def mdOfBytes (l : List Byte) : BitVec 512 := BitVec.ofNat 512 (beNat (fitLen 64 l))

/-- md.ver -/
def Frame.ver (f : Frame) : Nat := mdGet f.md 0 23 20
/-- md.queue -/
def Frame.queue (f : Frame) : Nat := mdGet f.md 0 19 16
/-- md.class -/
def Frame.cls (f : Frame) : Nat := mdGet f.md 0 15 13
/-- md.len -/
def Frame.len (f : Frame) : Nat := mdGet f.md 1 31 16
/-- md.drop_reason -/
def Frame.dropReason (f : Frame) : Nat := mdGet f.md 1 15 0
/-- md.dst.kind -/
def Frame.dstKind (f : Frame) : Nat := mdGet f.md 2 31 28
/-- md.dst.value -/
def Frame.dstVal (f : Frame) : Nat := mdGet f.md 2 27 0
/-- md.flags.bedrock -/
def Frame.bedrock (f : Frame) : Bool := mdGet f.md 8 27 27 == 1
/-- md.flags.pass -/
def Frame.pass (f : Frame) : Nat := mdGet f.md 8 26 24
/-- md.flags.from_host -/
def Frame.fromHost (f : Frame) : Bool := mdGet f.md 8 23 23 == 1
/-- md.flags.echo -/
def Frame.echo (f : Frame) : Bool := mdGet f.md 8 22 22 == 1
/-- Class group: 1 Bedrock, 0 other (R75). -/
def Frame.cg (f : Frame) : Nat := if f.bedrock then 1 else 0
/-- The receive stamp of md.ts: 64 bits of 2^-16 ns (R73). -/
def Frame.ts (f : Frame) : Nat := mdGet f.md 6 31 0 * 2 ^ 32 + mdGet f.md 7 31 0
/-- Frame context of performance samples (R340). -/
def Frame.ctx (f : Frame) : FrCtx := some (f.inPort, f.ver, f.queue)

/-- Bytes of a frame that have arrived: all once received, else those the port's rate has carried since the
start of frame. -/
def Frame.arrived (e : Env) (f : Frame) : Nat :=
  if f.rxDone then f.bytes.length else min f.bytes.length ((e.third - f.startAt) * f.rate / 24000000)

/-! ## Copies in egress queues -/

/-- Word i of a copy's descriptor. -/
def Asm.d (a : Asm) (i : Nat) : Nat := (a.desc.getD []).getD i 0
/-- Length of a frame at its output block: exact once the final shingle is there, else d1.len (R205). -/
def Asm.len (a : Asm) : Nat := match a.fin with
  | some (_, n) => n
  | none => bits (a.d 1) 31 16
/-- Ingress stamp of a copy: d4 and d5 (R205). -/
def Asm.ts (a : Asm) : Nat := a.d 4 * 2 ^ 32 + a.d 5
/-- Copies of the frame are echoed to the host (R303); a mirror copy of it is none of them (assumption 38). -/
def Asm.echo (a : Asm) : Bool := bit (a.d 7) 29 && bits (a.d 0) 2 0 != 3
/-- The first 256 bytes of a frame at its output block; those of shingles yet to arrive are zero (R318). -/
def Asm.snap (a : Asm) : List Byte :=
  ((List.range 256).zip a.bytes).map (fun x => if a.got.contains ((x.1 + 32) / 64) then x.2 else 0)
/-- Ingress port of a copy. -/
def Asm.inPort (a : Asm) : Nat := bits (a.d 2) 23 17
/-- Frame context of performance samples. -/
def Asm.ctx (a : Asm) (q : Nat) : FrCtx := some (a.inPort, a.ver, q)

/-- Copies of queue q of port n, head first. -/
def Dev.queue (d : Dev) (n q : Nat) : List Nat := tget [] (d.port n).queues q
/-- The frame a copy belongs to. -/
def Dev.copyAsm (d : Dev) (c : Nat) : Asm := d.asm (d.copy c).asm
/-- Bytes of all copies in a queue, on chip and in Loft (R269). -/
def qBytes (d : Dev) (n q : Nat) : Nat := (d.queue n q).foldl (fun a c => a + (d.copyAsm c).len) 0

/-! ## Records -/

/-- What a record says of a frame or copy (R318). -/
structure RecInfo where
  ver : Nat := 0
  queue : Nat := 0
  inPort : Nat := 127
  outPort : Nat := 127
  len : Nat := 0
  hash : Nat := 0
  /-- bytes for the snap, and the tile they are read from: block and tile -/
  snap : List Byte := []
  tile : Option (Nat × Nat) := none
deriving DecidableEq, Repr

/-- What a record says of a frame in its input block. -/
def Frame.recInfo (e : Env) (f : Frame) : RecInfo :=
  { ver := f.ver, inPort := f.inPort, len := f.len, hash := mdGet f.md 10 31 0,
    snap := f.bytes.take (min 256 (f.arrived e)), tile := f.tiles.head?.map (fun t => (f.blk, t)) }

/-- What a record says of a copy in queue q of port n. -/
def Asm.recInfo (a : Asm) (n q : Nat) : RecInfo :=
  { ver := a.ver, queue := q, inPort := a.inPort, outPort := n, len := a.len, hash := a.d 6,
    snap := a.snap, tile := a.tiles.head?.map (fun t => (a.out, t)) }

/-- Snap bytes of a snap code. -/
def snapLen (code : Nat) : Nat := [0, 64, 128, 256].getD code 0

/-- Bytes in the staging buffer. -/
def stagedBytes (d : Dev) : Nat := d.gut.staging.foldl (fun a r => a + r.bytes.length) 0

/-- A record offered to the Gutter writer (R317-R319); `ts` is the record's instant in 2^-16 ns. -/
def gutRecord (e : Env) (source snap reason ts depth extra : Nat) (r : RecInfo) (d : Dev) : Dev :=
  if !(e.b 0xC00000 31) then d else
    let w0 := source * 2 ^ 28 + snap * 2 ^ 26 + r.ver * 2 ^ 22 + r.queue * 2 ^ 18 + reason % 2 ^ 16
    let w1 := r.inPort * 2 ^ 25 + r.outPort * 2 ^ 18 + r.len % 2 ^ 14
    let w2 := (ts / 65536) % 2 ^ 32
    let w3 := ts / 65536 / 2 ^ 32 % 2 ^ 16 * 65536 + ts % 65536
    let b := natLE 4 w0 ++ natLE 4 w1 ++ natLE 4 w2 ++ natLE 4 w3 ++ natLE 4 r.hash ++
      natLE 4 (min depth 0xFFFFFFFF) ++ natLE 4 extra ++ zeros 4 ++ fitLen (snapLen snap) r.snap
    if 65536 < stagedBytes d + b.length then bumpDev e 13 1 none d
    else { d with gut := { d.gut with staging := d.gut.staging ++
            [{ bytes := b, tile := if snap = 0 then none else r.tile }] } }

/-- The record of a frame its port's sampler chose (R319, R322). -/
def sampleRecord (e : Env) (f : Frame) (d : Dev) : Dev :=
  match f.sampled with
  | none => d
  | some n =>
    let r := f.recInfo e
    let r := if f.dstKind = 1 ∧ f.dstVal < 96 then { r with outPort := f.dstVal, queue := f.queue } else r
    let depth := if r.outPort < 96 then qBytes d r.outPort r.queue else 0
    gutRecord e 1 (e.f (0xC01000 + 8 * f.inPort) 29 28) (if f.dstKind = 6 then f.dropReason else 0) f.ts depth n r d

/-- The bit of GUT_DROP_CFG.mask that covers a drop code (R323). -/
def dropClass (code : Nat) : Nat := if code < 0x8000 then 0 else code / 256 - 0x80

/-- A drop offered to Gutter drop capture (R323). -/
def dropCapture (e : Env) (code blk : Nat) (r : RecInfo) (d : Dev) : Dev :=
  let cfg := e.reg 0xC00020
  if !(e.b 0xC00000 31) || !(bit cfg 31) || 6 < dropClass code || !(bit cfg (16 + dropClass code)) then d
  else
    let n := max 1 (e.f 0xC00024 23 0)
    if d.gut.dropN + 1 < n then { d with gut := { d.gut with dropN := d.gut.dropN + 1 } }
    else
      gutRecord e 2 (bits cfg 30 29) code e.ltStamp (if r.outPort < 96 then qBytes d r.outPort r.queue else 0)
        blk r { d with gut := { d.gut with dropN := 0 } }

end Sys2Proof.Machine
end

