-- ==== Sys2Proof/Machine/Headers.lean ====
section
/-! DEFINITION. Network and transport headers in a frame's bytes: what R61, R126-R127, R217, R236 and
R299-R302 read and write of them. -/
namespace Sys2Proof.Machine

/-- The 16-bit number at `off` in network order. -/
def be16 (l : List Byte) (off : Nat) : Nat := beAt l off 2
/-- `l` with the 16-bit number at `off` replaced. -/
def put16 (l : List Byte) (off v : Nat) : List Byte := splice l off (natBE 2 v)

/-- IP version nibble at `off`. -/
def ipVer (l : List Byte) (off : Nat) : Nat := beAt l off 1 / 16

/-- IPv6 next headers that are extension headers. -/
def isExt (nh : Nat) : Bool := [0, 43, 44, 51, 60].contains nh

/-- Length of the IPv6 extension header of kind nh at `off`. -/
def extLen (l : List Byte) (nh off : Nat) : Nat :=
  if nh = 44 then 8 else if nh = 51 then (beAt l (off + 1) 1 + 2) * 4 else (beAt l (off + 1) 1 + 1) * 8

/-- The last next-header value of an IPv6 chain and the offset behind it. -/
def walkExt (l : List Byte) : Nat → Nat → Nat → Nat × Nat
  | 0, nh, off => (nh, off)
  | fuel + 1, nh, off => if isExt nh then walkExt l fuel (beAt l off 1) (off + extLen l nh off) else (nh, off)

/-- Upper-layer protocol of the IP header at `off`, and where the upper layer begins. The header's family is that of its
version nibble (R127 does not say how it is told: DESIGN CHOICE, assumption 99). -/
def ipUpper (l : List Byte) (off : Nat) : Nat × Nat :=
  if ipVer l off = 4 then (beAt l (off + 9) 1, off + beAt l off 1 % 16 * 4)
  else if ipVer l off = 6 then walkExt l 32 (beAt l (off + 6) 1) (off + 40)
  else (255, off)

/-- Offset of the checksum in an L4 header of a protocol the device keeps checksums of (R127). -/
def l4CsumOff (proto : Nat) : Option Nat :=
  if proto = 6 then some 16 else if proto = 17 then some 6 else if proto = 1 then some 2
  else if proto = 58 then some 2 else none

/-- Upper-layer length the IP header at `off` gives. -/
def ipUpperLen (l : List Byte) (off : Nat) : Nat :=
  if ipVer l off = 4 then be16 l (off + 2) - beAt l off 1 % 16 * 4
  else be16 l (off + 4) - ((ipUpper l off).2 - (off + 40))

/-- Pseudo-header bytes for protocol `proto` of the IP header at `off`; none for ICMP. -/
def pseudoHdr (l : List Byte) (off proto : Nat) : List Byte :=
  if proto = 1 then []
  else if ipVer l off = 4 then slice l (off + 12) 8 ++ natBE 2 proto ++ natBE 2 (ipUpperLen l off)
  else slice l (off + 8) 32 ++ natBE 4 (ipUpperLen l off) ++ natBE 4 proto

/-- IPv4 header checksum recomputed at `off` (R127 step 2): nothing changes when IHL is below 5 or the
header runs past `limit`. -/
def fixIp4 (l : List Byte) (off limit : Nat) : List Byte :=
  let hl := beAt l off 1 % 16 * 4
  if hl < 20 ∨ limit < off + hl then l
  else
    let z := put16 l (off + 10) 0
    put16 z (off + 10) (65535 - onesSum (slice z off hl) 0)

/-- L4 checksum computed in full (R126): the header at l4, of the kind the network header at l3 names. The
bytes are a frame without its FCS. -/
def fixL4 (l : List Byte) (l3 l4 : Nat) : List Byte :=
  let proto := (ipUpper l l3).1
  match l4CsumOff proto with
  | none => l
  | some o =>
    let z := put16 l (l4 + o) 0
    let s := onesSum (pseudoHdr z l3 proto ++ slice z l4 (ipUpperLen z l3)) 0
    let c := 65535 - s
    put16 z (l4 + o) (if proto = 17 && c == 0 then 65535 else c)

/-- RFC 1624 update of the checksum at `off` for bytes whose one's complement sum was `old` and is `new`. -/
def csumUpdate (l : List Byte) (off old new : Nat) : List Byte :=
  let c := be16 l off
  put16 l off (65535 - ocAdd (65535 - c) (ocAdd (65535 - old) new))

/-- The frame begins with a VLAN tag (R71, R217). -/
def tagged (l : List Byte) : Bool := be16 l 12 == 0x8100 || be16 l 12 == 0x88A8

/-- The edit of R217 applied to a frame without its FCS: pop, push, VID and PCP, source address. -/
def applyEdit (w0 w1 w2 : Nat) (l : List Byte) : List Byte :=
  let l := if bit w0 31 && tagged l then l.take 12 ++ l.drop 16 else l
  let l := if bit w0 30 then
      l.take 12 ++ natBE 2 (bits w1 31 16) ++ natBE 2 (bits w0 15 13 * 8192 + bits w0 11 0) ++ l.drop 12 else l
  let l := if bit w0 29 && tagged l then put16 l 14 (be16 l 14 / 4096 * 4096 + bits w0 11 0) else l
  let l := if bit w0 28 && tagged l then put16 l 14 (bits w0 15 13 * 8192 + be16 l 14 % 8192) else l
  if bit w0 27 then splice l 6 (natBE 2 (bits w1 15 0) ++ natBE 4 w2) else l

/-- Change of a frame's length by an edit (R217). -/
def editDelta (w0 : Nat) (l : List Byte) : Int :=
  (if bit w0 31 && tagged l then -4 else 0) + (if bit w0 30 then 4 else 0)

end Sys2Proof.Machine
end

