-- ==== Sys2Proof/Machine/Preparse.lean ====
section
/-! DEFINITION. The pre-parser (R70-R75): header index, flags, class, length and the metadata block of a frame at
its first dispatch. -/
namespace Sys2Proof.Machine

/-- What one walk over a frame's headers has found so far. -/
structure Parse where
  /-- header-index entries h0-h7 (R70) -/
  h : List Nat := [0, 0, 0, 0, 0, 0, 0, 0]
  malformed : Bool := false
  fragment : Bool := false
  unknown : Bool := false
  ptp : Bool := false
  options : Bool := false
  ttl : Bool := false
  /-- outer VLAN tags, 0-2 -/
  tags : Nat := 0
deriving DecidableEq, Repr

/-- A header of type t in role i at `off`: an entry is made when the header begins in the frame's first 256
bytes (R70). -/
def Parse.mark (p : Parse) (l : List Byte) (i t off : Nat) : Parse :=
  if off < 256 ∧ off < l.length then { p with h := p.h.set i (0x8000 + t * 512 + off) } else p

/-- The entry of role i is valid. -/
def Parse.has (p : Parse) (i : Nat) : Bool := bit (p.h.getD i 0) 15

/-- A VLAN tag's TPID stands at `off` (R71). -/
def tpidAt (l : List Byte) (off : Nat) : Bool := be16 l off == 0x8100 || be16 l off == 0x88A8

/-- Tags recognised behind the addresses at `off`: at most two (R71). -/
def tagCount (l : List Byte) (off : Nat) : Nat :=
  if tpidAt l off then (if tpidAt l (off + 4) then 2 else 1) else 0

/-- Type code of an Ethertype (R71). -/
def etherCode (et : Nat) : Nat :=
  if et = 0x0800 then 3 else if et = 0x86DD then 4 else if et = 0x8847 ∨ et = 0x8848 then 5 else if et = 0x0806 then 6
  else if et = 0x88F7 then 7 else if et = 0x88B8 then 8 else if et = 0x88BA then 9 else 10

/-- Type code of an IP protocol (R71). -/
def protoCode (p : Nat) : Nat :=
  if p = 6 then 16 else if p = 17 then 17 else if p = 1 then 18 else if p = 58 then 19 else if p = 132 then 20 else 21

/-- What an IP header gives: protocol, where the upper layer begins, and whether it is a fragment other than the
first; none when no upper layer can be found. -/
abbrev IpNext := Option (Nat × Nat × Bool)

/-- An IPv4 header at `off`, each flag by its own condition (R72); `whole`: the frame was received whole. Behind a header of
another version or too short no upper layer is looked for (assumption 98). -/
def parseIp4 (l : List Byte) (whole outer : Bool) (off : Nat) (p : Parse) : Parse × IpNext :=
  let ihl := beAt l off 1 % 16
  let fo := be16 l (off + 6)
  let bad := ipVer l off != 4 || decide (ihl < 5)
  ({ p with
      malformed := p.malformed || bad || (whole && decide (l.length < off + be16 l (off + 2)))
      fragment := p.fragment || decide (fo % 0x4000 ≠ 0)
      options := p.options || decide (5 < ihl)
      ttl := p.ttl || (outer && decide (beAt l (off + 8) 1 ≤ 1)) },
   if bad then none else some (beAt l (off + 9) 1, off + 4 * ihl, decide (fo % 0x2000 ≠ 0)))

/-- An IPv6 extension chain (R72): fuel, next header, offset, later fragment. Behind next header 59, which says that nothing
follows, no upper layer is looked for (assumption 98). -/
def parseExt (l : List Byte) : Nat → Nat → Nat → Bool → Parse → Parse × IpNext
  | 0, _, _, _, p => ({ p with malformed := true }, none)
  | fuel + 1, nh, off, later, p =>
    if !isExt nh then
      if 256 < off then ({ p with malformed := true }, none)
      else (p, if nh = 59 then none else some (nh, off, later))
    else if 256 ≤ off then ({ p with malformed := true }, none)
    else
      let p := { p with options := true, fragment := p.fragment || nh == 44 }
      let later := if nh = 44 then decide (be16 l (off + 2) / 8 ≠ 0) else later
      parseExt l fuel (beAt l off 1) (off + extLen l nh off) later p

/-- An IPv6 header at `off`, each flag by its own condition (R72). -/
def parseIp6 (l : List Byte) (whole outer : Bool) (off : Nat) (p : Parse) : Parse × IpNext :=
  let bad := ipVer l off != 6
  let p := { p with
    malformed := p.malformed || bad || (whole && decide (l.length < off + 40 + be16 l (off + 4)))
    ttl := p.ttl || (outer && decide (beAt l (off + 7) 1 ≤ 1)) }
  let r := parseExt l 64 (beAt l (off + 6) 1) (off + 40) false p
  (r.1, if bad then none else r.2)

/-- A network header of Ethertype `et` at `off` into role i. -/
def parseNet (l : List Byte) (whole outer : Bool) (et off i : Nat) (p : Parse) : Parse × IpNext :=
  let p := p.mark l i (etherCode et) off
  let p := if outer && et == 0x88F7 then { p with ptp := p.ptp || p.has i } else p
  if !(p.has i) then (p, none)
  else if et = 0x0800 then parseIp4 l whole outer off p
  else if et = 0x86DD then parseIp6 l whole outer off p
  else (p, none)

/-- An inner transport header into h7 (R70, R71): nothing is looked for behind it, and an inner protocol 4, 41 or 47 sets no
unknown_tunnel (R72, assumption 98). -/
def parseInnerL4 (l : List Byte) (nx : IpNext) (p : Parse) : Parse :=
  match nx with
  | some (proto, off, false) =>
    let p := p.mark l 7 (protoCode proto) off
    if proto = 6 && p.has 7 && decide (beAt l (off + 12) 1 / 16 < 5) then { p with malformed := true } else p
  | _ => p

/-- An inner network-layer header, IPv4 or IPv6, into h6 and what it carries into h7 (R70, R71). -/
def parseInnerNet (l : List Byte) (whole : Bool) (et off : Nat) (p : Parse) : Parse :=
  if et = 0x0800 ∨ et = 0x86DD then
    let r := parseNet l whole false et off 6 p
    parseInnerL4 l r.2 r.1
  else p

/-- What a tunnel carries: an Ethernet frame for 0x6558, else the network header of the Ethertype (R71). -/
def parseInner (l : List Byte) (whole : Bool) (et off : Nat) (p : Parse) : Parse :=
  if et = 0x6558 then
    let p := p.mark l 5 1 off
    if !(p.has 5) then p else
      let a := off + 12 + 4 * tagCount l (off + 12)
      let p := if tpidAt l a then { p with malformed := true } else p
      parseInnerNet l whole (be16 l a) (a + 2) p
  else parseInnerNet l whole et off p

/-- GRE behind the outer network header (R71, R72); optional words as in RFC 2784 and RFC 2890. -/
def parseGre (l : List Byte) (whole : Bool) (off : Nat) (p : Parse) : Parse :=
  let fl := be16 l off
  let pt := be16 l (off + 2)
  if fl % 8 ≠ 0 ∨ !([0x0800, 0x86DD, 0x6558].contains pt) then { p.mark l 3 21 off with unknown := true }
  else
    let p := p.mark l 4 26 off
    if !(p.has 4) then p else
      parseInner l whole pt (off + 4 + (if bit fl 15 then 4 else 0) + (if bit fl 13 then 4 else 0) +
        (if bit fl 12 then 4 else 0)) p

/-- The outer transport header into h3, and a tunnel behind UDP into h4-h7 (R71, R72). -/
def parseL4 (l : List Byte) (whole : Bool) (nx : IpNext) (p : Parse) : Parse :=
  match nx with
  | none => p
  | some (proto, off, later) =>
    let p := if proto = 4 ∨ proto = 41 then { p with unknown := true } else p
    if later then p
    else if proto = 47 then parseGre l whole off p
    else
      let p := p.mark l 3 (protoCode proto) off
      if !(p.has 3) then p
      else if proto = 6 then (if beAt l (off + 12) 1 / 16 < 5 then { p with malformed := true } else p)
      else if proto = 17 then
        let dp := be16 l (off + 2)
        if dp = 319 ∨ dp = 320 then { p with ptp := true }
        else if dp = 4789 then
          let p := p.mark l 4 24 (off + 8)
          if p.has 4 then parseInner l whole 0x6558 (off + 16) p else p
        else if dp = 6081 then
          let p := p.mark l 4 25 (off + 8)
          let ol := beAt l (off + 8) 1 % 64 * 4
          if !(p.has 4) then p
          else if 64 < ol then { p with unknown := true }
          else parseInner l whole (be16 l (off + 10)) (off + 16 + ol) p
        else p
      else p

/-- The walk over a frame's bytes, FCS left out. -/
def parse (l : List Byte) (whole : Bool) : Parse :=
  let n := tagCount l 12
  let a := 12 + 4 * n
  let p : Parse := { tags := n, malformed := tpidAt l a }
  let p := (p.mark l 0 1 0).mark l 1 2 a
  let r := parseNet l whole true (be16 l a) (a + 2) 2 p
  parseL4 l whole r.2 r.1

/-- The bytes of a frame without its FCS. -/
def body (l : List Byte) : List Byte := l.take (l.length - 4)

/-- md.class of a frame of local port lp of block b (R75). -/
def classOf (e : Env) (b lp : Nat) (l : List Byte) : Nat :=
  let cfg := e.reg (fltReg b (0x100 + 4 * lp))
  let src := bits cfg 15 14
  let dflt := bits cfg 18 16
  let n := tagCount l 12
  let a := 12 + 4 * n
  let et := be16 l a
  let dscp : Option Nat :=
    if et = 0x0800 then some (beAt l (a + 3) 1 / 32) else if et = 0x86DD then some (be16 l (a + 2) / 16 % 256 / 32) else none
  let pcp := if n = 0 then dflt else beAt l 14 1 / 32
  if src = 2 then dflt else if src = 1 then dscp.getD pcp else pcp

/-- The frame is a Bedrock frame of its port (R75). -/
def bedrockOf (e : Env) (b lp cls : Nat) (crit : Bool) : Bool :=
  crit && decide (lp < 6) && bit (e.reg (fltReg b (0x100 + 4 * lp))) (24 + cls)

/-- md.len of a frame that is not whole (R74): from its outer IP header, else none. -/
def lenEstimate (p : Parse) (l : List Byte) : Option Nat :=
  let h2 := p.h.getD 2 0
  let o := h2 % 512
  if !(bit h2 15) then none
  else if bits h2 14 9 = 3 then some (o + be16 l (o + 2) + 4)
  else if bits h2 14 9 = 4 then some (o + 40 + be16 l (o + 4) + 4)
  else none

/-- The header index alone, as every pass finds it anew (R68). -/
def Frame.reindex (f : Frame) : Frame :=
  { f with hidx := (parse (body f.bytes) f.rxDone).h.map (BitVec.ofNat 16) }

/-- Header index and md of a frame at its first dispatch (R70-R75). md.in_port, md.ts, the host's flags and
md.ver stand there already. -/
def preParse (e : Env) (f : Frame) : Frame :=
  let l := body f.bytes
  let p := parse l f.rxDone
  let cls := classOf e f.blk f.lp l
  let len := if f.rxDone then f.bytes.length else
    (lenEstimate p l).getD (if f.inPort < 96 then clamp 1518 9216 (e.f (pbReg f.inPort 0x10) 13 0) else 9216)
  let og := bits (e.reg (fltReg f.blk (0x120 + 4 * f.lp))) (4 * cls + 3) (4 * cls)
  let md := mdSet f.md 0 15 13 cls
  let md := mdSet md 0 10 7 og
  let md := mdSet md 1 31 16 len
  let fl := flagAt p.fragment 31 + flagAt p.malformed 30 + flagAt p.unknown 29 +
    flagAt (bedrockOf e f.blk f.lp cls f.crit) 27 + mdGet f.md 8 23 22 * 2 ^ 22 + flagAt p.ptp 21 +
    flagAt (decide (beAt l 0 1 % 2 = 1)) 20 + flagAt (decide (beAt l 0 6 = 0xFFFFFFFFFFFF)) 19 + p.tags * 2 ^ 17 +
    flagAt p.options 16 + flagAt p.ttl 15 + flagAt (!f.rxDone) 14
  let md := mdSet md 8 31 0 fl
  let md := mdSet md 9 31 20 (if p.tags = 0 then 0 else be16 l 14 % 4096)
  { f with md := md, hidx := p.h.map (BitVec.ofNat 16) }

end Sys2Proof.Machine
end

