-- ==== Sys2Proof/Machine/Thatch.lean ====
section
/-! DEFINITION. Thatch (chapter 09): tiles, pools, warning levels, WRED, tile checksum failures. -/
namespace Sys2Proof.Machine

/-! ## The free store (R223) -/

/-- The lowest number from n that a rising list does not hold. -/
def lowestFree : List Nat → Nat → Nat
  | [], n => n
  | a :: r, n => if a = n then lowestFree r (n + 1) else if a < n then lowestFree r n else n

/-- A number put into a rising list. -/
def insertAsc : List Nat → Nat → List Nat
  | [], n => [n]
  | a :: r, n => if n < a then n :: a :: r else if a = n then a :: r else a :: insertAsc r n

/-- Tiles allocated in block b: the lowest free ones (R223), as many as there are. The map holds a quarantined tile as
allocated. -/
def allocTiles (e : Env) (b : Nat) : Nat → Dev → List Nat × Dev
  | 0, d => ([], d)
  | n + 1, d =>
    let t := lowestFree (d.blk b).alloc 0
    if 32768 ≤ t then ([], d) else
    let d := d.onBlk b (fun x => { x with alloc := insertAsc x.alloc t, touched := insertAsc x.touched t })
    let r := allocTiles e b n (cycAdd e b 11 1 d)
    (t :: r.1, r.2)

/-- A chain of block b that holds the tiles is changed: their touched bits are set (R244). -/
def touchTiles (b : Nat) (l : List Nat) (d : Dev) : Dev :=
  d.onBlk b (fun x => { x with touched := l.foldl insertAsc x.touched })

/-! ## Pools (R226-R233) -/

/-- The pools of block b whose THA_POOL_CFG is listed; every other pool has reserve 0. -/
def listedPools (e : Env) (b : Nat) : List Nat :=
  let k := thaReg b 0x400 / 4
  e.regs.vals.filterMap (fun kv =>
    if k ≤ kv.1 ∧ kv.1 < k + 256 ∧ (kv.1 - k) % 4 = 0 then some ((kv.1 - k) / 4) else none)

/-- Reserved minimum Rv. -/
def poolRv (e : Env) (b p : Nat) : Nat := e.f (thaReg b (0x400 + 0x10 * p)) 15 0
/-- Shared maximum Sm. -/
def poolSm (e : Env) (b p : Nat) : Nat := e.f (thaReg b (0x404 + 0x10 * p)) 31 16
/-- Hard limit H. -/
def poolH (e : Env) (b p : Nat) : Nat := e.f (thaReg b (0x404 + 0x10 * p)) 15 0
/-- W1; 0 is off. -/
def poolW1 (e : Env) (b p : Nat) : Nat := e.f (thaReg b (0x408 + 0x10 * p)) 15 0
/-- W2; 0 is off. -/
def poolW2 (e : Env) (b p : Nat) : Nat := e.f (thaReg b (0x408 + 0x10 * p)) 31 16

/-- Charge C as THA_POOL_STAT reports it. -/
def poolC (d : Dev) (b p : Nat) : Nat := tget 0 (d.blk b).charge p
/-- Slack tiles a middle pool has in use (R232). -/
def poolSlack (d : Dev) (b p : Nat) : Nat := tget 0 (d.blk b).slack p
/-- The charge the arithmetic of R228 takes: less the slack tiles. -/
def poolCe (d : Dev) (b p : Nat) : Nat := poolC d b p - poolSlack d b p

/-- 32,768 - Q - ΣRv - 80, which may be negative (R228, R229). -/
def sharedRaw (e : Env) (d : Dev) (b : Nat) : Int :=
  (32768 - (d.blk b).quar.length - 80 : Int) - (listedPools e b).foldl (fun a p => a + (poolRv e b p : Int)) 0

/-- Shared region S (R228, R229). -/
def sharedSize (e : Env) (d : Dev) (b : Nat) : Int := max 0 (sharedRaw e d b)

/-- Shared free count F_s (R228). -/
def sharedFree (e : Env) (d : Dev) (b : Nat) : Int :=
  sharedSize e d b - ((d.blk b).charge.foldl (fun a kv => a + ((poolCe d b kv.1 - poolRv e b kv.1 : Nat) : Int)) 0)

/-- The sum of all charges of block b, counted as in R228. -/
def chargeSum (d : Dev) (b : Nat) : Nat := (d.blk b).charge.foldl (fun a kv => a + poolCe d b kv.1) 0

/-- A request of n tiles by pool p is granted (R228, R229). One that stays within the pool's reserved minimum takes no
shared tile and is not refused for want of any, even where a later write or a quarantine has left F_s below zero
(assumption 94). -/
def poolGrants (e : Env) (d : Dev) (b p n : Nat) : Bool :=
  let c := poolCe d b p
  let rv := poolRv e b p
  decide (c + n ≤ poolH e b p) && decide (c + n - rv ≤ poolSm e b p) &&
  (if c + n ≤ rv ∨ (sharedRaw e d b < 0 ∧ c < rv) then
    decide (chargeSum d b + n ≤ 32768 - (d.blk b).quar.length - 80)
   else decide (((c + n - rv : Nat) : Int) - ((c - rv : Nat) : Int) ≤ sharedFree e d b))

/-- n tiles charged to pool p. -/
def chargePool (b p n : Nat) (d : Dev) : Dev :=
  d.onBlk b (fun x => { x with charge := tset 0 x.charge p (tget 0 x.charge p + n) })

/-- n tiles returned by pool p: a middle pool's slack is made whole first (R232). -/
def releasePool (b p n : Nat) (d : Dev) : Dev :=
  d.onBlk b (fun x => { x with
    charge := tset 0 x.charge p (tget 0 x.charge p - n)
    slack := tset 0 x.slack p (tget 0 x.slack p - n) })

/-- The overcommit state follows its cause; its beginning raises tha_overcommit (R229). -/
def ovcUpdate (e : Env) (b : Nat) (d : Dev) : Dev :=
  let now := decide (sharedRaw e d b < 0)
  let was := (d.blk b).overcommit
  if now == was then d else
    let d := d.onBlk b (fun x => { x with overcommit := now })
    if now then raiseEv e (112 + b) 2 d else d

/-- Middle pools of block b: Bedrock and other (R227). -/
def midPool (e : Env) (b cg : Nat) : Nat :=
  if cg = 1 then e.f (thaReg b 0) 21 16 else e.f (thaReg b 0) 29 24

/-- A tile for middle storage, charged to pool p: granted under R228, else from the slack of 40; none when the slack is
exhausted (R232). -/
def midTile (e : Env) (b p : Nat) (d : Dev) : Option Nat × Dev :=
  if 32768 ≤ lowestFree (d.blk b).alloc 0 then (none, d)
  else if poolGrants e d b p 1 then
    let r := allocTiles e b 1 (chargePool b p 1 d)
    (r.1.head?, r.2)
  else if poolSlack d b p < 40 then
    let d' := if poolSlack d b p = 0 then raiseEv e (112 + b) 3 d else d
    let d' := (chargePool b p 1 d').onBlk b (fun x => { x with slack := tset 0 x.slack p (tget 0 x.slack p + 1) })
    let r := allocTiles e b 1 d'
    (r.1.head?, r.2)
  else (none, d)

/-- Free tiles the middle pool of a class group can still take: under R228, and its slack apart (R207). -/
def midFree (e : Env) (d : Dev) (b cg : Nat) : Nat :=
  let p := midPool e b cg
  let c := poolCe d b p
  let rv := poolRv e b p
  let bySm := rv + poolSm e b p - c
  let byFs := (rv - c) + (max 0 (sharedFree e d b)).toNat
  min (poolH e b p - c) (min bySm byFs)

/-- Ingress pool of local port lp for a class (R227). -/
def inPool (e : Env) (b lp cls : Nat) : Nat :=
  bits (e.reg (thaReg b (0x800 + 8 * lp + 4 * (cls / 4)))) (6 * (cls % 4) + 5) (6 * (cls % 4))

/-- Output pool of queue q of port n (R227). -/
def outPool (e : Env) (n q : Nat) : Nat :=
  bits (e.reg (thaReg (blkOf n) (0x900 + 0x10 * lpOf n + 4 * (q / 4)))) (6 * (q % 4) + 5) (6 * (q % 4))

/-- The pool is at or above W1 (R233). -/
def aboveW1 (e : Env) (d : Dev) (b p : Nat) : Bool := poolW1 e b p != 0 && decide (poolW1 e b p ≤ poolC d b p)
/-- The pool is at or above W2 (R233). -/
def aboveW2 (e : Env) (d : Dev) (b p : Nat) : Bool := poolW2 e b p != 0 && decide (poolW2 e b p ≤ poolC d b p)

/-! ## Tile failures and freeing (R240-R242) -/

/-- A record of THA_CSUM_LOG: entry (n - 1) mod 16 for the n-th failure (R241). -/
def csumLog (e : Env) (point tile : Nat) (loft : Bool) (d : Dev) : Dev :=
  let i := d.loft.csumN % 16
  { d with loft := { d.loft with
      csumN := d.loft.csumN + 1
      csumLog := tset 0 (tset 0 d.loft.csumLog (2 * i) (point * 2 ^ 29 + flagAt loft 28 + tile)) (2 * i + 1)
        (e.ltNs % 2 ^ 32) } }

/-- The suspect table after a failure of tile t: newest first, the oldest evicted beyond 64 (R242). -/
def suspectAdd (l : List Nat) (t : Nat) : List Nat := if l.contains t then l else (t :: l).take 64

/-- A checksum failure of tile t of block b, found at a point of R240: counted once in an occupation, from its
allocation to its free. A tile that fails while it is in the suspect table is quarantined when it is next freed. -/
def tileFail (e : Env) (point b t : Nat) (d : Dev) : Dev :=
  let x := d.blk b
  if x.failed.contains t then d else
    let d := d.setBlk b { x with
      failed := if x.alloc.contains t then t :: x.failed else x.failed
      doomed := if x.suspect.contains t && !(x.doomed.contains t) then t :: x.doomed else x.doomed
      suspect := suspectAdd x.suspect t }
    csumLog e point (b * 32768 + t) false (raiseEv e (112 + b) 0 d)

/-- Tile t of block b freed; a doomed tile is quarantined instead (R242). -/
def freeTile (e : Env) (b t : Nat) (d : Dev) : Dev :=
  let x := d.blk b
  let d := cycAdd e b 12 1 d
  if x.doomed.contains t then
    let d := d.setBlk b { x with
      failed := x.failed.erase t, doomed := x.doomed.erase t, quar := insertAsc x.quar t,
      touched := insertAsc x.touched t }
    ovcUpdate e b (raiseEv e (112 + b) 1 d)
  else d.setBlk b { x with alloc := x.alloc.erase t, failed := x.failed.erase t, touched := insertAsc x.touched t }

/-- Tiles of block b freed. -/
def freeTiles (e : Env) (b : Nat) (l : List Nat) (d : Dev) : Dev := l.foldl (fun d t => freeTile e b t d) d

/-- A checksum failure of Loft tile u. -/
def loftTileFail (e : Env) (point u : Nat) (d : Dev) : Dev :=
  let x := d.loft
  if x.failed.contains u then d else
    let d := { d with loft := { x with
      failed := u :: x.failed
      doomed := if x.suspect.contains u then u :: x.doomed else x.doomed
      suspect := suspectAdd x.suspect u } }
    csumLog e point u true (raiseEv e 131 0 d)

/-- The request is for a Slate host port. -/
def AskAt.atSlate : AskAt → Bool
  | .port _ => true
  | _ => false

/-- A request of requester `id` raised by an access, to be granted at Purlin (R359). -/
def askPurlin (id : Nat) (place : AskAt) (d : Dev) : Dev :=
  { d with loft := { d.loft with
    asks := d.loft.asks ++ [{ id := id, key := 65536 + d.loft.askN, place := place }]
    askN := d.loft.askN + 1 } }

/-- The Loft allocator's request for the bitmap leaf of 2,048 units that unit u lies in, one for each leaf (R224, R359). -/
def leafAsk (d : Dev) (u : Nat) : Dev :=
  if d.loft.asks.any (fun a => a.place == .leaf (u / 2048)) then d else askPurlin 39 (.leaf (u / 2048)) d

/-- Loft tile u freed; a doomed one is quarantined instead (R242). -/
def freeLoftTile (e : Env) (d : Dev) (u : Nat) : Dev :=
  let d := leafAsk d u
  let x := d.loft
  if x.doomed.contains u then
    raiseEv e 131 1 { d with loft := { x with
      failed := x.failed.erase u, doomed := x.doomed.erase u, quar := insertAsc x.quar u,
      touched := insertAsc x.touched u } }
  else { d with loft := { x with alloc := x.alloc.erase u, failed := x.failed.erase u, touched := insertAsc x.touched u } }

/-- Loft channel c. -/
def Dev.chan (d : Dev) (c : Nat) : ChSt := tget {} d.loft.chans c
/-- Loft channel c replaced. -/
def Dev.setChan (d : Dev) (c : Nat) (x : ChSt) : Dev := { d with loft := { d.loft with chans := tput d.loft.chans c x } }
/-- The channel is online; between its test windows a channel being trained is what it was (R354). -/
def chanOn (d : Dev) (c : Nat) : Bool := (d.chan c).state == 2

/-- Loft channels online, ascending. -/
def onlineChans (d : Dev) : List Nat := d.loft.chans.filterMap (fun c => if c.2.state = 2 then some c.1 else none)

/-- The channel that unit u lies on; none beyond the interleave (R346). -/
def unitChan (d : Dev) (u : Nat) : Option Nat :=
  let l := d.loft.inter
  if l = [] ∨ l.length * 2 ^ 23 ≤ u then none else l[u % l.length]?
/-- The Loft unit of byte `off` of reserved region k, numbered as CMD_LOFT_MAP numbers them (R385). Regions 34, the leaf level
of the bitmap (R224), and 35, the checksum pages (R225), are this model's numbers: assumption 91. -/
def regionUnit (d : Dev) (k off : Nat) : Nat :=
  (Config.loftMap k d.loft.inter.length d.gut.size).toNat + off / 256
/-- Bank and row of unit u (R346). -/
def unitBank (d : Dev) (u : Nat) : Nat := bits (u / max 1 d.loft.inter.length) 6 3
def unitRow (d : Dev) (u : Nat) : Nat := bits (u / max 1 d.loft.inter.length) 22 7
/-- Unit u lies on a channel that serves. -/
def unitServed (d : Dev) (u : Nat) : Bool := match unitChan d u with
  | some c => chanOn d c
  | none => false

/-- Loft is in service: brought up with a channel online, not being restarted, no channel gone NO_EYE since (R355,
R356). -/
def loftServes (d : Dev) : Bool :=
  d.loft.up && d.loft.restart.isNone && !d.loft.lostEye && d.loft.chans.any (fun c => c.2.state == 2)

/-- The lowest n Loft tiles free, from unit u upward: fuel, units in use. -/
def loftFind : Nat → Nat → Nat → List Nat → List Nat
  | 0, _, _, _ => []
  | _ + 1, 0, _, _ => []
  | fuel + 1, n + 1, u, used =>
    if used.contains u then loftFind fuel (n + 1) (u + 1) used else u :: loftFind fuel n (u + 1) used

/-- n Loft tiles allocated, the lowest free ones above the reserved regions; none when Loft has too few (R224). -/
def loftTake (n : Nat) (d : Dev) : Option (List Nat × Dev) :=
  let used := d.loft.alloc ++ d.loft.quar
  let l := loftFind (n + used.length) n d.loft.reserved used
  let top := d.loft.inter.length * 2 ^ 23
  if l.length < n ∨ l.any (fun u => decide (top ≤ u)) then none
  else
    let d := l.foldl leafAsk d
    some (l, { d with loft := { d.loft with
      alloc := l.foldl (fun a u => insertAsc a u) d.loft.alloc
      touched := l.foldl (fun a u => insertAsc a u) d.loft.touched } })

/-! ## WRED (R234-R237) -/

/-- On-chip output charge of a queue in tiles. -/
def queueCharge (d : Dev) (n q : Nat) : Nat := (d.queue n q).foldl (fun a c => a + (d.copy c).charge) 0
/-- Loft tiles of a queue. -/
def queueLoft (d : Dev) (n q : Nat) : Nat := (d.queue n q).foldl (fun a c => a + (d.copy c).loft.length) 0

/-- THA_Q_CFG of queue q of port n. -/
def qCfg (e : Env) (n q : Nat) : Nat := e.reg (thaReg (blkOf n) (0xA00 + 0x40 * lpOf n + 4 * q))
/-- THA_Q_LOFT of queue q of port n. -/
def qLoft (e : Env) (n q : Nat) : Nat := e.reg (thaReg (blkOf n) (0xC00 + 0x40 * lpOf n + 4 * q))

/-- The ECN codepoint of the IP header at `off`, and whether there is one (R236). -/
def ecnOf (l : List Byte) (off : Nat) : Option Nat :=
  let b0 := beAt l off 1
  let b1 := beAt l (off + 1) 1
  if off = 0 then none else if b0 / 16 = 4 then some (b1 % 4) else if b0 / 16 = 6 then some (b1 / 16 % 4) else none

/-- WRED's decision on a copy offered to queue q of port n (R235): dropped, and marked. -/
def wredDecide (e : Env) (n q : Nat) (a : Asm) (d : Dev) : Bool × Bool × Dev :=
  let cfg := qCfg e n q
  if !(bit cfg 31) || q == 15 then (false, false, d) else
    let b := blkOf n
    let prof := if aboveW2 e d b (outPool e n q) then bits cfg 28 24 else bits cfg 20 16
    let col := min 2 (bits (a.d 2) 27 26)
    let th := e.act (thaReg b (0x1000 + 0x20 * prof + 8 * col))
    let pr := e.act (thaReg b (0x1004 + 0x20 * prof + 8 * col))
    let depth := queueCharge d n q + queueLoft d n q
    let old : Nat := tget 0 (d.port n).avg q
    let avg := ((old : Int) + ((depth * 65536 : Nat) - (old : Int)) / (2 ^ bits pr 11 8 : Nat)).toNat
    let d := d.onPort n (fun p => { p with avg := tset 0 p.avg q avg })
    let mn := bits th 15 0 * 65536
    let mx := bits th 31 16 * 65536
    if !(bit pr 31) || decide (avg < mn) then (false, false, d)
    else if mx ≤ avg then (true, false, d)
    else
      let r := d.takeFree
      let hit := decide ((r.1 % 65536) * (mx - mn) < bits pr 7 0 * 256 * (avg - mn))
      if !hit then (false, false, r.2)
      else
        let ecn := ecnOf a.bytes (bits (a.d 3) 9 2)
        if bit pr 30 && (ecn == some 1 || ecn == some 2) then (false, true, r.2) else (true, false, r.2)

end Sys2Proof.Machine
end

