-- ==== Sys2Proof/Machine/Egress.lean ====
section
/-! DEFINITION. Egress (chapter 10) and the transmit side of the ports (chapter 02): queues, gates, shapers,
weighted fair queueing, the scheduler, one-step fields (R297-R302), echoes (R303-R305), stomping and flushing. -/
namespace Sys2Proof.Machine

/-! ## Ports (R27-R29, R64) -/

/-- Rate in kb/s of a trunk port at local port lp under a trunk mode; 0 when the mode forms no such port (R27). -/
def trunkRate (mode lp : Nat) : Nat :=
  match mode with
  | 1 => if lp = 0 then 400000000 else 0
  | 2 => if lp = 0 ∨ lp = 2 then 200000000 else 0
  | 3 => if lp = 0 then 200000000 else if lp = 2 ∨ lp = 3 then 100000000 else 0
  | 4 => 100000000
  | 5 => 50000000
  | 6 => 25000000
  | 7 => 10000000
  | _ => 0

/-- Rate in kb/s of a field port (R29). -/
def fieldRate (mode sgmii : Nat) : Nat :=
  match mode with
  | 0 => 10000000
  | 1 => 2500000
  | 2 => 1000000
  | _ => [10000, 100000, 1000000].getD sgmii 1000000

/-- Rate of network port n in kb/s; 0 when it is absent (R27). -/
def portRate (d : Dev) (n : Nat) : Nat :=
  if lpOf n < 4 then trunkRate (d.blk (blkOf n)).trunkMode (lpOf n)
  else fieldRate (d.port n).fieldMode (d.port n).sgmii

/-- PB_PORT_STAT.speed code of a rate (R64). -/
def speedCode (rate : Nat) : Nat :=
  if rate ≤ 10000 then 1 else if rate ≤ 100000 then 2 else if rate ≤ 1000000 then 3 else if rate ≤ 2500000 then 4
  else if rate ≤ 10000000 then 5 else if rate ≤ 25000000 then 6 else if rate ≤ 50000000 then 7
  else if rate ≤ 100000000 then 8 else if rate ≤ 200000000 then 9 else 10

/-- T_out of a port in ns (R275). -/
def tOutNs (e : Env) (d : Dev) (n : Nat) : Nat :=
  let r := portRate d n
  if 50000000 ≤ r then 90
  else if r = 25000000 then (if e.f (pbReg n 0) 7 6 = 2 then 50 else 110)
  else if r = 10000000 then 50
  else if r = 100000 then 2500 else if r = 10000 then 25000 else 250

/-- The port has the critical attribute. -/
def isCritical (e : Env) (n : Nat) : Bool := decide (n < 96) && e.b (pbReg n 0) 1

/-- PB_MAXLEN, 1,518 to 9,216 (R31). -/
def maxLen (e : Env) (n : Nat) : Nat := clamp 1518 9216 (e.f (pbReg n 0x10) 13 0)

/-- The device forwards (R369, R375, R377). -/
def forwarding (e : Env) (d : Dev) : Bool := d.twin.state != 4 && (!(e.b 0x1100000 31) || !(e.b 0x1100004 0))

/-- No frame starts otherwise: the link is up, the port enabled, the datapath enabled (R451), no rebuild
(R399), no thermal trip (R471), and the device forwards. -/
def txAllowed (e : Env) (d : Dev) (n : Nat) : Bool :=
  let p := d.port n
  p.link && p.enabled && decide (portRate d n ≠ 0) && e.b 0x1200004 0 && !d.cmd.rebuilding && !d.pwr.tripped &&
    forwarding e d

/-- Thirds of a nanosecond that n bytes take at a rate in kb/s, rounded up. -/
def byteTime (n rate : Nat) : Nat := if rate = 0 then 0 else ceilDiv (n * 24000000) rate

/-! ## Pause and watchdogs (R47-R54) -/

/-- PFC priority of queue q (R49). -/
def qPri (e : Env) (n q : Nat) : Nat :=
  bits (e.reg (pbReg n (0x34 + 4 * (q / 8)))) (3 * (q % 8) + 2) (3 * (q % 8))

/-- The Bedrock priority of a port: that of Q15 (R50). -/
def bedrockPri (e : Env) (n : Nat) : Nat := qPri e n 15

/-- Watchdog k of a port. -/
def PortSt.dog (p : PortSt) (k : Nat) : Watchdog := tget {} p.wd k

/-- Watchdog k holds (R53). -/
def wdHolding (e : Env) (p : PortSt) (k : Nat) : Bool :=
  match (p.dog k).hold with
  | some t => decide (e.third < t)
  | none => false

/-- The pause timer of k runs (k = 8 for PAUSE). -/
def timerOn (e : Env) (p : PortSt) (k : Nat) : Bool := decide (e.third < tget 0 p.pause k)

/-- Frames of k wait: its timer runs and no hold of k is in force (R48, R53). -/
def pausedK (e : Env) (p : PortSt) (k : Nat) : Bool := timerOn e p k && !(wdHolding e p k)

/-- Queue q of port n is paused (R49). -/
def qPaused (e : Env) (d : Dev) (n q : Nat) : Bool :=
  pausedK e (d.port n) 8 || pausedK e (d.port n) (qPri e n q)

/-- The queues served by watchdog k. -/
def dogQueues (e : Env) (n k : Nat) : List Nat :=
  (List.range 16).filter (fun q => k == 8 || qPri e n q == k)

/-- PB_PFC_WD of watchdog k. -/
def wdReg (e : Env) (n k : Nat) : Nat := e.reg (pbReg n (0x100 + 4 * k))

/-- Watchdog k brought to now: it runs while k is paused and a queue of k holds a frame, keeps its time over
a gap, and restarts from zero when every queue of k is empty (R52). A copy leaves its queue when the scheduler picks it
(10_egress.md), so a frame in transmission or preempted is not held by its queue (DEDUCED, assumption 90). -/
def dogUpdate (e : Env) (n k : Nat) (p : PortSt) : PortSt :=
  let w := p.dog k
  let any := (dogQueues e n k).any (fun q => !(tget [] p.queues q).isEmpty)
  let stop := min e.third (tget 0 p.pause k)
  let ran := match w.since with
    | some t => w.run + (stop - t)
    | none => w.run
  let active := any && pausedK e p k && bit (wdReg e n k) 31
  let w' : Watchdog := if !any then { w with run := 0, since := none }
    else { w with run := ran, since := if active then some e.third else none }
  if w' = w then p else { p with wd := tput p.wd k w' }

/-- All nine watchdogs of a port brought to now. -/
def dogsUpdate (e : Env) (n : Nat) (d : Dev) : Dev :=
  d.onPort n (fun p => (List.range 9).foldl (fun p k => dogUpdate e n k p) p)

/-- A transmitted frame of queue q restarts the watchdogs of its priority and of PAUSE (R52). -/
def dogsRestart (e : Env) (n q : Nat) (d : Dev) : Dev :=
  let d := d.onPort n (fun p => [qPri e n q, 8].foldl (fun p k =>
    { p with wd := tput p.wd k { p.dog k with run := 0, since := none } }) p)
  dogsUpdate e n d

/-! ## Gates (R255-R260) -/

/-- A stretch of a window cycle: from and to in ns, gate mask, hold. -/
structure GateSeg where
  from_ : Nat
  to_ : Nat
  mask : Nat
  hold : Bool
deriving DecidableEq, Repr

/-- The active set's enable. -/
def gating (e : Env) (n : Nat) : Bool := e.ba (egsReg n 0x800) 31
/-- Entries used, 1 to 256. -/
def gclLen (w : Nat) : Nat := clamp 1 256 (bits w 8 0)
/-- Cycle time, 31,250 to 10,000,000 ns. -/
def gclCycle (w : Nat) : Nat := clamp 31250 10000000 (bits w 23 0)

/-- Stretches of entries i, i+1, ... from position `at_` of a cycle; entries of duration 0 are skipped and the
last entry's mask and hold stay in force to the cycle's end (R256). -/
def gateSegs (rd : Nat → Nat × Nat) (len cyc : Nat) : Nat → Nat → Nat → List GateSeg
  | 0, _, at_ =>
    let l := rd (len - 1)
    if at_ < cyc then [⟨at_, cyc, bits l.2 15 0, bit l.2 31⟩] else []
  | fuel + 1, i, at_ =>
    let x := rd i
    let dur := bits x.1 23 0
    if cyc ≤ at_ then []
    else if dur = 0 then gateSegs rd len cyc fuel (i + 1) at_
    else ⟨at_, min cyc (at_ + dur), bits x.2 15 0, bit x.2 31⟩ :: gateSegs rd len cyc fuel (i + 1) (at_ + dur)

/-- The active set's cycle as stretches. -/
def portSegs (e : Env) (n : Nat) : List GateSeg :=
  let len := gclLen (e.act (egsReg n 0x800))
  let cyc := gclCycle (e.act (egsReg n 0x804))
  gateSegs (fun i => (e.act (egsReg n (8 * i)), e.act (egsReg n (8 * i + 4)))) len cyc len 0 0

/-- Position in the active set's cycle now, in 2^-16 ns of its domain (R256). -/
def gatePos (e : Env) (n : Nat) : Nat :=
  let base := timeNs (e.act (egsReg n 0x808)) (e.act (egsReg n 0x80C)) (e.act (egsReg n 0x810))
  let cyc := gclCycle (e.act (egsReg n 0x804))
  (((e.domN (e.fa (egsReg n 0x800) 17 16) : Int) - (base * 65536 : Nat)) % ((cyc * 65536 : Nat) : Int)).toNat

/-- Gate mask and hold in force now (R256): all open and no hold while gating is off. -/
def gateNow (e : Env) (n : Nat) : Nat × Bool :=
  if !(gating e n) then (0xFFFF, false) else
    let pos := gatePos e n / 65536
    match (portSegs e n).find? (fun s => decide (s.from_ ≤ pos) && decide (pos < s.to_)) with
    | some s => (s.mask, s.hold)
    | none => (0xFFFF, false)

/-- Domain ns from position `pos` (2^-16 ns) to the first stretch in which queue q is closed, through the
stretches listed; none when none closes. -/
def closeIn (q pos : Nat) : List GateSeg → Nat → Option Nat
  | [], _ => none
  | s :: r, base =>
    if !(bit s.mask q) && decide (pos < (base + s.to_) * 65536) then some ((base + s.from_) * 65536 - pos)
    else closeIn q pos r base

/-- Thirds of LT until queue q's gate next closes (R259); none when the active set never closes it. -/
def gateCloses (e : Env) (n q : Nat) : Option Nat :=
  if !(gating e n) then none else
    let segs := portSegs e n
    let pos := gatePos e n
    let cyc := gclCycle (e.act (egsReg n 0x804))
    let r := match closeIn q pos segs 0 with
      | some x => some x
      | none => closeIn q pos segs cyc
    let a : Int := (2 : Int) ^ 48 + (e.dom (e.fa (egsReg n 0x800) 17 16)).adj
    r.map (fun x => x * 3 * 2 ^ 48 / (65536 * a.toNat))

/-- Longest run of stretches with queue q open, given the run so far and the best so far. -/
def longestRun (q : Nat) : List GateSeg → Nat → Nat → Nat
  | [], run, best => max run best
  | s :: r, run, best =>
    if bit s.mask q then longestRun q r (run + (s.to_ - s.from_)) best else longestRun q r 0 (max run best)

/-- Longest open window of queue q in ns; 0xFFFFFFFF when it has no limit (R258). -/
def longestWindow (e : Env) (n q : Nat) : Nat :=
  if !(gating e n) then 0xFFFFFFFF else
    let segs := portSegs e n
    if segs.all (fun s => bit s.mask q) then 0xFFFFFFFF else longestRun q (segs ++ segs) 0 0

/-- LT ns of the first cycle boundary of the active set at or after LT ns t; t itself while gating is off (R264). The
time t may lie behind or ahead of now. -/
def swapInstant (e : Env) (n t : Nat) : Nat :=
  if !(gating e n) then t else
    let cyc := gclCycle (e.act (egsReg n 0x804))
    let k := e.fa (egsReg n 0x800) 17 16
    let base := timeNs (e.act (egsReg n 0x808)) (e.act (egsReg n 0x80C)) (e.act (egsReg n 0x810))
    let a := (2 ^ 48 + (e.dom k).adj : Int).toNat
    let nT : Int := (e.domN k : Int) + ((t : Int) - (e.ltNs : Int)) * ((65536 * a : Nat) : Int) / 2 ^ 48
    let off := ((nT - (base * 65536 : Nat)) % ((cyc * 65536 : Nat) : Int)).toNat
    if off = 0 then t else t + ceilDiv ((cyc * 65536 - off) * 2 ^ 48) (65536 * a)

/-! ## Shapers (R253, R254) -/

/-- One byte in bucket units. -/
def bktUnit : Int := 24000000
/-- Shaper register block: queue q's for q ≤ 15, the port's for 16. -/
def shpReg (n i : Nat) : Nat := if i = 16 then egsReg n 0x820 else egsReg n (0x1000 + 0x100 * i + 4)
/-- The shaper is enabled; Q15's never is (R247). -/
def shpOn (e : Env) (n i : Nat) : Bool := i != 15 && e.ba (shpReg n i) 31
/-- Burst in bytes, at least 64. -/
def shpBurst (e : Env) (n i : Nat) : Nat := max 64 (e.fa (shpReg n i + 4) 23 0)
/-- Rate in kb/s, at least 1. -/
def shpRate (e : Env) (n i : Nat) : Nat := max 1 (e.fa (shpReg n i) 28 0)

/-- The bucket of shaper i of port n now, in 1/24,000,000 byte: its rate refills it exactly, up to burst; a
disabled shaper's holds burst (R253). -/
def bktNow (e : Env) (d : Dev) (n i : Nat) : Int :=
  let p := d.port n
  let full : Int := shpBurst e n i * bktUnit
  if !(shpOn e n i) then full else
    let v : Int := match tfind p.bkt i with
      | some v => v
      | none => full
    min full (v + ((e.third - tget 0 p.bktAt i) * shpRate e n i : Nat))

/-- The bucket of shaper i set, as of now. -/
def setBkt (e : Env) (n i : Nat) (v : Int) (d : Dev) : Dev :=
  twinMark e 8 (17 * n + i) (d.onPort n (fun p => { p with bkt := tput p.bkt i v, bktAt := tput p.bktAt i e.third }))

/-- The shapers that govern queue q charged len + 20 bytes (R253). -/
def chargeShapers (e : Env) (n q len : Nat) (d : Dev) : Dev :=
  if q = 15 then d else
    [q, 16].foldl (fun d i => if shpOn e n i then setBkt e n i (bktNow e d n i - (len + 20 : Nat) * bktUnit) d else d) d

/-! ## Copies -/

/-- Some tiles of the copy stand in Loft only. -/
def Copy.inLoft (k : Copy) : Bool := k.spilled || (k.readBack && !k.loft.isEmpty)

/-- Length of a copy as it will be transmitted, after the edits of R217. -/
def lenTx (d : Dev) (c : Nat) : Nat :=
  let k := d.copy c
  let a := d.asm k.asm
  let w0 := if k.edit = 0 then 0 else (tget 0 (d.blk a.out).edits (4 * k.edit)).toNat
  ((a.len : Int) + editDelta w0 a.bytes).toNat

/-- Shingles present from the first without a gap. -/
def contig (a : Asm) : Nat := runLen (fun i => a.got.contains i) (List.range (a.got.length + 1))

/-- Every shingle has arrived. -/
def Asm.whole (a : Asm) : Bool := match a.fin with
  | some (i, _) => decide (contig a = i + 1)
  | none => false

/-- Contiguous frame bytes present at the output. -/
def asmBytesIn (a : Asm) : Nat := if a.whole then a.len else 64 * contig a - 32

/-- The copy of a frame is whole in output tiles. -/
def copyWhole (k : Copy) (a : Asm) : Bool := a.whole && !k.inLoft

/-- Shingles of a copy present in output tiles from the first without a gap: of one that comes back from Loft, four to
each tile read. -/
def copyShingles (k : Copy) (a : Asm) : Nat := if k.inLoft then 4 * k.back else contig a

/-- Contiguous frame bytes of a copy present in output tiles. -/
def copyBytesIn (k : Copy) (a : Asm) : Nat := if k.inLoft then min a.len (256 * k.back) else asmBytesIn a

/-- The copy may go by cut-through at port n (R42). A copy read back from Loft may where the read-back keeps up with the
egress rate; the rate of a read-back is not the manual's (`Config.readBackRate`, assumption 91). -/
def ctAllowed (e : Env) (d : Dev) (n : Nat) (k : Copy) (a : Asm) : Bool :=
  let p := d.port n
  e.b (pbReg n 0x20) 0 && !(isCritical e n) && !p.sfForced && bit (a.d 2) 24 && decide (a.inPort < 96) &&
    !(isCritical e a.inPort) && decide (portRate d n ≤ portRate d a.inPort) &&
    (!k.readBack || decide (portRate d n ≤ Config.readBackRate.toNat)) && !(bit (a.d 3) 18)

/-- Shingles by which a refresh inside the read burst raises the threshold of a frame read back from Loft (R351): those
that the egress rate takes in tRFCpb, the longest of the interleave's channels. A controller cycle is 15/16 ns. -/
def loftAllowance (e : Env) (d : Dev) (n : Nat) : Nat :=
  let cyc := d.loft.inter.foldl (fun m c => max m (clamp 160 255 (e.f (0xE01004 + 0x100 * c) 7 0))) 0
  ceilDiv (cyc * 15 * portRate d n) 8192000000

/-- Effective start threshold of a copy in shingles (R43, R351). -/
def ctThresh (e : Env) (d : Dev) (n : Nat) (k : Copy) : Nat :=
  min (d.port n).curThresh (max 2 (e.f (pbReg n 0x20) 29 24)) + (if k.readBack then loftAllowance e d n else 0)

/-- The head of a queue is ready (R248 condition 1). -/
def headReady (e : Env) (d : Dev) (n c : Nat) : Bool :=
  let k := d.copy c
  let a := d.asm k.asm
  !k.started && !k.spilled && !k.spilling && !a.dead &&
    (copyWhole k a || (ctAllowed e d n k a && decide (ctThresh e d n k ≤ copyShingles k a)))

/-- Weight of queue q. -/
def qWeight (e : Env) (n q : Nat) : Nat := max 1 (e.fa (egsReg n (0x1000 + 0x100 * q)) 11 0)

/-- a is smaller than b among finish times modulo 2^48 (R251). -/
def ltV (a b : Nat) : Bool := let x := (b + 2 ^ 48 - a) % 2 ^ 48; decide (1 ≤ x) && decide (x ≤ 2 ^ 47 - 1)

/-- A copy that has become the head of a queue below Q14 takes its finish time (R251). -/
def fixHead (e : Env) (n q : Nat) (d : Dev) : Dev :=
  if 13 < q then d else
    match (d.queue n q).head? with
    | none => d
    | some c =>
      if (d.copy c).fin.isSome then d else
        let p := d.port n
        let fp := tget 0 p.fprev q
        let m := if ltV p.vtime fp then fp else p.vtime
        let f := (m + (lenTx d c + 20) * 65536 / qWeight e n q) % 2 ^ 48
        (d.setCopy c { d.copy c with fin := some f }).onPort n (fun p => { p with fprev := tset 0 p.fprev q f })

/-- A frame at an output block that no copy on chip holds any more gives its tiles back: once every copy left stands in
Loft, or none is left (R20, R230, R238). Its record stays while shingles of it are still on their way. -/
def asmSettle (e : Env) (i : Nat) (d : Dev) : Dev :=
  let a := d.asm i
  if !(thas d.asms i) || a.orderedAt.isNone || !(a.copies.all (fun c => (d.copy c).spilled)) then d else
    let d := freeTiles e a.out a.tiles d
    if !a.copies.isEmpty then d.setAsm i { a with tiles := [] }
    else if a.whole || !(thas d.sends a.send) then { d with asms := tdel d.asms i }
    else d.setAsm i { a with tiles := [], dead := true }

/-- A queue with no spilled copy left stops spilling (R238). -/
def spillSettle (n q : Nat) (d : Dev) : Dev :=
  if (d.queue n q).any (fun c => (d.copy c).spilled || (d.copy c).spilling || (d.copy c).inLoft) then d
  else d.onPort n (fun p => { p with spill := tset false p.spill q false })

/-- Copy c out of its queue: the next copy becomes the head, and the port's watchdogs follow (R251, R52). -/
def unqueue (e : Env) (c : Nat) (d : Dev) : Dev :=
  let k := d.copy c
  let d := touchTiles (d.asm k.asm).out (d.asm k.asm).tiles d
  let d := d.onPort k.port (fun p => { p with queues := tput p.queues k.queue ((tget [] p.queues k.queue).erase c) })
  dogsUpdate e k.port (fixHead e k.port k.queue d)

/-- A copy taken out of the device: out of its queue, its charge and Loft tiles returned (R230). -/
def releaseCopy (e : Env) (c : Nat) (d : Dev) : Dev :=
  let k := d.copy c
  let b := blkOf k.port
  let d := releasePool b k.pool k.charge d
  let d := k.loft.foldl (freeLoftTile e) d
  let d := d.onPort k.port (fun p => { p with queues := tput p.queues k.queue ((tget [] p.queues k.queue).erase c) })
  let a := d.asm k.asm
  let d := d.setAsm k.asm { a with copies := a.copies.erase c }
  let d := { d with copies := tdel d.copies c }
  dogsUpdate e k.port (fixHead e k.port k.queue (spillSettle k.port k.queue (asmSettle e k.asm d)))

/-! ## Echoes (R303-R305) -/

/-- An echo put before the host slice of block b; `snap` keeps 128 bytes. One that finds the host port's share of the
block exhausted is lost and counted (R303, R304); the share's size is not the manual's (`Config.hostShare`). -/
def pushEcho (e : Env) (b port status tOut cookie : Nat) (bytes : List Byte) (d : Dev) : Dev :=
  let bytes := if e.b 0xB00D00 8 || decide (2 ≤ status) then bytes.take 128 else bytes
  if Config.hostShare.toNat ≤ (d.blk b).echoes.length then bumpBlk e b 85 1 none d
  else d.onBlk b (fun x => { x with echoes := x.echoes ++
    [{ bytes := bytes, status := status, port := port, tOut := tOut, cookie := cookie }] })

/-- The echo of a copy discarded before its start (R304 status 2). -/
def echoUnsent (e : Env) (n : Nat) (a : Asm) (d : Dev) : Dev :=
  if a.echo then pushEcho e (blkOf n) n 2 0 a.cookie a.bytes d else d

/-- A copy dropped before its start: released, offered to drop capture, echoed; `cnt` names the counter. -/
def dropCopy (e : Env) (c code : Nat) (cnt : Dev → Dev) (d : Dev) : Dev :=
  let k := d.copy c
  let a := d.asm k.asm
  let d := echoUnsent e k.port a (cnt d)
  let d := if code = 0 then d else dropCapture e code (blkOf k.port) (a.recInfo k.port k.queue) d
  releaseCopy e c d

/-! ## Bytes at transmit -/

/-- CE set in the IP header at off (R236). -/
def markCE (l : List Byte) (off : Nat) : List Byte :=
  if ipVer l off = 4 then
    let w := be16 l off
    csumUpdate (put16 l off (w / 4 * 4 + 3)) (off + 10) w (w / 4 * 4 + 3)
  else if ipVer l off = 6 then
    let w := be16 l off
    put16 l off (w / 64 * 64 + 48 + w % 16)
  else l

/-- A sum into a correctionField, saturating (R299). -/
def corrAdd (c x : Int) : Nat :=
  ofSigned 64 (if 2 ^ 63 - 1 < c + x then 2 ^ 63 - 1 else if c + x < -(2 ^ 63) then -(2 ^ 63) else c + x)

/-- x × ratio rounded to the nearest unit, halves away from zero (R299); x is not negative. -/
def byRatio (x : Nat) (a : Int) : Int := ((x : Int) * (2 ^ 48 + a) + 2 ^ 47) / 2 ^ 48

/-- N_d at an LT stamp in 2^-16 ns. -/
def domAtStamp (e : Env) (k st : Nat) : Nat :=
  let t := st * 3 / 65536
  (e.dom k).n t + (3 * st - 65536 * t) / 3

/-- A UDP/IPv6 frame has a compensation trailer (R301); the bytes exclude the FCS. -/
def hasTrailer (l : List Byte) (l4 ptp : Nat) : Bool := decide (8 + be16 l (ptp + 2) + 2 ≤ be16 l (l4 + 4))

/-- The one-step fields written (R299): correctionField and, for kinds 2 and 3, bytes 34-43. -/
def stampFields (e : Env) (kind k ptp tOut tIn : Nat) (l : List Byte) : List Byte :=
  let c := toSigned 64 (beAt l (ptp + 8) 8)
  let a := e.ratioAdj k
  match kind with
  | 1 => splice l (ptp + 8) (natBE 8 (corrAdd c (byRatio ((tOut + 2 ^ 64 - tIn % 2 ^ 64) % 2 ^ 64) a)))
  | 2 =>
    let n := domAtStamp e k tOut
    let t := n / 65536
    let l := splice l (ptp + 34) (natBE 6 (t / 1000000000) ++ natBE 4 (t % 1000000000))
    splice l (ptp + 8) (natBE 8 (corrAdd c (n % 65536 : Nat)))
  | _ =>
    let t2 := beAt l (ptp + 36) 6 * 65536 + be16 l (ptp + 42)
    let l := splice l (ptp + 34) (zeros 10)
    splice l (ptp + 8) (natBE 8 (corrAdd c (byRatio ((tOut + 2 ^ 64 - t2) % 2 ^ 64) a)))

/-- A byte-swapped 16-bit number. -/
def swap16 (v : Nat) : Nat := v % 256 * 256 + v / 256

/-- The one-step request of a copy carried out on its bytes without FCS (R297-R302); `dl` is the shift its
edits gave the headers. The flag says it was not carried out. -/
def oneStep (e : Env) (a : Asm) (dl : Int) (tOut : Nat) (ct : Bool) (l : List Byte) : List Byte × Bool :=
  let d3 := a.d 3
  if !(bit d3 31) then (l, false) else
    let kind := bits d3 30 29
    let sh := fun x => ((x : Int) + dl).toNat
    let ptp := sh (bits d3 26 19)
    let l4 := sh (bits d3 17 10)
    let l3 := sh (bits d3 9 2)
    let need := if kind = 1 then ptp + 16 else ptp + 44
    if l.length < need then (l, true) else
      let new := stampFields e kind (bits d3 28 27) ptp tOut a.ts l
      if ptp ≠ l4 + 8 then (new, false)
      else if ipVer l l3 = 4 then
        (if be16 new (l4 + 6) = 0 then new else put16 new (l4 + 6) 0, false)
      else if ipVer l l3 = 6 then
        let so := onesSum (l.drop l4) 0
        let sn := onesSum (new.drop l4) 0
        if !ct then
          let u := csumUpdate new (l4 + 6) so sn
          (if be16 u (l4 + 6) = 0 then put16 u (l4 + 6) 0xFFFF else u, false)
        else
          let tr := l4 + be16 l (l4 + 4) - 2
          if !(hasTrailer l l4 ptp) || decide (l.length < tr + 2) || decide (tr < ptp + be16 l (ptp + 2)) then (l, true)
          else
            let dv := ocAdd so (65535 - sn)
            let dv := if (tr - l4) % 2 = 1 then swap16 dv else dv
            (put16 new tr (ocAdd (be16 new tr) dv), false)
      else (new, false)

/-- The bytes a copy leaves with, FCS included, and whether its one-step request was skipped. -/
def txBytes (e : Env) (d : Dev) (c tOut : Nat) (ct : Bool) : List Byte × Bool :=
  let k := d.copy c
  let a := d.asm k.asm
  let x := d.blk a.out
  let w := fun i => if k.edit = 0 then 0 else (tget 0 x.edits (4 * k.edit + i)).toNat
  let body := a.bytes.take (a.bytes.length - 4)
  let l3 := bits (a.d 3) 9 2
  let body := if k.ce then markCE body l3 else body
  let body := if bit (a.d 3) 18 then fixL4 body l3 (bits (a.d 3) 17 10) else body
  let dl := editDelta (w 0) body
  let r := oneStep e a dl tOut ct (applyEdit (w 0) (w 1) (w 2) body)
  (r.1 ++ fcsOf r.1, r.2)

/-! ## Transmission -/

/-- Bytes a transmission will have sent at its end: a stomped one the bytes before the pattern and its four. -/
def Tx.total (t : Tx) : Nat := match t.stomp with
  | some m => m + 4
  | none => t.bytes.length

/-- Frame bytes of a transmission that have left by now; eight bytes of preamble go first. -/
def txSent (e : Env) (d : Dev) (n : Nat) (t : Tx) : Nat :=
  min (t.total - t.sentBefore) ((e.third - t.startAt) * portRate d n / 24000000 - 8)

/-- The stomp pattern of a transmission has been decided: for a cause found, or because byte PB_MAXLEN + 1 of a frame
too long has been reached (R34, R35). -/
def txEnding (e : Env) (d : Dev) (n : Nat) (t : Tx) : Bool := match t.stomp with
  | some m => !t.overLen || decide (m < t.sentBefore + txSent e d n t)
  | none => false

/-- Start-of-frame out of a transmission that port n starts now, LT 2^-16 ns (R275, R295). -/
def startOut (e : Env) (d : Dev) (n : Nat) : Nat := (txStamp e n + tOutNs e d n * 65536) % 2 ^ 80

/-- Preemption is active on port n (R56). -/
def preActive (d : Dev) (n : Nat) : Bool := (d.port n).preState == 2

/-- Queue q of port n is express (R55). -/
def express (e : Env) (n q : Nat) : Bool := q == 15 || (q == 14 && e.b (pbReg n 0x40) 3)

/-- The queue's gate is open now. -/
def gateOpen (e : Env) (n q : Nat) : Bool := bit (gateNow e n).1 q

/-- A copy of len bytes ends before its queue's gate closes, looking no further than a pending swap (R259). -/
def fitsGate (e : Env) (d : Dev) (n q len : Nat) : Bool :=
  match gateCloses e n q with
  | none => true
  | some t =>
    let beyond := match (d.port n).swap with
      | some (t', _) => decide (3 * (swapInstant e n t' - e.ltNs) ≤ t)
      | none => false
    beyond || decide ((len + 20) * 24000000 ≤ t * portRate d n)

/-- The queue is exempt from the length checks (R259). -/
def gateExempt (e : Env) (d : Dev) (n q : Nat) : Bool := preActive d n && !(express e n q)

/-- The copy's time on the wire exceeds its queue's longest open window (R260). -/
def oversize (e : Env) (d : Dev) (n q len : Nat) : Bool :=
  let w := longestWindow e n q
  !(gateExempt e d n q) && w != 0xFFFFFFFF && decide (3 * w * portRate d n < (len + 20) * 24000000)

/-- Queue q is to be considered at a decision (R248, R257): its head is ready, not paused, within its
shapers, its gate open; a head that can never fit its window is considered so that R260 drops it. -/
def considered (e : Env) (d : Dev) (n q : Nat) : Bool :=
  match (d.queue n q).head? with
  | none => false
  | some c =>
    let len := lenTx d c
    let hold := preActive d n && (gateNow e n).2
    headReady e d n c && !(qPaused e d n q) &&
    (q == 15 || (decide (0 ≤ bktNow e d n q) && decide (0 ≤ bktNow e d n 16))) &&
    (express e n q || (!hold && (d.port n).preempted.isNone)) &&
    ((gateOpen e n q && (gateExempt e d n q || fitsGate e d n q len || oversize e d n q len)) ||
      (longestWindow e n q == 0 && oversize e d n q len))

/-- The queue among Q13-Q0 with the smallest finish time; on equal ones the highest (R251). -/
def wfqPick (d : Dev) (n : Nat) (qs : List Nat) : Option Nat :=
  qs.foldl (fun best q =>
    let f := fun q => match (d.queue n q).head? with
      | some c => ((d.copy c).fin.getD 0)
      | none => 0
    match best with
    | none => some q
    | some b => if ltV (f q) (f b) || (f q == f b && decide (b < q)) then some q else some b) none

/-- The queue a decision considers first (R249 steps 2-4). -/
def pickQueue (e : Env) (d : Dev) (n : Nat) : Option Nat :=
  if considered e d n 15 then some 15
  else if considered e d n 14 then some 14
  else wfqPick d n ((List.range 14).filter (considered e d n))

/-- The Bedrock watch on a Q15 copy that starts (R325). -/
def bedrockWatch (e : Env) (n tOut : Nat) (a : Asm) (d : Dev) : Dev :=
  let th := e.reg (0xC01004 + 8 * n)
  if bits th 23 0 = 0 then d else
    let adj := if a.inPort < 96 then e.f (0xC01400 + 4 * a.inPort) 23 0 else 0
    let res := (tOut + 2 ^ 64 - a.ts % 2 ^ 64) % 2 ^ 64
    if res ≤ (bits th 23 0 + adj) * 65536 then d
    else gutRecord e 4 (bits th 31 30) 0 tOut (qBytes d n 15) (min (res / 65536) 0xFFFFFFFF) (a.recInfo n 15) d

/-- The head c of queue q starts and leaves its queue (R249, R251, R253, R295). `pre`: it takes the place of a frame
whose preamble is under way, begun at the first time and with the second as its start-of-frame out (R278). -/
def startCopy (e : Env) (n q c : Nat) (pre : Option (Nat × Nat)) (d : Dev) : Dev :=
  let k := d.copy c
  let a := d.asm k.asm
  let ct := !(copyWhole k a)
  let len := lenTx d c
  let began := (pre.map (·.1)).getD e.third
  let tOut := (pre.map (·.2)).getD (startOut e d n)
  let r := txBytes e d c tOut ct
  let tooLong := ct && decide (maxLen e n < r.1.length)
  let wire := (if tooLong then maxLen e n + 4 else r.1.length) + 20
  let d := if r.2 then bumpPort e n 63 1 (a.ctx q) d else d
  let d := if q ≤ 13 then d.onPort n (fun p => { p with vtime := k.fin.getD p.vtime }) else d
  let d := chargeShapers e n q len d
  let d := if q = 15 then bedrockWatch e n tOut a d else d
  let t : Tx := { copy := c, queue := q, startAt := began, endAt := began + byteTime wire (portRate d n),
                  tOut := tOut, bytes := r.1, ct := ct, stomp := if tooLong then some (maxLen e n) else none,
                  overLen := tooLong, lenEst := len, closeAt := (gateCloses e n q).map (fun x => e.third + x) }
  unqueue e c ((d.setCopy c { k with started := true }).onPort n (fun p => { p with tx := some t }))

/-- The preempted frame t of port n goes on. One of which no byte has left (R278) leaves with a start-of-frame out of its
own (R297); neither is charged again. -/
def resumeTx (e : Env) (n : Nat) (t : Tx) (d : Dev) : Dev :=
  let t := if t.sentBefore = 0 then
      { t with tOut := startOut e d n, bytes := (txBytes e d t.copy (startOut e d n) t.ct).1 } else t
  d.onPort n (fun p => { p with
    preempted := none
    tx := some { t with
      startAt := e.third
      endAt := e.third + byteTime (t.total - t.sentBefore + 20) (portRate d n)
      closeAt := (gateCloses e n t.queue).map (fun x => e.third + x) } })

/-- The age of a copy exceeds its queue's limit (R265). -/
def tooOld (e : Env) (n q : Nat) (a : Asm) : Bool :=
  let lim := e.f (egsReg n (0x1000 + 0x100 * q + 0x10)) 19 0
  lim != 0 && decide (lim * 1000 * 65536 < (e.ltStamp + 2 ^ 64 - a.ts % 2 ^ 64) % 2 ^ 64)

/-- A MAC control frame: PAUSE for k = 8, else PFC for priority k, with its pause time (R476, R51). -/
def flowFrame (e : Env) (n k quanta : Nat) : List Byte :=
  let sa := natBE 2 (e.f (pbReg n 0x70) 15 0) ++ natBE 4 (e.reg (pbReg n 0x74))
  let body := natBE 6 0x0180C2000001 ++ sa ++ natBE 2 0x8808 ++
    (if k = 8 then natBE 2 1 ++ natBE 2 quanta
     else natBE 2 0x0101 ++ natBE 2 (2 ^ k) ++ (List.range 8).flatMap (fun i => natBE 2 (if i = k then quanta else 0)))
  let body := fitLen 60 body
  body ++ fcsOf body

/-- The checks made before the head copy c of queue q starts (R250, R260, R265, R35): the device without the copy, where
one of them drops it. -/
def dropHead (e : Env) (n q c : Nat) (d : Dev) : Option Dev :=
  let a := d.copyAsm c
  let len := lenTx d c
  if tooOld e n q a then some (dropCopy e c 0x8601 (bumpQ e n q 6 1 (a.ctx q)) d)
  else if oversize e d n q len then some (dropCopy e c 0x8602 (bumpQ e n q 5 1 (a.ctx q)) d)
  else if a.whole && decide (maxLen e n < len) then some (dropCopy e c 0 (bumpPort e n 61 1 (a.ctx q)) d)
  else none

/-- An express queue is eligible: it would start if the transmitter were idle. -/
def expressWaits (e : Env) (d : Dev) (n : Nat) : Bool :=
  (List.range 16).any (fun q => express e n q && considered e d n q)

/-- A scheduler decision (R249, R250): while the transmitter is idle, flow-control frames go first, then the
continuation of a preempted frame, then the queues; a copy the checks of R250 or R35 drop is removed and the
decision is taken again, at most `fuel` times. `cut`: a frame has just been preempted, and the express frame that
preempted it goes before its continuation. -/
def schedule (e : Env) (n : Nat) (cut : Bool) : Nat → Dev → Dev
  | 0, d => d
  | fuel + 1, d =>
    let p := d.port n
    if p.tx.isSome || !(txAllowed e d n) then d else
    match p.flowQ with
    | (k, quanta) :: rest =>
      let b := flowFrame e n k quanta
      let t : Tx := {
        copy := 0, queue := 16, startAt := e.third, endAt := e.third + byteTime (b.length + 20) (portRate d n),
        tOut := startOut e d n, bytes := b, ct := false, flow := some (k, quanta) }
      d.setPort n { p with flowQ := rest, tx := some t }
    | [] =>
      let cont := match p.preempted with
        | some t => gateOpen e n t.queue && !(preActive d n && (gateNow e n).2) && !(cut && expressWaits e d n)
        | none => false
      match p.preempted, cont with
      | some t, true => resumeTx e n t d
      | _, _ =>
        match pickQueue e d n with
        | none => d
        | some q =>
          match (d.queue n q).head? with
          | none => d
          | some c => match dropHead e n q c d with
            | some d' => schedule e n cut fuel d'
            | none => startCopy e n q c none d

/-- A decision at port n: enough turns to consider every copy. -/
def decide_ (e : Env) (n : Nat) (d : Dev) : Dev :=
  schedule e n false ((d.port n).queues.foldl (fun a kv => a + kv.2.length) 2) d

/-- The decision that follows a preemption at port n. -/
def decideCut (e : Env) (n : Nat) (d : Dev) : Dev :=
  schedule e n true ((d.port n).queues.foldl (fun a kv => a + kv.2.length) 2) d

/-- The size bin of a frame length (R331). -/
def sizeBin (len : Nat) : Nat :=
  if len ≤ 64 then 0 else if len ≤ 127 then 1 else if len ≤ 255 then 2 else if len ≤ 511 then 3
  else if len ≤ 1023 then 4 else if len ≤ 1518 then 5 else if len ≤ 2047 then 6 else if len ≤ 4095 then 7 else 8

/-- Address kind: 0 unicast, 1 multicast, 2 broadcast (R332). -/
def addrKind (l : List Byte) : Nat :=
  if beAt l 0 6 = 0xFFFFFFFFFFFF then 2 else if beAt l 0 1 % 2 = 1 then 1 else 0

/-- Wire bytes seen by a bandwidth monitor: direction 0 receive, 1 transmit (R342). -/
def bwCount (n dir len : Nat) (d : Dev) : Dev :=
  let v := tget 0 d.pmu.bwBytes (2 * n + dir) + len + 20
  { d with pmu := { d.pmu with bwBytes := tset 0 d.pmu.bwBytes (2 * n + dir) v } }

/-- The transmit counters of a frame whose transmission ends (R332). -/
def txCount (e : Env) (n : Nat) (bytes : List Byte) (ctx : FrCtx) (d : Dev) : Dev :=
  let len := bytes.length
  bwCount n 1 len (bumpPort e n (25 + addrKind bytes) 1 ctx (bumpPort e n (13 + sizeBin len) 1 ctx
    (bumpPort e n 3 len ctx (bumpPort e n 2 1 ctx d))))

/-- The bytes of a stomped frame: those sent, then the complement of their FCS (R34, R36). -/
def stompBytes (l : List Byte) : List Byte := l ++ natLE 4 (0xFFFFFFFF - crc32 l)

/-- A transmission in progress is ended at once with the stomp pattern, and counted (R34). The four bytes and
the gap still have to leave before the transmitter has finished. -/
def stompTx (e : Env) (n : Nat) (ctx : FrCtx) (d : Dev) : Dev :=
  match (d.port n).tx with
  | some t =>
    if txEnding e d n t then d else
      let sent := t.sentBefore + txSent e d n t
      let t' := { t with stomp := some sent, overLen := false, endAt := e.third + byteTime 16 (portRate d n) }
      bumpPort e n 55 1 ctx (d.onPort n (fun p => { p with tx := some t' }))
  | none => d

/-- The preempted frame t of copy c ends with the stomp pattern where it stands: it is counted as a frame whose
transmission ends, its echo says so, its tiles are returned and the watchdogs it serves restart (R34, R52, R304, R332). -/
def stompHeld (e : Env) (n c : Nat) (t : Tx) (d : Dev) : Dev :=
  let a := d.copyAsm c
  let ctx := a.ctx t.queue
  let sent := t.bytes.take t.sentBefore
  let out := stompBytes sent
  let d := bumpPort e n 55 1 ctx (txCount e n out ctx (d.onPort n (fun p => { p with preempted := none })))
  let d := bumpQ e n t.queue 1 out.length ctx (bumpQ e n t.queue 0 1 ctx d)
  let d := if a.echo then pushEcho e (blkOf n) n 1 t.tOut a.cookie sent d else d
  dogsRestart e n t.queue (releaseCopy e c d)

/-- A copy found bad (R34): stomped when it has started, else discarded uncounted with its drop code. A
preempted copy is ended where it stands. -/
def badCopy (e : Env) (code c : Nat) (d : Dev) : Dev :=
  let k := d.copy c
  let a := d.asm k.asm
  let ctx := a.ctx k.queue
  if !k.started then dropCopy e c code id d
  else match (d.port k.port).tx, (d.port k.port).preempted with
    | some t, pre =>
      if t.copy = c then stompTx e k.port ctx d
      else match pre with
        | some t' => if t'.copy = c then stompHeld e k.port c t' d else d
        | none => d
    | none, some t' => if t'.copy = c then stompHeld e k.port c t' d else d
    | none, none => d

/-- Every copy of a frame at an output block found bad. -/
def badAsm (e : Env) (code i : Nat) (d : Dev) : Dev :=
  let a := d.asm i
  let d := a.copies.foldl (fun d c => badCopy e code c d) d
  if thas d.asms i then d.setAsm i { d.asm i with dead := true } else d

/-- Every copy of frame i found bad, and a decision at each of their ports (R34, R249). -/
def endAsm (e : Env) (code i : Nat) (d : Dev) : Dev :=
  let ports := (d.asm i).copies.map (fun c => (d.copy c).port)
  ports.foldl (fun d n => decide_ e n d) (badAsm e code i d)

/-- The transmitter of port n has finished its frame and gap (R249, R303, R332): counters, echo, tiles, the
watchdogs, and the next decision. A frame still waiting for shingles has not finished. An output tile found bad ends
the started copies of its frame with the stomp pattern and discards the others (R240). -/
def txEnd (e : Env) (n : Nat) (tileErr : Bool) (d : Dev) : Dev :=
  match (d.port n).tx with
  | none => d
  | some t =>
    match t.flow with
    | some (k, _) =>
      if e.third < t.endAt then d else
      let out := match t.stomp with
        | some m => stompBytes (t.bytes.take m)
        | none => t.bytes
      let sent : Sent := { bytes := out, tOut := t.tOut, stomped := t.stomp.isSome }
      let d := txCount e n out none (d.onPort n (fun p => { p with tx := none, lastTx := sent }))
      let d := if t.stomp.isSome then d else bumpPort e n (if k = 8 then 37 else 38 + k) 1 none d
      decide_ e n d
    | none =>
      let a := d.copyAsm t.copy
      let ctx := a.ctx t.queue
      if tileErr && !(txEnding e d n t) then
        endAsm e 0x8504 (d.copy t.copy).asm
          (match a.tiles[min (a.tiles.length - 1) ((t.sentBefore + txSent e d n t) / 256)]? with
            | some x => tileFail e 2 a.out x d
            | none => d)
      else if e.third < t.endAt || (t.stomp.isNone && !(copyWhole (d.copy t.copy) a)) then d
      else
        let out := match t.stomp with
          | some m => stompBytes (t.bytes.take m)
          | none => t.bytes
        let d := txCount e n out ctx d
        let d := bumpQ e n t.queue 1 out.length ctx (bumpQ e n t.queue 0 1 ctx d)
        let d := if t.overLen then bumpPort e n 61 1 ctx (bumpPort e n 55 1 ctx d) else d
        let late := match t.closeAt with
          | some x => t.ct && decide (t.lenEst < t.bytes.length) && decide (x < t.endAt)
          | none => false
        let d := if late then bumpPort e n 64 1 ctx d else d
        let d := if a.echo then
            pushEcho e (blkOf n) n (if t.stomp.isSome then 1 else 0) t.tOut a.cookie (out.take (out.length - 4)) d
          else d
        let sent : Sent := { bytes := out, tOut := t.tOut, stomped := t.stomp.isSome }
        let d := d.onPort n (fun p => { p with tx := none, lastTx := sent })
        decide_ e n (dogsRestart e n t.queue (if thas d.copies t.copy then releaseCopy e t.copy d else d))

/-! ## Preemption (R55-R57, R261, R278) -/

/-- The preamble of frame t, still under way on an otherwise idle port n, is ended with the express SFD: the Q15 copy
that is eligible starts in its place, and t becomes a preempted frame with no bytes sent (R278). Where every Q15 copy is
dropped by the checks before its start, t goes on. -/
def takePreamble (e : Env) (n : Nat) (t : Tx) : Nat → Dev → Dev
  | 0, d => d.onPort n (fun p => { p with tx := some t })
  | fuel + 1, d =>
    match considered e d n 15, (d.queue n 15).head? with
    | true, some c => match dropHead e n 15 c d with
      | some d' => takePreamble e n t fuel d'
      | none => startCopy e n 15 c (some (t.startAt, t.tOut)) (d.onPort n (fun p => { p with preempted := some t }))
    | _, _ => d.onPort n (fun p => { p with tx := some t })

/-- A preemptable frame in transmission stops at a point R57 and R261 permit; the rest becomes the preempted frame. One
whose preamble has not wholly left gives way to a Q15 copy, whatever its length (R277, R278). -/
def preemptOp (e : Env) (n : Nat) (d : Dev) : Dev :=
  let p := d.port n
  match p.tx with
  | none => d
  | some t =>
    if t.flow.isSome || !(preActive d n) || express e n t.queue || txEnding e d n t then d else
      let free := d.setPort n { p with tx := none }
      let g := gateNow e n
      let why := expressWaits e free n || g.2 || !(bit g.1 t.queue) || !p.flowQ.isEmpty
      let minFrag := 64 * (e.f (pbReg n 0x40) 9 8 + 1)
      let sent := txSent e d n t
      let left := t.total - t.sentBefore - sent
      if t.sentBefore = 0 ∧ (e.third - t.startAt) * portRate d n < 8 * 24000000 then
        takePreamble e n t ((d.queue n 15).length + 1) free
      else if why = true ∧ minFrag ≤ sent ∧ 64 ≤ left ∧ 2 * minFrag + 4 ≤ t.bytes.length then
        decideCut e n (d.setPort n { p with tx := none, preempted := some { t with sentBefore := t.sentBefore + sent } })
      else d

/-! ## Flush, link state -/

/-- Every copy of a port discarded with drop code 0x8603, the frame in transmission and a preempted frame
abandoned with them (R266, R268). -/
def flushPort (e : Env) (n : Nat) (d : Dev) : Dev :=
  (d.port n).queues.foldl (fun d kv => kv.2.foldl (fun d c =>
    dropCopy e c 0x8603 (bumpQ e n kv.1 7 1 ((d.copyAsm c).ctx kv.1)) d) d) d

/-- Transmission t of port n, of which `sent` bytes have left, is abandoned without a stomp and counted in EGS_FLUSH_CNT
(R266). Its echo says what became of it: ended after its start, or not sent where no byte had left (R304; DEDUCED,
assumption 70). -/
def abandonOne (e : Env) (n sent : Nat) (t : Tx) (d : Dev) : Dev :=
  let a := d.copyAsm t.copy
  let ctx := a.ctx t.queue
  let d := if t.overLen && decide (t.total < sent + 4) then bumpPort e n 61 1 ctx (bumpPort e n 55 1 ctx d) else d
  let d := bumpQ e n t.queue 7 1 ctx d
  let d := if !a.echo then d
    else if sent = 0 then pushEcho e (blkOf n) n 2 0 a.cookie a.bytes d
    else pushEcho e (blkOf n) n 1 t.tOut a.cookie (t.bytes.take sent) d
  releaseCopy e t.copy d

/-- The frames in transmission and preempted are abandoned (R266). -/
def abandonTx (e : Env) (n : Nat) (d : Dev) : Dev :=
  let p := d.port n
  let ts := (match p.tx with
      | some t => if t.flow.isNone then [(t.sentBefore + txSent e d n t, t)] else []
      | none => []) ++
    (match p.preempted with | some t => [(t.sentBefore, t)] | none => [])
  let d := d.setPort n { p with tx := none, preempted := none }
  ts.foldl (fun d t => abandonOne e n t.1 t.2 d) d

/-- Pause timers zero, watchdog runs restarted, holds kept (R266 step 3). -/
def clearPause (n : Nat) (d : Dev) : Dev :=
  d.onPort n (fun p => { p with pause := [], wd := p.wd.map (fun kv => (kv.1, { kv.2 with run := 0, since := none })) })

/-- The link hold of a port has ended without the link (R268). -/
def holdExpired (e : Env) (n : Nat) (d : Dev) : Dev :=
  let d := flushPort e n d
  raiseEv e n 5 (d.onPort n (fun p => { p with downHold := false, flushing := true }))

/-- Bin of a head delay (R269). -/
def obsBin (ns_ : Nat) : Nat :=
  if ns_ < 64 then 0 else ((List.range 14).map (· + 1)).foldl (fun b k => if 2 ^ (k + 5) ≤ ns_ then k else b) 15 |>
    fun b => if 2 ^ 20 ≤ ns_ then 15 else b

/-- One queue's sample (R269). -/
def obsAdd (depth delay : Nat) (o : ObsSt) : ObsSt :=
  let dp := min depth 0xFFFFFFFF
  let dl := min delay 0xFFFFFFFF
  let b := obsBin delay
  { dmin := min o.dmin dp, dmax := max o.dmax dp, dlast := dp, tmin := min o.tmin dl, tmax := max o.tmax dl, tlast := dl,
    hist := tset 0 o.hist b (min 0xFFFFFFFF (tget 0 o.hist b + 1)) }

/-- Head delay of a queue in ns; 0 when empty (R269). -/
def headDelay (e : Env) (d : Dev) (n q : Nat) : Nat :=
  match (d.queue n q).head? with
  | some c => (e.ltStamp + 2 ^ 64 - (d.copyAsm c).ts % 2 ^ 64) % 2 ^ 64 / 65536
  | none => 0

/-- All queues of a port sampled at one instant (R269, R324). -/
def queueSampleOp (e : Env) (n : Nat) (d : Dev) : Dev :=
  let cfg := e.reg (egsReg n 0x840)
  let per := clamp 1 1000 (bits cfg 9 0)
  if !(bit cfg 31) || decide (e.third < (d.port n).sampleAt + us per) then d else
    let qs := (List.range 16).map (fun q => (q, qBytes d n q, headDelay e d n q))
    let d := d.onPort n (fun p => { p with
      sampleAt := e.third
      obs := qs.foldl (fun t x => tput t x.1 (obsAdd x.2.1 x.2.2 (tget {} t x.1))) p.obs })
    if bit cfg 30 then
      gutRecord e 3 2 0 e.ltStamp (qs.foldl (fun a x => a + x.2.1) 0) 0
        { outPort := n, snap := qs.flatMap (fun x => natLE 4 (min x.2.1 0xFFFFFFFF) ++ natLE 4 (min x.2.2 0xFFFFFFFF)) } d
    else d

end Sys2Proof.Machine
end

