-- ==== Sys2Proof/Machine/Ridge.lean ====
section
/-! DEFINITION. Ridge (chapter 08): injection, middle blocks, resequencing, assembly, replication, and the
admission and enqueueing of copies at the output (R211-R217, R231, R238, R279). -/
namespace Sys2Proof.Machine

/-! ## Frames in their input block -/

/-- Ingress tiles and charge of a frame given back (R20, R230). -/
def freeIngress (e : Env) (i : Nat) (d : Dev) : Dev :=
  let f := d.frame i
  let d := releasePool f.blk f.pool f.charge (freeTiles e f.blk f.tiles d)
  d.setFrame i { f with tiles := [], charge := 0 }

/-- A frame that has left its input block gives its tiles back once it has been received whole and nothing refers to them
(R20, R167). -/
def frameSettle (e : Env) (i : Nat) (d : Dev) : Dev :=
  let f := d.frame i
  if thas d.frames i && f.stage == .released && f.rxDone && f.sendsLeft == 0 && f.refs == 0 && f.hostRing.isNone then
    let d := freeIngress e i d
    { d with frames := tdel d.frames i }
  else d

/-- The one echo of an ECHO frame of which no copy reaches an egress queue (R305), from port 127. -/
def echoOnce (e : Env) (i status : Nat) (d : Dev) : Dev :=
  let f := d.frame i
  if f.echo && !f.echoed then
    (pushEcho e f.blk 127 status 0 f.cookie f.bytes d).onFrame i (fun f => { f with echoed := true })
  else d

/-- A frame dropped in its input block with a drop code: offered to drop capture, echoed, and gone. -/
def dropFrame (e : Env) (i code : Nat) (d : Dev) : Dev :=
  let f := d.frame i
  let d := if code = 0 then d else dropCapture e code f.blk (f.recInfo e) d
  let d := echoOnce e i 2 d
  let gone := d.sends.filterMap (fun kv => if kv.2.frame = i && kv.2.next = 0 && !kv.2.mirror then some kv.1 else none)
  let d := d.onBlk f.blk (fun x => { x with
    injBr := x.injBr.filter (fun s => !(gone.contains s))
    injOth := x.injOth.filter (fun s => !(gone.contains s))
    openOth := x.openOth.filter (fun s => !(gone.contains s)) })
  let d := { d with sends := d.sends.filter (fun kv => !(gone.contains kv.1)) }
  let d := d.onFrame i (fun f => { f with stage := .released, sendsLeft := f.sendsLeft - gone.length })
  frameSettle e i d

/-! ## Stage 1 (R206-R209) -/

/-- Shingles of a crossing of n frame bytes (R19). -/
def shingleCount (n : Nat) : Nat := (n + 32 + 63) / 64

/-- Stream key of an output block and class group. -/
def strm (o cg : Nat) : Nat := 2 * o + cg

/-- Bytes of a crossing present in ingress tiles. -/
def sendArrived (e : Env) (d : Dev) (s : Send) : Nat :=
  let f := d.frame s.frame
  if f.rxDone then s.data.length else min s.data.length (f.arrived e)

/-- The next shingle of a crossing is present; the final one only once the whole frame has been received and
its FCS checked. -/
def shingleReady (e : Env) (d : Dev) (s : Send) : Bool :=
  let f := d.frame s.frame
  f.bad || s.badTile || (decide (min s.data.length (64 * (s.next + 1) - 32) ≤ sendArrived e d s) &&
    (f.rxDone || decide (s.next + 1 < shingleCount s.data.length)))

/-- A crossing may open: whole in ingress tiles, or cut-through and its first shingle present (R206). -/
def canOpen (e : Env) (d : Dev) (s : Send) : Bool :=
  (d.frame s.frame).rxDone || (bit (s.desc.getD 2 0) 24 && shingleReady e d s)

/-- Word w of replication entry i. -/
def replWord (d : Dev) (i w : Nat) : Nat := (tget 0 d.slate.repl (4 * i + w)).toNat

/-- Member ports of a replication entry, less the ingress port for a flood (R216). -/
def replPorts (d : Dev) (kind dst inPort : Nat) : List Nat :=
  let i := if kind = 1 then dst % 65536 else 65536 + dst % 4096
  (List.range 96).filter (fun n => bit (replWord d i (n / 32)) (n % 32) && !(kind == 2 && n == inPort))

/-- Output blocks that hold a member port of a replication entry (R216). -/
def replOuts (d : Dev) (kind dst inPort : Nat) : List Nat :=
  let ports := replPorts d kind dst inPort
  (List.range 16).filter (fun b => ports.any (fun p => blkOf p == b))

/-- Crossing i of block b, of a multicast or flood frame whose turn has come, gives way to one crossing for each output
block its replication entry names now, one after another. A frame whose entry names no port is dropped, counted and echoed
(R206, R216, R305). -/
def expandSend (e : Env) (b : Nat) (d : Dev) (i : Nat) : Dev :=
  let s := d.send i
  match s.group with
  | none => d
  | some (kind, v) =>
    let f := d.frame s.frame
    let outs := replOuts d kind v f.inPort
    let n := d.nextSend
    let ids := (List.range outs.length).map (n + ·)
    let put := fun (l : List Nat) => l.flatMap (fun x => if x = i then ids else [x])
    let d := (outs.zip ids).foldl (fun d x => d.setSend x.2 { s with outBlk := x.1, group := none })
      { d with nextSend := n + outs.length, sends := tdel d.sends i }
    let d := d.onBlk b (fun x => { x with injBr := put x.injBr, injOth := put x.injOth })
    let d := d.onFrame s.frame (fun f => { f with sendsLeft := f.sendsLeft + outs.length - 1 })
    if outs.isEmpty then
      frameSettle e s.frame (echoOnce e s.frame 2
        (d.onBlk b (fun x => { x with noMember := tset 0 x.noMember f.lp (tget 0 x.noMember f.lp + 1) })))
    else d

/-- Crossings of block b whose turn to open has come: the head of the Bedrock queue, and of the other queue the first of
each local port (R206). None opens during a freeze (R221). -/
def openNext (e : Env) (b : Nat) (d : Dev) : List Nat :=
  let x := d.blk b
  if e.b 0x800000 0 then [] else
    x.injBr.head?.toList ++ ((List.range 8).filterMap (fun lp => x.injOth.find? (fun i => (d.send i).lp == lp))).filter
      (fun i => canOpen e d (d.send i))

/-- Middle block that stage 1 of block b meets now (R16). -/
def midOf (e : Env) (b : Nat) : Nat := (b + e.cycle) % 16
/-- Output block that stage 2 of middle j meets now (R16). -/
def outOf (e : Env) (j : Nat) : Nat := (j + e.cycle + 8) % 16

/-- Middle j stops class group cg (R207). -/
def midStops (d : Dev) (j cg : Nat) : Bool := if cg = 1 then (d.blk j).stopBr else (d.blk j).stopOth

/-- Crossing s of block b can send its next shingle to middle j: the shingle is there, the group is not
stopped, and a frame not yet begun has a credit and meets no freeze (R207, R209, R221). -/
def canSend (e : Env) (d : Dev) (b j : Nat) (s : Send) : Bool :=
  shingleReady e d s && !(midStops d j s.cg) &&
    (s.next != 0 || (!(e.b 0x800000 0) && decide (tget 0 (d.blk b).unacked (strm s.outBlk s.cg) < 512)))

/-- Frames of the other queue that open now: the first waiting one of each local port with none open (R206). -/
def openNew (e : Env) (b : Nat) (d : Dev) : Dev :=
  let x := d.blk b
  if e.b 0x800000 0 then d else
    let r := x.injOth.foldl (fun (acc : List Nat × List Nat) i =>
      let s := d.send i
      if acc.2.contains s.lp || acc.1.contains i then (acc.1, if acc.1.contains i then s.lp :: acc.2 else acc.2)
      else if canOpen e d s then (acc.1 ++ [i], s.lp :: acc.2)
      else (acc.1, s.lp :: acc.2)) (x.openOth, x.openOth.map (fun i => (d.send i).lp))
    d.setBlk b { x with openOth := r.1 }

/-- The crossing that sends a shingle this cycle (R206). -/
def pickSend (e : Env) (d : Dev) (b : Nat) : Option Nat :=
  let x := d.blk b
  let j := midOf e b
  match x.injBr.head? with
  | some i => if canSend e d b j (d.send i) then some i else x.openOth.find? (fun i => canSend e d b j (d.send i))
  | none => x.openOth.find? (fun i => canSend e d b j (d.send i))

/-- A crossing ended: its frame gives its tiles back after the last one (R20). -/
def endSend (e : Env) (b i : Nat) (d : Dev) : Dev :=
  let s := d.send i
  let d := d.onBlk b (fun x => { x with
    injBr := x.injBr.erase i, injOth := x.injOth.erase i, openOth := x.openOth.erase i })
  let d := d.setSend i { s with done := true }
  let d := touchTiles b (d.frame s.frame).tiles d
  let d := d.onFrame s.frame (fun f => { f with sendsLeft := f.sendsLeft - 1 })
  frameSettle e s.frame d

/-- The 64 data bytes of shingle idx of a crossing: the descriptor's 32 bytes go before the frame's (R19, R205). -/
def shingleData (s : Send) (idx : Nat) : List Byte := fitLen 64 (slice (s.desc.flatMap (natBE 4) ++ s.data) (64 * idx) 64)

/-- The CRC-32C of a shingle over its data bytes and its sideband (R18, R204), the fields in the table's order, first field
most significant, in five bytes (assumption 95). -/
def shingleCrc (s : Send) (h : Shingle) : Nat :=
  let side := (((((((h.src * 16 + h.out) * 2 + h.cg) * 1024 + h.tag) * 256 + h.idx % 256) * 2 + h.last.toNat) * 2 +
    h.bad.toNat) * 64 + h.valid)
  crc32c (shingleData s h.idx ++ natBE 5 side)

/-- One shingle of crossing i sent to the middle of this cycle (R203-R208). The first takes the stream's next
sequence number. A frame found bad ends with bad = 1 on the shingle sent next. An open frame that could not send has passed
its turn (R206). -/
def sendShingle (e : Env) (b i : Nat) (d : Dev) : Dev :=
  let j := midOf e b
  let s := d.send i
  let k := strm s.outBlk s.cg
  let seq := if s.next = 0 then tget 0 (d.blk b).seqCnt k else s.seq
  let d := if s.next = 0 then
      d.onBlk b (fun x => { x with
        seqCnt := tset 0 x.seqCnt k ((seq + 1) % 2 ^ 24)
        unacked := tset 0 x.unacked k (tget 0 x.unacked k + 1) })
    else d
  let n := shingleCount s.data.length
  let bad := (d.frame s.frame).bad || s.badTile
  let last := decide (s.next + 1 = n) || (bad && s.next != 0)
  let sh : Shingle := { send := i, src := b, out := s.outBlk, cg := s.cg, tag := seq % 1024, idx := s.next, last := last,
                        bad := last && bad, valid := if last then (s.data.length + 32) % 64 else 0, cycle := e.cycle }
  let s' := { s with next := s.next + 1, seq := seq, opened := true, desc := s.desc.set 0 (seq * 256 + (s.desc.getD 0 0) % 256) }
  let d := (d.setSend i s').onBlk j (fun x => { x with toMid := x.toMid ++ [{ sh with crc := shingleCrc s' sh }] })
  let d := d.onBlk b (fun x => { x with
    sent1 := e.cycle + 1
    openOth := if x.openOth.contains i then
        (x.openOth.dropWhile (· != i)).tail ++ x.openOth.takeWhile (· != i) ++ [i] else x.openOth })
  if last then endSend e b i d else d

/-- RDG_CFG.stop_margin, 8 to 255. -/
def stopMargin (e : Env) : Nat := max 8 (e.f 0x800004 7 0)

/-- A middle's stops follow its free tiles; a Bedrock stop that begins raises ridge_br_stop (R207). -/
def stopsUpdate (e : Env) (j : Nat) (d : Dev) : Dev :=
  let br := decide (midFree e d j 1 < stopMargin e)
  let oth := decide (midFree e d j 0 < stopMargin e)
  let was := (d.blk j).stopBr
  let d := d.onBlk j (fun x => { x with stopBr := br, stopOth := oth })
  if br && !was then raiseEv e 130 3 d else d

/-- The stops after a landing has moved a pool or the margin: a stop begins only where the free tiles fall below the
margin by it (R207); after reset, with no pool configured, no stop stands (RDG_MID_STAT resets to zero). -/
def stopsLanded (e0 e : Env) (j : Nat) (d : Dev) : Dev :=
  let was := fun cg => decide (stopMargin e0 ≤ midFree e0 d j cg)
  let now := fun cg => decide (stopMargin e ≤ midFree e d j cg)
  let x := d.blk j
  let br := !now 1 && (x.stopBr || was 1)
  let d := d.onBlk j (fun x => { x with stopBr := br, stopOth := !now 0 && (x.stopOth || was 0) })
  if br && !x.stopBr then raiseEv e 130 3 d else d

/-- Stage 1 of block b before its choice: multicast frames whose turn has come are spread, frames open, and the stop of the
middle of this cycle is as its free tiles stand (R206, R207, R216). -/
def stage1Ready (e : Env) (b : Nat) (d : Dev) : Dev :=
  let d := (openNext e b d).foldl (expandSend e b) d
  let d := openNew e b d
  if (d.blk b).injBr.isEmpty && (d.blk b).openOth.isEmpty then d else stopsUpdate e (midOf e b) d

/-- STAGE1_SHINGLE_SEND at block b: one shingle a cycle; a tile failure before the descriptor shingle drops the
frame (or the mirror copy alone), after it marks the crossing bad; a scan of the frame is abandoned (R168, R206, R240). -/
def stage1Op (e : Env) (b : Nat) (tileErr : Bool) (d : Dev) : Dev :=
  if (d.blk b).sent1 = e.cycle + 1 then d else
    let d := stage1Ready e b d
    match pickSend e d b with
    | none => d
    | some i =>
      let s := d.send i
      if tileErr && !s.badTile then
        let f := d.frame s.frame
        let d := (match f.tiles[(64 * s.next - 32) / 256]? with
          | some t => tileFail e 0 b t d
          | none => d).onFrame s.frame (fun f => { f with tileBad := true })
        if s.next ≠ 0 then sendShingle e b i (d.setSend i { s with badTile := true })
        else if s.mirror then
          let d := endSend e b i (dropCapture e 0x8504 b (f.recInfo e) d)
          { d with sends := tdel d.sends i }
        else dropFrame e s.frame 0x8504 d
      else sendShingle e b i d

/-! ## Middle blocks (R207, R210, R219) -/

/-- Shingles that occupied a middle tile and shingles left in it, in one number. -/
def tileUse (placed left : Nat) : Nat := placed * 16 + left

/-- SHINGLE_ARRIVE_MIDDLE: the oldest shingle on its way is checked and written (R203, R210, R232, R240). -/
def arriveMidOp (e : Env) (j : Nat) (crcBad : Bool) (d : Dev) : Dev :=
  match (d.blk j).toMid with
  | [] => d
  | sh :: rest =>
    let d := d.onBlk j (fun x => { x with toMid := rest })
    if crcBad then bumpBlk e j 83 1 none d else
      let k := strm sh.out sh.cg
      let q := tget [] (d.blk j).voq k
      let share := match q.getLast? with
        | some l => let u := tget 0 (d.blk j).midTiles l.tile
                    if u / 16 < 4 then some l.tile else none
        | none => none
      let r : Option Nat × Dev := match share with
        | some t => (some t, d.onBlk j (fun x =>
            let u := tget 0 x.midTiles t
            { x with midTiles := tset 0 x.midTiles t (tileUse (u / 16 + 1) (u % 16 + 1)) }))
        | none =>
          let p := midPool e j sh.cg
          let m := midTile e j p d
          match m.1 with
          | some t => (some t, m.2.onBlk j (fun x => { x with
              midTiles := tset 0 x.midTiles t (tileUse 1 1), midOwner := tset 0 x.midOwner t p }))
          | none => (none, m.2)
      match r.1 with
      | none => bumpBlk e j 84 1 none r.2
      | some t =>
        let q' := q ++ [{ sh with tile := t }]
        let d := (touchTiles j [t] r.2).onBlk j (fun x => { x with
          voq := tset [] x.voq k q'
          hwm := if sh.cg = 1 then max x.hwm q'.length else x.hwm })
        let d := if sh.cg = 1 && q'.length == 16 then raiseEv e 130 2 d else d
        stopsUpdate e j d

/-- The shingle stage 2 of middle j sends this cycle: the head of the Bedrock queue for its output, else of the
other; neither before the sixth cycle after it was sent (R203, R210). -/
def pickStage2 (e : Env) (d : Dev) (j : Nat) : Option Shingle :=
  let o := outOf e j
  let hd := fun cg => ((tget [] (d.blk j).voq (strm o cg)).head?).filter (fun s => decide (s.cycle + 6 ≤ e.cycle))
  (hd 1).or (hd 0)

/-- STAGE2_SHINGLE_SEND at middle j (R203, R210): the shingle leaves its tile, which is freed with its last and returned to
the pool it was charged to (R227, R232). -/
def stage2Op (e : Env) (j : Nat) (crcBad : Bool) (d : Dev) : Dev :=
  if (d.blk j).sent2 = e.cycle + 1 then d else
    match pickStage2 e d j with
    | none => d
    | some sh =>
      let k := strm sh.out sh.cg
      let u := tget 0 (d.blk j).midTiles sh.tile
      let owner := tget 0 (d.blk j).midOwner sh.tile
      let d := d.onBlk j (fun x => { x with
        voq := tset [] x.voq k (tget [] x.voq k).tail
        sent2 := e.cycle + 1
        midTiles := tset 0 x.midTiles sh.tile (if u % 16 ≤ 1 then 0 else tileUse (u / 16) (u % 16 - 1))
        midOwner := if u % 16 ≤ 1 then tset 0 x.midOwner sh.tile 0 else x.midOwner })
      let d := if u % 16 ≤ 1 then releasePool j owner 1 (freeTile e j sh.tile d) else touchTiles j [sh.tile] d
      let d := stopsUpdate e j d
      if crcBad then bumpBlk e j 83 1 none d
      else d.onBlk sh.out (fun x => { x with toOut := x.toOut ++ [{ sh with cycle := e.cycle }] })

/-! ## Admission at the output (R211, R231, R237, R268, R279) -/

/-- Wire bytes of the Q15 copies of a port that have not started (R279). -/
def q15Depth (d : Dev) (n : Nat) : Nat := (d.queue n 15).foldl (fun a c => a + lenTx d c + 20) 0

/-- The Q15 depth that a copy arriving at port n now meets: a start due in this cycle, after the end of a transmission or by
preemption, is taken first (R279). -/
def q15Ahead (e : Env) (d : Dev) (n : Nat) : Nat := q15Depth (preemptOp e n (txEnd e n false (decide_ e n d))) n

/-- Frames of queue q are discarded by a watchdog in drop mode (R53). -/
def wdDrops (e : Env) (d : Dev) (n q : Nat) : Bool :=
  [qPri e n q, 8].any (fun k => wdHolding e (d.port n) k && !((d.port n).dog k).ignore)

/-- The queue may take n more Loft tiles (R238). -/
def loftRoom (e : Env) (d : Dev) (p q n : Nat) : Bool :=
  decide (queueLoft d p q + n ≤ bits (qLoft e p q) 15 0 * 4096)

/-- The queue spills a copy admitted now: it is deep, Loft is up and deep buffering on, and it spills already or its charge
reaches THA_Q_CFG.spill (R238). -/
def spills (e : Env) (d : Dev) (n q add : Nat) : Bool :=
  let cfg := qCfg e n q
  q != 15 && bit cfg 30 && !d.loft.deepOff && d.loft.up && d.loft.restart.isNone && bits (qLoft e n q) 15 0 != 0 &&
    (tget false (d.port n).spill q || decide (bits cfg 15 0 ≤ queueCharge d n q + add))

/-- One copy of frame asm i offered to queue q of port n with egress edit `edit` (R231, R268, R279). -/
def admitCopy (e : Env) (n q edit i : Nat) (d : Dev) : Dev :=
  let a := d.asm i
  let b := blkOf n
  let ctx := a.ctx q
  let info := a.recInfo n q
  let need := ceilDiv (bits (a.d 1) 31 16) 256
  let pool := outPool e n q
  let lim := e.f (egsReg n 0x850) 23 0
  if (d.port n).flushing || !(forwarding e d) then
    echoUnsent e n a (dropCapture e 0x8603 b info (bumpQ e n q 7 1 ctx d))
  else if wdDrops e d n q then echoUnsent e n a (bumpPort e n 58 1 ctx d)
  else if q = 15 ∧ lim ≠ 0 ∧ lim < q15Ahead e d n then
    echoUnsent e n a (dropCapture e 0x8604 b info (raiseEv e n 6 (bumpPort e n 65 1 ctx d)))
  else
    let spill := spills e d n q need
    let tiles := if spill then loftTake need d else none
    if !(poolGrants e d b pool need) || (spill && (!(loftRoom e d n q need) || tiles.isNone)) then
      let d := bumpBlk e b pool 1 ctx d
      let d := if q = 15 then raiseEv e (112 + b) 4 d else d
      echoUnsent e n a (dropCapture e 0x8502 b info d)
    else
      let w := wredDecide e n q a d
      let d := w.2.2
      if w.1 then echoUnsent e n a (dropCapture e 0x8503 b info (bumpQ e n q 2 1 ctx d))
      else
        let d := if w.2.1 then bumpQ e n q 3 1 ctx d else d
        let t : List Nat × Dev := if spill then (loftTake need d).getD ([], d) else ([], d)
        let d := chargePool b pool need t.2
        let c := d.nextCopy
        let k : Copy := { asm := i, port := n, queue := q, pool := pool, charge := need, edit := edit, ce := w.2.1,
                          spilling := spill, loft := t.1 }
        let d := { d.setCopy c k with nextCopy := c + 1 }
        let d := d.setAsm i { d.asm i with copies := (d.asm i).copies ++ [c] }
        let d := d.onPort n (fun p => { p with
          queues := tput p.queues q (tget [] p.queues q ++ [c])
          spill := if spill then tset false p.spill q true else p.spill })
        dogsUpdate e n (fixHead e n q d)

/-- The egress edit index of a copy at local port lp (R217). -/
def editIndex (d : Dev) (kind dst idx lp : Nat) : Nat :=
  let idx := idx % 4096
  let i := if kind = 1 then dst % 65536 else 65536 + dst % 4096
  if idx = 0 then 0
  else if (kind = 1 ∨ kind = 2) ∧ bit (replWord d i 3) 31 then (idx + lp) % 4096 else idx

/-- The copies of an ordered frame admitted, in ascending port order (R212, R216, R231). A frame of which no
copy is admitted is not admitted: its later shingles, those that came before its descriptor among them, are discarded
and counted (R211). -/
def admitAll (e : Env) (i : Nat) (d : Dev) : Dev :=
  let a := d.asm i
  let kind := bits (a.d 0) 2 0
  let dst := bits (a.d 1) 15 0
  let q := if kind = 3 then 0 else bits (a.d 2) 31 28
  let ports := if kind = 0 ∨ kind = 3 then [dst % 128]
    else (replPorts d kind dst a.inPort).filter (fun n => blkOf n == a.out)
  let idx := bits (a.d 2) 15 0
  let d := ports.foldl (fun d n => admitCopy e n q (editIndex d kind dst idx (lpOf n)) i d) d
  if (d.asm i).copies.isEmpty then
    let d := bumpBlk e a.out 80 (a.got.filter (· != 0)).length none d
    asmSettle e i (d.setAsm i { d.asm i with dead := true, refused := true })
  else d

/-- Output tiles for what has arrived of an ordered frame that still has copies, never more than a copy is charged (R19,
R212, R230). -/
def growTiles (e : Env) (i : Nat) (d : Dev) : Dev :=
  let a := d.asm i
  if a.dead then d else
    let top := a.got.foldl (fun m x => max m (min a.bytes.length (64 * (x + 1) - 32))) 0
    let need := min (ceilDiv top 256) (a.copies.foldl (fun m c => max m (d.copy c).charge) 0)
    if need ≤ a.tiles.length then d else
      let r := allocTiles e a.out (need - a.tiles.length) d
      r.2.setAsm i { r.2.asm i with tiles := a.tiles ++ r.1 }

/-- A frame admitted with an estimated length proves longer than its charge: each copy's pool is asked for the
difference; a refusal ends the frame (R231). -/
def growCharge (e : Env) (i : Nat) (d : Dev) : Dev :=
  let a := d.asm i
  if !(bit (a.d 2) 25) || a.dead then d else
    let need := ceilDiv a.len 256
    let b := a.out
    let r := a.copies.foldl (fun (acc : Bool × Dev) c =>
      let k := acc.2.copy c
      if need ≤ k.charge then acc
      else if poolGrants e acc.2 b k.pool (need - k.charge) then
        (acc.1, (chargePool b k.pool (need - k.charge) acc.2).setCopy c { k with charge := need })
      else (true, acc.2)) (false, d)
    if r.1 then endAsm e 0x8506 i (bumpBlk e b 81 1 (a.ctx 0) r.2) else r.2

/-- What has arrived of an ordered frame is joined to it: the growth its final shingle shows, its output tiles, and its end
where that shingle came with bad = 1 (R212, R215, R231). The final shingle of a frame that arrived before its descriptor was
ordered counts from the ordering on (assumption 96). -/
def joinAsm (e : Env) (i : Nat) (d : Dev) : Dev :=
  let d := if (d.asm i).fin.isSome then growCharge e i d else d
  let d := if thas d.asms i then growTiles e i d else d
  if thas d.asms i && (d.asm i).badFin then endAsm e 0 i d else d

/-- The descriptor of asm i is ordered: E advances, a credit starts back, its copies are admitted, and the shingles that
came before it are joined (R209, R212). -/
def orderAsm (e : Env) (i : Nat) (d : Dev) : Dev :=
  let a := d.asm i
  let d := d.setAsm i { a with orderedAt := some e.third }
  let d := d.onBlk a.out (fun x => { x with expect := tset 0 x.expect (strm a.src a.cg) ((a.seq + 1) % 2 ^ 24) })
  let d := d.onBlk a.src (fun x => { x with credits := x.credits ++ [(strm a.out a.cg, e.third)] })
  let d := admitAll e i d
  let d := if thas d.asms i then joinAsm e i d else d
  (d.asm i).copies.foldl (fun d c => decide_ e (d.copy c).port d) d

/-- A held descriptor: arrived and not yet ordered. -/
def Asm.held (a : Asm) (o src cg : Nat) : Bool :=
  a.out == o && a.src == src && a.cg == cg && a.desc.isSome && a.orderedAt.isNone

/-- The held descriptor of a stream whose number is E. -/
def heldNext (d : Dev) (o src cg : Nat) : Option Nat :=
  let ex := tget 0 (d.blk o).expect (strm src cg)
  (d.asms.find? (fun kv => kv.2.held o src cg && kv.2.seq == ex)).map (·.1)

/-- Held descriptors that now equal E are ordered in turn (R212). -/
def orderHeld (e : Env) (o src cg : Nat) : Nat → Dev → Dev
  | 0, d => d
  | fuel + 1, d => match heldNext d o src cg with
    | some i => orderHeld e o src cg fuel (orderAsm e i d)
    | none => d

/-- The frame at output block o that a shingle belongs to: of its stream, with its tag (R204, R212). -/
def asmOf (d : Dev) (o : Nat) (sh : Shingle) : Option Nat :=
  (d.asms.find? (fun kv => kv.2.out == o && kv.2.src == sh.src && kv.2.cg == sh.cg && kv.2.seq % 1024 == sh.tag)).map (·.1)

/-- A shingle joined to frame i of output block o, or the first of it: held by tag until its descriptor has come (R212). -/
def asmAdd (e : Env) (s : Send) (sh : Shingle) (a : Asm) : Asm :=
  { a with
    got := a.got ++ [sh.idx]
    seq := if sh.idx = 0 then bits (s.desc.getD 0 0) 31 8 else a.seq
    desc := if sh.idx = 0 then some s.desc else a.desc
    bytes := if sh.idx = 0 then s.data else a.bytes
    heldAt := if sh.idx = 0 then e.third else a.heldAt
    badFin := a.badFin || sh.bad
    fin := if sh.last then some (sh.idx, 64 * sh.idx - 32 + (if sh.idx = 0 then 32 else 0) +
        ((if sh.valid = 0 then 64 else sh.valid) - (if sh.idx = 0 then 64 else 0))) else a.fin }

/-- A shingle written at its output block (R211, R212, R214, R215). A descriptor behind E is discarded and counted with
every shingle of its frame; a shingle whose tag E has passed, of no frame that is there, is discarded (R213, R240). -/
def arriveOut (e : Env) (o : Nat) (sh : Shingle) (d : Dev) : Dev :=
  let s := d.send sh.send
  let k := strm sh.src sh.cg
  let ex := tget 0 (d.blk o).expect k
  let seq := bits (s.desc.getD 0 0) 31 8
  if sh.idx = 0 ∧ 2 ^ 23 ≤ (seq + 2 ^ 24 - ex) % 2 ^ 24 then bumpBlk e o 79 1 none d
  else match asmOf d o sh with
    | none =>
      if sh.idx ≠ 0 ∧ 512 ≤ (sh.tag + 1024 - ex % 1024) % 1024 then d else
        let i := d.nextAsm
        let a : Asm := { out := o, src := sh.src, cg := sh.cg, seq := sh.tag, send := sh.send, ver := s.ver,
                         cookie := s.cookie }
        let d := { d.setAsm i (asmAdd e s sh a) with nextAsm := i + 1 }
        if sh.idx = 0 ∧ seq = ex then orderHeld e o sh.src sh.cg (d.asms.length + 1) (orderAsm e i d) else d
    | some i =>
      let a := d.asm i
      let d := if a.refused then bumpBlk e o 80 1 none d else d
      let d := d.setAsm i (asmAdd e s sh a)
      let d := if sh.idx = 0 ∧ seq = ex then orderHeld e o sh.src sh.cg (d.asms.length + 1) (orderAsm e i d)
        else if a.orderedAt.isSome then joinAsm e i d else d
      let a := d.asm i
      if a.whole && a.dead && a.copies.isEmpty then { d with asms := tdel d.asms i }
      else a.copies.foldl (fun d c => decide_ e (d.copy c).port d) d

/-- A crossing's record is kept until its last shingle has come to its end; with it goes what is left at the output of a
frame that has ended. -/
def sendSettle (i : Nat) (d : Dev) : Dev :=
  let s := d.send i
  let live := (List.range 16).any (fun b =>
    let x := d.blk b
    x.toMid.any (fun h => h.send == i) || x.toOut.any (fun h => h.send == i) ||
      x.voq.any (fun kv => kv.2.any (fun h => h.send == i)))
  if s.done && !live then
    { d with
      sends := tdel d.sends i
      asms := d.asms.filter (fun kv => !(kv.2.send == i && kv.2.dead && kv.2.copies.isEmpty)) }
  else d

/-- SHINGLE_ARRIVE_OUTPUT: the oldest shingle on its way is checked and written, or lost to its CRC (R240). -/
def arriveOutOp (e : Env) (o : Nat) (crcBad : Bool) (d : Dev) : Dev :=
  match (d.blk o).toOut with
  | [] => d
  | sh :: rest =>
    let d := d.onBlk o (fun x => { x with toOut := rest })
    sendSettle sh.send (if crcBad then bumpBlk e o 83 1 none d else arriveOut e o sh d)

/-- One credit of a stream comes back to its input block (R209). -/
def creditOp (b o cg : Nat) (d : Dev) : Dev :=
  let x := d.blk b
  match x.credits.find? (fun c => c.1 == strm o cg) with
  | some c => d.setBlk b { x with
      credits := x.credits.erase c
      unacked := tset 0 x.unacked (strm o cg) (tget 0 x.unacked (strm o cg) - 1) }
  | none => d

/-- RDG_CFG.skip_us, 0 acting as 1. -/
def skipUs (e : Env) : Nat := max 1 (e.f 0x800004 31 24)
/-- RDG_CFG.asm_us, 0 acting as 1. -/
def asmUs (e : Env) : Nat := max 1 (e.f 0x800004 23 16)

/-- RIDGE_SEQ_SKIP (R213): E is missing and a later descriptor has been held skip_us: E moves past it, its
credit starts back, and the held descriptors that follow are ordered. -/
def seqSkipOp (e : Env) (o src cg : Nat) (d : Dev) : Dev :=
  let k := strm src cg
  let due := d.asms.any (fun kv => kv.2.held o src cg && decide (kv.2.heldAt + us (skipUs e) ≤ e.third))
  if !due || (heldNext d o src cg).isSome then d else
    let ex := tget 0 (d.blk o).expect k
    let d := d.onBlk o (fun x => { x with expect := tset 0 x.expect k ((ex + 1) % 2 ^ 24) })
    let d := d.onBlk src (fun x => { x with credits := x.credits ++ [(strm o cg, e.third)] })
    let d := { d with asms := d.asms.filter (fun kv =>
      !(kv.2.out == o && kv.2.src == src && kv.2.cg == cg && kv.2.desc.isNone && kv.2.seq == ex % 1024)) }
    orderHeld e o src cg (d.asms.length + 1) (raiseEv e 130 0 d)

/-- RIDGE_ASM_DROP (R214): an ordered frame has not become whole asm_us after its ordering. -/
def asmDropOp (e : Env) (o i : Nat) (d : Dev) : Dev :=
  let a := d.asm i
  match a.orderedAt with
  | some t =>
    if a.out ≠ o ∨ a.whole ∨ a.dead ∨ e.third < t + us (asmUs e) then d
    else endAsm e 0 i (raiseEv e 130 1 d)
  | none => d

/-- Some shingle waits in a middle. -/
def middlesBusy (d : Dev) : Bool := (List.range 16).any (fun j => (d.blk j).voq.any (fun kv => !kv.2.isEmpty))

/-- RDG_STAT.drained: frozen, no frame open in an injector, every middle queue empty (R221). -/
def drained (e : Env) (d : Dev) : Bool :=
  e.b 0x800000 0 && !(middlesBusy d) && d.sends.all (fun kv => kv.2.next == 0 || kv.2.done)

/-- Greatest Bedrock depths cleared (R219). -/
def hwmClearOp (d : Dev) : Dev :=
  (List.range 16).foldl (fun d j => if (d.blk j).hwm = 0 then d else d.onBlk j (fun x => { x with hwm := 0 })) d

/-! ## Meanings -/

/-- STAGE1_SHINGLE_SEND. -/
def execStage1ShingleSend (b : Fin 16) (tileErr : Bool) (s : State) : Host.Outcome State Fault Refusal :=
  .next { s with dev := stage1Op s.env b.val tileErr s.dev }

/-- SHINGLE_ARRIVE_MIDDLE. -/
def execShingleArriveMiddle (j : Fin 16) (crcBad : Bool) (s : State) : Host.Outcome State Fault Refusal :=
  .next { s with dev := arriveMidOp s.env j.val crcBad s.dev }

/-- STAGE2_SHINGLE_SEND. -/
def execStage2ShingleSend (j : Fin 16) (crcBad : Bool) (s : State) : Host.Outcome State Fault Refusal :=
  .next { s with dev := stage2Op s.env j.val crcBad s.dev }

/-- SHINGLE_ARRIVE_OUTPUT. -/
def execShingleArriveOutput (o : Fin 16) (crcBad : Bool) (s : State) : Host.Outcome State Fault Refusal :=
  .next { s with dev := arriveOutOp s.env o.val crcBad s.dev }

/-- CREDIT_RETURN. -/
def execCreditReturn (b o : Fin 16) (br : Bool) (s : State) : Host.Outcome State Fault Refusal :=
  .next { s with dev := creditOp b.val o.val br.toNat s.dev }

/-- RIDGE_SEQ_SKIP. -/
def execRidgeSeqSkip (o src : Fin 16) (br : Bool) (s : State) : Host.Outcome State Fault Refusal :=
  .next { s with dev := seqSkipOp s.env o.val src.val br.toNat s.dev }

/-- RIDGE_ASM_DROP. -/
def execRidgeAsmDrop (o : Fin 16) (frame : Nat) (s : State) : Host.Outcome State Fault Refusal :=
  .next { s with dev := asmDropOp s.env o.val frame s.dev }

end Sys2Proof.Machine
end

