-- ==== Sys2Proof/Machine/Ports.lean ====
section
/-! DEFINITION. Ports, lanes and the MAC (chapter 02): reception, link state, enabling and disabling, flow
control, watchdogs, preemption handshake and reassembly, MDIO, and the SYNCE outputs (R311). -/
namespace Sys2Proof.Machine

/-! ## Lanes and SYNCE -/

/-- The local port that a trunk mode forms with lane k of a block; none when it leaves the lane unused (R27). -/
def laneLp (mode k : Nat) : Option Nat :=
  match mode with
  | 0 => none
  | 1 => some 0
  | 2 => some (k / 2 * 2)
  | 3 => some (if k < 2 then 0 else k)
  | _ => some k

/-- The network port that lane L (0-95) serves. -/
def lanePort (d : Dev) (L : Nat) : Option Nat :=
  if L < 64 then (laneLp (d.blk (L / 4)).trunkMode (L % 4)).map (portAt (L / 4)) else if L < 96 then some L else none

/-- The lanes of network port n. -/
def portLanes (d : Dev) (n : Nat) : List Nat := (List.range 96).filter (fun L => lanePort d L == some n)

/-- Signalling rate of a lane of port n in kb/s. -/
def laneRate (d : Dev) (n : Nat) : Nat :=
  if n < 64 then
    match (d.blk (blkOf n)).trunkMode with
    | 5 => 53125000
    | 6 => 25781250
    | 7 => 10312500
    | _ => 106250000
  else match (d.port n).fieldMode with
    | 0 => 10312500
    | 1 => 3125000
    | _ => 1250000

/-- A cause holds SYNCE output i low (R311). -/
def synceCause (e : Env) (d : Dev) (i : Nat) : Bool :=
  let w := e.reg (0xB00C00 + 0x10 * i)
  match lanePort d (bits w 22 16) with
  | none => true
  | some n =>
    let p := d.port n
    !p.enabled || !p.signal || p.localFault || decide (16000000 * max 1 (bits w 9 0) < laneRate d n)

/-- SYNCE output i is on (QTZ_SYNCE_CFG.enable). -/
def synceOn (e : Env) (i : Nat) : Bool := e.b (0xB00C00 + 0x10 * i) 31

/-- SYNCE output i is held low: it is off, or a cause of R311 holds it. That an output that is off reads squelched is a
DESIGN CHOICE (assumption 105). -/
def synceLow (e : Env) (d : Dev) (i : Nat) : Bool := !(synceOn e i) || synceCause e d i

/-- What SYNCE output i drives when it is not held low: lane, signalling rate in kb/s, and divisor (R311). -/
def synceDrive (e : Env) (d : Dev) (i : Nat) : Nat × Nat × Nat :=
  let w := e.reg (0xB00C00 + 0x10 * i)
  (bits w 22 16, (match lanePort d (bits w 22 16) with
    | some n => laneRate d n
    | none => 0), 64 * max 1 (bits w 9 0))

/-- The squelch bits follow their causes, and the outputs what they drive; each start of squelch of an output that is on
raises synce_squelch (R311). -/
def synceUpdate (e : Env) (d : Dev) : Dev :=
  [0, 1].foldl (fun d i =>
    let now := synceLow e d i
    let out := if now then tdel d.qtz.synce i else tput d.qtz.synce i (synceDrive e d i)
    let was := bit d.qtz.squelch i
    let d := { d with qtz := { d.qtz with squelch := setBits d.qtz.squelch i i now.toNat, synce := out } }
    if now && !was && synceOn e i then raiseEv e 133 5 d else d) d

/-! ## Reception (R31-R41, R231, R369) -/

/-- Port n receives: link up, enabled, present. -/
def rxOpen (d : Dev) (n : Nat) : Bool :=
  let p := d.port n
  p.link && p.enabled && decide (portRate d n ≠ 0)

/-- Accepted frames are taken into tiles: datapath enabled, no rebuild, the device forwards (R369, R399, R451). -/
def takesFrames (e : Env) (d : Dev) : Bool := e.b 0x1200004 0 && !d.cmd.rebuilding && forwarding e d

/-- LT of a stamp of 64 bits, in 2^-16 ns: the instant nearest to now that the stamp can mean (R73, R286). -/
def stampLt (e : Env) (ts : Nat) : Int := (e.ltStamp : Int) - toSigned 64 (e.ltStamp + (2 ^ 64 - ts % 2 ^ 64))

/-- The version that a frame stamped at `ts` bears (R133): the new one of a commit whose switch instant it has reached, or
else the active one, or the one before the last switch for a stamp earlier than that switch; none before the first switch
(R134). -/
def verAt (e : Env) (d : Dev) (ts : Nat) : Option Nat :=
  let old := match d.rs.active with
    | none => none
    | some v => if stampLt e ts < (d.rs.switchLt * 65536 : Nat) then d.rs.before else some v
  match d.rs.commits with
  | c :: _ => if c.step = 5 ∧ ((c.switchLt * 65536 : Nat) : Int) ≤ stampLt e ts then some c.version else old
  | [] => old

/-- SLT_RS_STAT.active_valid: no version is in force before the first switch, nor while a rebuild runs (R134, R400). -/
def rsValid (d : Dev) : Bool := d.rs.active.isSome && !d.cmd.rebuilding

/-- An accepted frame that no version can serve is dropped at ingress before any tile holds it (R134). -/
def noVersion (e : Env) (n : Nat) (l : List Byte) (d : Dev) : Dev :=
  dropCapture e 0x8304 (blkOf n) { inPort := n, len := l.length, snap := l.take 256 } (bumpDev e 0 1 none d)

/-- A MAC control frame (R46). -/
def isMacCtl (l : List Byte) : Bool := be16 l 12 == 0x8808

/-- The frame put among those waiting for a dispatch entry, by the part it will need (R85). -/
def queueWait (i : Nat) (br : Bool) (d : Dev) : Dev :=
  d.onBlk (d.frame i).blk (fun x =>
    if br then { x with waitBr := x.waitBr ++ [i] } else { x with waitGen := x.waitGen ++ [i] })

/-- A frame that enters its input block; its number. -/
def enterFrame (f : Frame) (d : Dev) : Nat × Dev :=
  let x := d.blk f.blk
  let d := d.setBlk f.blk { x with arrivals := x.arrivals + 1 }
  let i := d.nextFrame
  (i, { d.setFrame i { f with arrival := x.arrivals } with nextFrame := i + 1 })

/-- Tiles granted one at a time, up to `n` (R231): how many the pool grants. -/
def grantRun (e : Env) (b p : Nat) : Nat → Dev → Nat × Dev
  | 0, d => (0, d)
  | n + 1, d =>
    if poolGrants e d b p 1 then
      let r := grantRun e b p n (chargePool b p 1 d)
      (r.1 + 1, r.2)
    else (0, d)

/-- The tiles that port n holds for the frame it receives, grown to the frame's first `len` bytes (R39, R41, R231). The
start, with no tile yet, chooses the pool by the header bytes that have come. A critical port reserves for the longest frame at
the start; another port charges a tile at a time. A refusal is counted and ends the growth. -/
def rxGrow (e : Env) (n : Nat) (start : Bool) (len : Nat) (r : Reasm) (d : Dev) : Reasm × Dev :=
  if r.ovf then (r, d) else
    let b := blkOf n
    let lp := lpOf n
    let crit := isCritical e n
    let pool := if start then inPool e b lp (classOf e b lp (body (r.data.take (maxLen e n)))) else r.pool
    let need := ceilDiv (min len (maxLen e n)) 256 - r.tiles.length
    let d := if start && (e.f (thaReg b (0x400 + 0x10 * pool)) 31 30 == 1) != crit then bumpBlk e b 82 1 none d else d
    let full := ceilDiv (maxLen e n) 256
    let g : Nat × Nat × Dev :=
      if !crit then
        let g := grantRun e b pool need d
        (g.1, g.1, g.2)
      else if !start then (need, 0, d)
      else if poolGrants e d b pool full then (need, full, chargePool b pool full d)
      else (0, 0, d)
    let ovf := decide (g.1 < need)
    let d := if ovf then bumpPort e n 57 1 none (bumpBlk e b pool 1 none g.2.2) else g.2.2
    let t := allocTiles e b g.1 d
    ({ r with pool := pool, charge := r.charge + g.2.1, tiles := r.tiles ++ t.1, ovf := ovf }, t.2)

/-- A frame received at port n enters its block on the tiles that r holds, and waits for a dispatch entry. -/
def rxEnter (e : Env) (n : Nat) (r : Reasm) (d : Dev) : Dev :=
  let b := blkOf n
  let lp := lpOf n
  let crit := isCritical e n
  let rx : RxSt := { bytes := r.data, codeErr := r.codeErr, frame := none, ovf := r.ovf, startAt := r.startAt }
  if r.tiles.isEmpty then d.onPort n (fun p => { p with rx := some rx }) else
    let kept := r.data.take (maxLen e n)
    let f : Frame := {
      inPort := n, blk := b, lp := lp, crit := crit, bytes := kept.take (256 * r.tiles.length), startAt := r.startAt,
      rate := portRate d n, pool := r.pool, charge := r.charge, tiles := r.tiles, ct := !crit
      md := mdSet (mdSet (mdSet 0 0 31 24 n) 6 31 0 (r.stamp / 2 ^ 32 % 2 ^ 32)) 7 31 0 (r.stamp % 2 ^ 32) }
    let i := enterFrame f d
    let d := i.2.onPort n (fun p => { p with rx := some { rx with frame := some i.1 } })
    queueWait i.1 (bedrockOf e b lp (classOf e b lp (body kept)) crit) d

/-- FRAME_RECEIVE_START: a frame begins to arrive at port n. The bytes are those it will have been received with,
FCS included. -/
def rxStart (e : Env) (n : Nat) (bytes : List Byte) (codeErr : Bool) (stamp : Nat) (d : Dev) : Dev :=
  let r : Reasm := { data := bytes, stamp := stamp, startAt := e.third, codeErr := codeErr }
  if !(rxOpen d n) || (d.port n).rx.isSome || bytes.isEmpty then d
  else if !(takesFrames e d) || isMacCtl bytes then rxEnter e n r d
  else
    let g := rxGrow e n true bytes.length r d
    rxEnter e n g.1 g.2

/-- A frame found bad at its reception (R32-R34, R41): dropped where nothing of it has crossed Ridge, else its
crossings end with bad = 1. A frame still with its program or in the sieve is discarded when it comes out. -/
def badFrame (e : Env) (i : Nat) (d : Dev) : Dev :=
  if !(thas d.frames i) then d else
    let d := d.onFrame i (fun f => { f with rxDone := true, bad := true })
    let f := d.frame i
    match f.stage with
    | .waiting =>
      let d := d.onBlk f.blk (fun x => { x with waitGen := x.waitGen.erase i, waitBr := x.waitBr.erase i })
      dropFrame e i 0 d
    | .released => dropFrame e i 0 d
    | _ => d

/-- The received counters of an accepted frame (R332). -/
def rxCount (e : Env) (n : Nat) (l : List Byte) (ctx : FrCtx) (d : Dev) : Dev :=
  bwCount n 0 l.length (bumpPort e n (22 + addrKind l) 1 ctx (bumpPort e n (4 + sizeBin l.length) 1 ctx
    (bumpPort e n 1 l.length ctx (bumpPort e n 0 1 ctx d))))

/-- The port's sampler counts an accepted frame: N when it is chosen (R322). -/
def sampleNext (e : Env) (n : Nat) (d : Dev) : Option Nat × Dev :=
  let cfg := e.reg (0xC01000 + 8 * n)
  if !(bit cfg 31) then (none, d.onPort n (fun p => { p with sampler := 0 })) else
    let N := if bits cfg 23 0 = 0 then 2 ^ 24 else bits cfg 23 0
    let old := (d.port n).sampler
    let r : Nat × Dev := if old ≠ 0 then (old, d) else if bit cfg 30 then
        let v := d.takeFree
        (1 + v.1 % (2 * N - 1), v.2)
      else (N, d)
    let d := r.2.onPort n (fun p => { p with sampler := r.1 - 1 })
    (if r.1 = 1 then some N else none, d)

/-- Thirds of a nanosecond that q quanta of 512 bit times take at a rate (R48). -/
def quantaTime (q rate : Nat) : Nat := if rate = 0 then 0 else ceilDiv (q * 1536000000) rate

/-- Pause timer k of a port loaded with a time (R48, R53): ignored during a hold in ignore mode. -/
def loadPause (e : Env) (n k quanta : Nat) (d : Dev) : Dev :=
  let p := d.port n
  if wdHolding e p k && (p.dog k).ignore then d else
    let d := dogsUpdate e n d
    let t := if quanta = 0 then 0 else e.third + quantaTime quanta (portRate d n)
    dogsUpdate e n (d.onPort n (fun p => { p with pause := tset 0 p.pause k t }))

/-- A checked PAUSE frame takes effect (R46-R48). -/
def pauseOp (e : Env) (n quanta : Nat) (d : Dev) : Dev :=
  let d := bumpPort e n 28 1 none d
  if e.b (pbReg n 0) 9 && e.f (pbReg n 0x30) 15 8 == 0 then decide_ e n (loadPause e n 8 quanta d) else d

/-- A checked PFC frame takes effect (R46-R48, R50). -/
def pfcOp (e : Env) (n vec : Nat) (times : List Nat) (d : Dev) : Dev :=
  let d := (List.range 8).foldl (fun d k =>
    if !(bit vec k) then d else
      let d := bumpPort e n (29 + k) 1 none d
      if k = bedrockPri e n then bumpPort e n 59 1 none d
      else if bit (e.f (pbReg n 0x30) 15 8) k then loadPause e n k (times.getD k 0) d
      else d) d
  decide_ e n d

/-- A MAC control frame consumed (R46). -/
def macCtlOp (e : Env) (n : Nat) (l : List Byte) (d : Dev) : Dev :=
  if be16 l 14 = 1 then pauseOp e n (be16 l 16) d
  else if be16 l 14 = 0x0101 then
    pfcOp e n (be16 l 16 % 256) ((List.range 8).map (fun k => be16 l (18 + 2 * k))) d
  else d

/-- What the receive MAC finds at a frame's end (R32, R33): the counters to advance, and whether it is accepted. -/
def rxVerdict (mx : Nat) (l : List Byte) (codeErr : Bool) : List Nat × Bool :=
  let want := crc32 (body l)
  let fcs := leNat (l.drop (l.length - 4))
  let good := !codeErr && decide (4 ≤ l.length) && fcs == want
  let stomp := !codeErr && decide (4 ≤ l.length) && fcs == 0xFFFFFFFF - want
  let code := if codeErr then [51] else []
  if stomp then ([54], false)
  else if l.length ≤ 63 then (code ++ [if good then 47 else 48], false)
  else if mx < l.length then (code ++ [if good then 49 else 50], false)
  else if good then ([], true) else (code ++ [46], false)

/-- FRAME_RECEIVE_END: the end of the frame that port n receives (R32, R33, R39, R41, R46, R134, R322). -/
def rxEnd (e : Env) (n : Nat) (d : Dev) : Dev :=
  match (d.port n).rx with
  | none => d
  | some rx =>
    let d := d.onPort n (fun p => { p with rx := none })
    if rx.ovf then
      match rx.frame with
      | some i => badFrame e i d
      | none => d
    else
      let v := rxVerdict (maxLen e n) rx.bytes rx.codeErr
      let ctx := match rx.frame with
        | some i => (d.frame i).ctx
        | none => none
      let d := v.1.foldl (fun d i => bumpPort e n i 1 ctx d) d
      if !v.2 then
        match rx.frame with
        | some i => badFrame e i d
        | none => d
      else
        let s := sampleNext e n (rxCount e n rx.bytes ctx d)
        let d := s.2
        if isMacCtl rx.bytes then macCtlOp e n rx.bytes d else
          match rx.frame with
          | none => if rsValid d then d else noVersion e n rx.bytes d
          | some i =>
            if !(thas d.frames i) then d else
              let f := d.frame i
              let f' := { f with rxDone := true, sampled := s.1, charge := f.tiles.length }
              let d := (releasePool f.blk f.pool (f.charge - f.tiles.length) d).setFrame i f'
              if f.stage == .waiting && f.pass == 0 && (verAt e d f.ts).isNone then
                dropFrame e i 0x8304 (bumpDev e 0 1 none (d.onBlk f.blk (fun x =>
                  { x with waitGen := x.waitGen.erase i, waitBr := x.waitBr.erase i })))
              else if f.stage == .released then frameSettle e i (sampleRecord e f' d) else d

/-! ## Port and link state (R28, R29, R63, R64, R266-R268) -/

/-- Preemption's state when it starts afresh: R55 admits ports of 1 Gb/s or more; with verification off it is
active at once (R56). -/
def preStart (e : Env) (n : Nat) (d : Dev) : Dev :=
  let w := e.reg (pbReg n 0x40)
  let st := if !(bit w 0) || decide (portRate d n < 1000000) then 0 else if bit w 1 then 1 else 2
  d.onPort n (fun p => { p with preState := st, verifySent := 0, verifyAt := e.third })

/-- A frame in reception is cut short: treated as a PCS error at the point reached (R33). -/
def cutShort (e : Env) (n : Nat) (d : Dev) : Dev :=
  match (d.port n).rx with
  | none => d
  | some rx =>
    let m := (e.third - rx.startAt) * portRate d n / 24000000
    rxEnd e n (d.onPort n (fun p => { p with rx := some { rx with bytes := rx.bytes.take m, codeErr := true } }))

/-- PB_LINK.hold in us (R266). -/
def linkHold (e : Env) (n : Nat) : Nat := min 100000 (e.f (pbReg n 0x60) 16 0)

/-- What a port holds of a frame in reassembly is given back (R39, R58). -/
def reasmFree (e : Env) (n : Nat) (r : Reasm) (d : Dev) : Dev :=
  releasePool (blkOf n) r.pool r.charge (freeTiles e (blkOf n) r.tiles d)

/-- A frame in reassembly is cut short: counted as one with a PCS error at the point reached, and dropped (R33). -/
def reasmCut (e : Env) (n : Nat) (d : Dev) : Dev :=
  match (d.port n).reasm, (d.port n).reasmDead with
  | some r, false =>
    let d := reasmFree e n r d
    if r.ovf then d else (rxVerdict (maxLen e n) r.data true).1.foldl (fun d i => bumpPort e n i 1 none d) d
  | _, _ => d

/-- The link of port n falls, or the port is disabled with the link up (R33, R56, R64, R266, R268); `hold` in us. Where the
partner's remote fault sequence takes it down, the lane has its signal still (DEDUCED, assumption 106). -/
def linkFalls (e : Env) (n hold : Nat) (remote : Bool) (d : Dev) : Dev :=
  let d := abandonTx e n (reasmCut e n (cutShort e n d))
  let d := clearPause n d
  let d := d.onPort n (fun p => { p with
    link := false, signal := remote, localFault := !remote, remoteFault := remote, reasm := none, reasmDead := false,
    rxFrag := false, xoff := [], flowQ := [],
    downHold := true, holdEnd := e.third + us hold })
  let d := raiseEv e n 0 (preStart e n d)
  synceUpdate e (if hold = 0 then holdExpired e n d else d)

/-- LINK_DOWN: the lane is lost, or the partner signals a remote fault. -/
def linkDownOp (e : Env) (n : Nat) (remote : Bool) (d : Dev) : Dev :=
  if (d.port n).link then linkFalls e n (linkHold e n) remote d else d

/-- The link of port n comes up (R63, R267): its lanes serve, the port is enabled, and auto-negotiation is off or has found a
common choice. Link training that was under way has ended trained. -/
def linkUpOp (e : Env) (n sgmii : Nat) (d : Dev) : Dev :=
  let p := d.port n
  if p.link || !p.enabled || p.an == 1 || p.an == 3 || !((portLanes d n).all (fun L => unitOn d (32 + L))) ||
      (portLanes d n).isEmpty then d else
    let d := d.setPort n { p with link := true, signal := true, localFault := false, remoteFault := false,
                                  sgmii := sgmii,
                                  downHold := false, flushing := false, lt := if p.lt = 1 then 2 else p.lt }
    let d := preStart e n d
    decide_ e n (synceUpdate e (raiseEv e n 0 d))

/-- The hold timer of a port has run out, and the nanosecond in which it did is over: a link that returns within that
nanosecond is taken first (R267). -/
def holdOver (e : Env) (p : PortSt) : Bool := decide (p.holdEnd / 3 < e.third / 3)

/-- LINK_HOLD_EXPIRE (R268). -/
def holdExpireOp (e : Env) (n : Nat) (d : Dev) : Dev :=
  let p := d.port n
  if p.downHold && !p.link && holdOver e p then holdExpired e n d else d

/-- The port has auto-negotiation: Clause 73 of the trunk lanes, Clause 37 of 1000BASE-X, and SGMII's (R63). -/
def hasAn (d : Dev) (n : Nat) : Bool := decide (n < 64) || decide (2 ≤ (d.port n).fieldMode)

/-- Auto-negotiation and training of a port start or restart (R63). -/
def anStart (e : Env) (n : Nat) (d : Dev) : Dev :=
  let w := e.reg (pbReg n 0x50)
  d.onPort n (fun p => { p with an := if bit w 0 && hasAn d n then 1 else 0, lt := if bit w 1 && decide (n < 64) then 1 else 0 })

/-- AN_RESTART (R63): the link cannot stay up while they run. -/
def anRestartOp (e : Env) (n : Nat) (d : Dev) : Dev :=
  if !(d.port n).enabled then d else anStart e n (linkDownOp e n false d)

/-- AUTONEG_END (R63). -/
def autonegEndOp (e : Env) (n sgmii : Nat) (common : Bool) (d : Dev) : Dev :=
  let p := d.port n
  if p.an ≠ 1 then d
  else if common then linkUpOp e n sgmii (d.setPort n { p with an := 2, lt := if p.lt = 1 then 2 else p.lt })
  else raiseEv e n 4 (d.setPort n { p with an := 3 })

/-- The block's mode forms port n (R27). -/
def portPresent (d : Dev) (n : Nat) : Bool := portRate d n != 0

/-- The power of a port's lanes (R456). -/
def lanesPower (e : Env) (n : Nat) (up : Bool) (d : Dev) : Dev :=
  (portLanes d n).foldl (fun d L => powerRequest e (32 + L) up d) d

/-- A port that is formed and whose enable is 1 starts (R63, R456). -/
def enablePort (e : Env) (n : Nat) (d : Dev) : Dev :=
  anStart e n (lanesPower e n true (d.onPort n (fun p => { p with enabled := true })))

/-- Some trunk port of block b is enabled. -/
def trunkEnabled (d : Dev) (b : Nat) : Bool := [0, 1, 2, 3].any (fun lp => (d.port (4 * b + lp)).enabled)

/-- PB_MODE of block b as it stands is applied where no trunk port is enabled (R28); a port it forms whose stored
enable is 1 starts. A written mode equal to the one in force awaits nothing, so mode_pending reads 0 (DEDUCED, assumption
92). -/
def modeSettle (e : Env) (b : Nat) (d : Dev) : Dev :=
  let v := e.f (pbBlk b 0x8000) 2 0
  let x := d.blk b
  if x.trunkMode = v then d.setBlk b { x with modePending := false }
  else if trunkEnabled d b then d.setBlk b { x with modePending := true }
  else
    let d := synceUpdate e (d.setBlk b { x with trunkMode := v, modePending := false })
    [0, 1, 2, 3].foldl (fun d lp =>
      if e.b (pbReg (4 * b + lp) 0) 0 && portPresent d (4 * b + lp) then enablePort e (4 * b + lp) d else d) d

/-- A write of PB_PORT_CFG lands at port n (R28, R29, R64, R456); an absent port is not enabled by it (R27). A field
mode in the write that enables or disables the port is taken while the port is disabled. Disabling acts as a link down with a
hold of zero whatever the link's state (R268); a port already flushed has nothing left to flush. -/
def portCfgLanded (e : Env) (n : Nat) (d : Dev) : Dev :=
  let w := e.reg (pbReg n 0)
  let was := (d.port n).enabled
  let setField := fun (d : Dev) => if 64 ≤ n then d.onPort n (fun p => { p with fieldMode := bits w 5 4 }) else d
  let now := bit w 0 && portPresent d n
  if was && now then d
  else if now then enablePort e n (setField d)
  else if was then
    let d := if (d.port n).link then linkFalls e n 0 false d else if (d.port n).flushing then d else holdExpired e n d
    let d := lanesPower e n false d
    let d := d.onPort n (fun p => { p with enabled := false, an := 0, lt := 0 })
    modeSettle e (blkOf n) (setField d)
  else setField d

/-! ## Cut-through (R44, R45) -/

/-- UNDERRUN: the shingle the transmitter of port n needs next is not there (R44). -/
def underrunOp (e : Env) (n : Nat) (d : Dev) : Dev :=
  match (d.port n).tx with
  | none => d
  | some t =>
    let a := d.copyAsm t.copy
    let k := d.copy t.copy
    if t.flow.isSome || !t.ct || copyWhole k a || txEnding e d n t ||
        decide (t.sentBefore + txSent e d n t < copyBytesIn k a) then d
    else
      let ctx := a.ctx t.queue
      let d := bumpPort e n 56 1 ctx (stompTx e n ctx d)
      let mx := max 2 (e.f (pbReg n 0x20) 29 24)
      let p := d.port n
      if p.curThresh < mx then
        d.setPort n { p with curThresh := min mx (p.curThresh + e.f (pbReg n 0x20) 19 16) }
      else
        let d := d.setPort n { p with curThresh := mx, sfForced := true }
        if p.sfForced then d else raiseEv e n 2 d

/-- CT_RELEASE (R45). -/
def ctReleaseOp (e : Env) (n : Nat) (d : Dev) : Dev :=
  decide_ e n (d.onPort n (fun p => { p with curThresh := max 1 (e.f (pbReg n 0x20) 13 8), sfForced := false }))

/-! ## Flow control (R47, R48, R51) -/

/-- A PAUSE frame of 64 bytes received whole and right (R46, R332). -/
def pauseReceive (e : Env) (n quanta : Nat) (d : Dev) : Dev :=
  if !(rxOpen d n) then d else
    let l := fitLen 60 (natBE 6 0x0180C2000001 ++ zeros 6 ++ natBE 2 0x8808 ++ natBE 2 1 ++ natBE 2 quanta) ++ zeros 4
    pauseOp e n quanta (rxCount e n l none d)

/-- A PFC frame of 64 bytes received whole and right (R46, R332). -/
def pfcReceive (e : Env) (n vec : Nat) (times : List Nat) (d : Dev) : Dev :=
  if !(rxOpen d n) then d else
    let l := fitLen 60 (natBE 6 0x0180C2000001 ++ zeros 6 ++ natBE 2 0x8808 ++ natBE 2 0x0101) ++ zeros 4
    pfcOp e n vec times (rxCount e n l none d)

/-- PAUSE_TIMER_EXPIRE (R48). -/
def pauseExpireOp (e : Env) (n k : Nat) (d : Dev) : Dev :=
  let t := tget 0 (d.port n).pause k
  if t = 0 ∨ e.third < t then d else
    let d := dogsUpdate e n d
    decide_ e n (d.onPort n (fun p => { p with pause := tset 0 p.pause k 0 }))

/-- tx_quanta of port n. -/
def txQuanta (e : Env) (n : Nat) : Nat := e.f (pbReg n 0x30) 31 16

/-- Port n sends flow control for key k: PFC for a priority, PAUSE at 8 (R47, R50, R51). -/
def flowOn (e : Env) (n k : Nat) : Bool :=
  let pfc := e.f (pbReg n 0x30) 7 0
  txQuanta e n != 0 && (if k = 8 then pfc == 0 && e.b (pbReg n 0) 8 else bit pfc k && k != bedrockPri e n)

/-- A pool that serves key k of port n is at or above W1 (R51, R233). -/
def flowWants (e : Env) (d : Dev) (n k : Nat) : Bool :=
  (if k = 8 then List.range 8 else [k]).any (fun c => aboveW1 e d (blkOf n) (inPool e (blkOf n) (lpOf n) c))

/-- A flow-control frame put before every queue of port n. -/
def pushFlow (e : Env) (n k quanta : Nat) (d : Dev) : Dev :=
  decide_ e n (d.onPort n (fun p => { p with flowQ := p.flowQ ++ [(k, quanta)] }))

/-- FLOW_CONTROL_SEND: XOFF when a pool of k has reached W1 and none is outstanding, a pause time of zero when
all have dropped below (R51). Outstanding XOFFs keep the time they were last sent, plus 1. -/
def flowSendOp (e : Env) (n k : Nat) (d : Dev) : Dev :=
  let out := tget 0 (d.port n).xoff k
  if !(flowOn e n k) then d.onPort n (fun p => { p with xoff := tset 0 p.xoff k 0 })
  else if !(txAllowed e d n) then d
  else if flowWants e d n k then
    if out ≠ 0 then d
    else pushFlow e n k (txQuanta e n) (d.onPort n (fun p => { p with xoff := tset 0 p.xoff k (e.third + 1) }))
  else if out = 0 then d
  else pushFlow e n k 0 (d.onPort n (fun p => { p with xoff := tset 0 p.xoff k 0 }))

/-- FLOW_CONTROL_REPEAT: half of tx_quanta has passed and a pool is still at W1 (R51). -/
def flowRepeatOp (e : Env) (n k : Nat) (d : Dev) : Dev :=
  let out := tget 0 (d.port n).xoff k
  if out = 0 ∨ !(flowOn e n k) ∨ !(txAllowed e d n) ∨ !(flowWants e d n k) ∨
      e.third + 1 < out + quantaTime (txQuanta e n) (portRate d n) / 2 then d
  else pushFlow e n k (txQuanta e n) (d.onPort n (fun p => { p with xoff := tset 0 p.xoff k (e.third + 1) }))

/-! ## Watchdogs (R52-R54) -/

/-- PAUSE_WATCHDOG_TRIP. -/
def dogTripOp (e : Env) (n k : Nat) (d : Dev) : Dev :=
  let d := dogsUpdate e n d
  let w := (d.port n).dog k
  let cfg := wdReg e n k
  if !(bit cfg 31) || wdHolding e (d.port n) k || decide (w.run < ms (clamp 1 10000 (bits cfg 13 0))) then d else
    let ign := bit cfg 30
    let w' : Watchdog := { run := 0, since := none, hold := some (e.third + ms (clamp 1 60000 (bits cfg 29 14))), ignore := ign }
    let d := d.onPort n (fun p => { p with
      wd := tput p.wd k w'
      pause := if ign then tset 0 p.pause k 0 else p.pause })
    let d := raiseEv e n 1 d
    let d := if ign then d else
      (dogQueues e n k).foldl (fun d q => (d.queue n q).foldl (fun d c =>
        if (d.copy c).started then d else dropCopy e c 0 (bumpPort e n 58 1 ((d.copyAsm c).ctx q)) d) d) d
    decide_ e n d

/-- WATCHDOG_HOLD_END. -/
def dogHoldEndOp (e : Env) (n k : Nat) (d : Dev) : Dev :=
  let w := (d.port n).dog k
  match w.hold with
  | some t =>
    if e.third < t then d
    else dogsUpdate e n (d.onPort n (fun p => { p with wd := tput p.wd k { w with hold := none, run := 0, since := none } }))
  | none => d

/-! ## Preemption (R56, R58) -/

/-- PB_PRE.verify_time in ms. -/
def verifyMs (e : Env) (n : Nat) : Nat := clamp 1 128 (e.f (pbReg n 0x40) 31 24)

/-- PREEMPT_VERIFY_TIMER: the next verify frame is sent, or verification fails after three (R56). -/
def verifyTimerOp (e : Env) (n : Nat) (d : Dev) : Dev :=
  let p := d.port n
  if p.preState ≠ 1 || !(txAllowed e d n) || (p.verifySent ≠ 0 && decide (e.third < p.verifyAt + ms (verifyMs e n))) then d
  else if p.verifySent < 3 then d.setPort n { p with verifySent := p.verifySent + 1, verifyAt := e.third }
  else raiseEv e n 3 (d.setPort n { p with preState := 3 })

/-- PREEMPT_VERIFY_RESPONSE (R56). -/
def verifyResponseOp (e : Env) (n : Nat) (d : Dev) : Dev :=
  let p := d.port n
  if p.preState = 1 ∧ p.verifySent ≠ 0 then decide_ e n (d.setPort n { p with preState := 2 }) else d

/-- A reassembled frame is received whole, apart from the frame in reception (R58). -/
def rxWhole (e : Env) (n : Nat) (r : Reasm) (d : Dev) : Dev :=
  let keep := (d.port n).rx
  let d := rxEnd e n (rxEnter e n r d)
  d.onPort n (fun p => { p with rx := keep })

/-- The frame being reassembled is discarded and counted (R58). -/
def reasmErr (e : Env) (n : Nat) (r : Reasm) (d : Dev) : Dev := bumpPort e n 60 1 none (reasmFree e n r d)

/-- A fragment's bytes join what is held of its frame: tiles are asked for as a frame's are (R39, R41), a wrong mCRC discards
all of it, and the last fragment completes the frame (R58). -/
def reasmAdd (e : Env) (n : Nat) (fr : Fragment) (r : Reasm) (d : Dev) : Dev :=
  let r := { r with data := r.data ++ fr.data, codeErr := r.codeErr || fr.codeErr }
  if !fr.mcrcOk then reasmErr e n r d
  else
    let g := if takesFrames e d && !(isMacCtl r.data) then rxGrow e n fr.start r.data.length r d else (r, d)
    if fr.final then rxWhole e n g.1 g.2
    else g.2.onPort n (fun p => { p with reasm := some g.1 })

/-- FRAGMENT_RECEIVE (R58). The continuation that follows a start has count 0 (assumption 24). A start that comes while
another frame is being reassembled discards that one and counts one PB_RX_REASM_ERR, a case that R58 does not name
(DESIGN CHOICE, assumption 93). -/
def fragmentOp (e : Env) (n : Nat) (fr : Fragment) (d : Dev) : Dev :=
  if !(rxOpen d n) then d else
    let p := d.port n
    let d := d.setPort n { p with rxFrag := true, reasm := none, reasmDead := false }
    if fr.start then
      let d := match p.reasm, p.reasmDead with
        | some r, false => reasmErr e n r d
        | _, _ => d
      reasmAdd e n fr { stamp := rxStamp e n, startAt := e.third } d
    else if p.reasmDead then
      if fr.final then d else d.onPort n (fun q => { q with reasmDead := true })
    else match p.reasm with
      | none => bumpPort e n 60 1 none d
      | some r =>
        if fr.count.toNat ≠ r.next then reasmErr e n r d
        else reasmAdd e n fr { r with next := (r.next + 1) % 4 } d

/-! ## MDIO (R62) -/

/-- A write of PB_MDIO_CMD.go. -/
def mdioGoOp (e : Env) (bus : Nat) (cmd : Word) (d : Dev) : Dev :=
  let m := tget {} d.mdio bus
  let m' := if m.busy then { m with drops := min 255 (m.drops + 1) } else { m with busy := true, cmd := cmd, since := e.third }
  { d with mdio := tput d.mdio bus m' }

/-- The command reads: Clause 22 op 2; Clause 45 ops 2 and 3. -/
def mdioReads (cmd : Nat) : Bool := bits cmd 30 29 == 2 || (bit cmd 28 && bits cmd 30 29 == 3)

/-- MDIO_OPERATION_END: 64 MDC periods after its start (R62). -/
def mdioEndOp (e : Env) (bus : Nat) (rdata : Nat) (d : Dev) : Dev :=
  let m := tget {} d.mdio bus
  if !m.busy || decide (e.third < m.since + ns 25600) then d else
    { d with mdio := tput d.mdio bus { m with busy := false, rdata := if mdioReads m.cmd.toNat then rdata else m.rdata } }

/-! ## Gates, samples and buckets (R253, R256, R269, R270) -/

/-- GATE_CHANGE: the gates of port n follow their window set, and a decision is taken (R249, R256). -/
def gateChangeOp (e : Env) (n : Nat) (d : Dev) : Dev :=
  let g := gateNow e n
  decide_ e n (d.onPort n (fun p => { p with gates := g.1, hold := g.2 }))

/-- SHAPER_BUCKET_REFILL: the buckets of port n are brought to now, and a decision is taken (R253). -/
def refillOp (e : Env) (n : Nat) (d : Dev) : Dev :=
  decide_ e n ((List.range 17).foldl (fun d i => if shpOn e n i then setBkt e n i (bktNow e d n i) d else d) d)

/-- OBS_RESET (R270). -/
def obsResetOp (n : Nat) (d : Dev) : Dev := d.onPort n (fun p => { p with obs := [] })

/-! ## Meanings -/

/-- FRAME_RECEIVE_START. -/
def execFrameReceiveStart (n : Fin 96) (bytes : List Byte) (codeErr : Bool) (s : State) :
    Host.Outcome State Fault Refusal :=
  .next { s with dev := rxStart s.env n.val bytes codeErr (rxStamp s.env n.val) s.dev }

/-- FRAME_RECEIVE_END. -/
def execFrameReceiveEnd (n : Fin 96) (s : State) : Host.Outcome State Fault Refusal :=
  .next { s with dev := rxEnd s.env n.val s.dev }

/-- LINK_DOWN. -/
def execLinkDown (l : LinkFall) (s : State) : Host.Outcome State Fault Refusal :=
  .next { s with dev := linkDownOp s.env l.port.val l.remote s.dev }

/-- LINK_UP. -/
def execLinkUp (n : Fin 96) (sgmii : Fin 3) (s : State) : Host.Outcome State Fault Refusal :=
  .next { s with dev := linkUpOp s.env n.val sgmii.val s.dev }

/-- LINK_HOLD_EXPIRE. -/
def execLinkHoldExpire (n : Fin 96) (s : State) : Host.Outcome State Fault Refusal :=
  .next { s with dev := holdExpireOp s.env n.val s.dev }

/-- AUTONEG_END. -/
def execAutonegEnd (n : Fin 96) (common : Bool) (sgmii : Fin 3) (s : State) : Host.Outcome State Fault Refusal :=
  .next { s with dev := autonegEndOp s.env n.val sgmii.val common s.dev }

/-- UNDERRUN. -/
def execUnderrun (n : Fin 96) (s : State) : Host.Outcome State Fault Refusal :=
  .next { s with dev := underrunOp s.env n.val s.dev }

/-- PAUSE_FRAME_RECEIVE. -/
def execPauseFrameReceive (n : Fin 96) (quanta : BitVec 16) (s : State) : Host.Outcome State Fault Refusal :=
  .next { s with dev := pauseReceive s.env n.val quanta.toNat s.dev }

/-- PFC_FRAME_RECEIVE. -/
def execPfcFrameReceive (n : Fin 96) (vec : BitVec 8) (times : List (BitVec 16)) (s : State) :
    Host.Outcome State Fault Refusal :=
  .next { s with dev := pfcReceive s.env n.val vec.toNat (times.map BitVec.toNat) s.dev }

/-- PAUSE_TIMER_EXPIRE. -/
def execPauseTimerExpire (n : Fin 96) (k : Fin 9) (s : State) : Host.Outcome State Fault Refusal :=
  .next { s with dev := pauseExpireOp s.env n.val k.val s.dev }

/-- FLOW_CONTROL_SEND. -/
def execFlowControlSend (n : Fin 96) (k : Fin 9) (s : State) : Host.Outcome State Fault Refusal :=
  .next { s with dev := flowSendOp s.env n.val k.val s.dev }

/-- FLOW_CONTROL_REPEAT. -/
def execFlowControlRepeat (n : Fin 96) (k : Fin 9) (s : State) : Host.Outcome State Fault Refusal :=
  .next { s with dev := flowRepeatOp s.env n.val k.val s.dev }

/-- PAUSE_WATCHDOG_TRIP. -/
def execPauseWatchdogTrip (n : Fin 96) (k : Fin 9) (s : State) : Host.Outcome State Fault Refusal :=
  .next { s with dev := dogTripOp s.env n.val k.val s.dev }

/-- WATCHDOG_HOLD_END. -/
def execWatchdogHoldEnd (n : Fin 96) (k : Fin 9) (s : State) : Host.Outcome State Fault Refusal :=
  .next { s with dev := dogHoldEndOp s.env n.val k.val s.dev }

/-- PREEMPT_VERIFY_TIMER. -/
def execPreemptVerifyTimer (n : Fin 96) (s : State) : Host.Outcome State Fault Refusal :=
  .next { s with dev := verifyTimerOp s.env n.val s.dev }

/-- PREEMPT_VERIFY_RESPONSE. -/
def execPreemptVerifyResponse (n : Fin 96) (s : State) : Host.Outcome State Fault Refusal :=
  .next { s with dev := verifyResponseOp s.env n.val s.dev }

/-- FRAGMENT_RECEIVE. -/
def execFragmentReceive (n : Fin 96) (frag : Fragment) (s : State) : Host.Outcome State Fault Refusal :=
  .next { s with dev := fragmentOp s.env n.val frag s.dev }

/-- MDIO_OPERATION_END. -/
def execMdioOperationEnd (bus : Fin 2) (rdata : BitVec 16) (s : State) : Host.Outcome State Fault Refusal :=
  .next { s with dev := mdioEndOp s.env bus.val rdata.toNat s.dev }

/-- FRAME_TRANSMIT_END. -/
def execFrameTransmitEnd (n : Fin 96) (tileErr : Bool) (s : State) : Host.Outcome State Fault Refusal :=
  .next { s with dev := txEnd s.env n.val tileErr s.dev }

/-- PREEMPT. -/
def execPreempt (n : Fin 96) (s : State) : Host.Outcome State Fault Refusal :=
  .next { s with dev := preemptOp s.env n.val s.dev }

/-- GATE_CHANGE. -/
def execGateChange (n : Fin 96) (s : State) : Host.Outcome State Fault Refusal :=
  .next { s with dev := gateChangeOp s.env n.val s.dev }

/-- QUEUE_SAMPLE. -/
def execQueueSample (n : Fin 96) (s : State) : Host.Outcome State Fault Refusal :=
  .next { s with dev := queueSampleOp s.env n.val s.dev }

/-- SHAPER_BUCKET_REFILL. -/
def execShaperBucketRefill (n : Fin 96) (s : State) : Host.Outcome State Fault Refusal :=
  .next { s with dev := refillOp s.env n.val s.dev }

/-- PLL_LOCK. -/
def execPllLock (s : State) : Host.Outcome State Fault Refusal := .next (pllLockOp s)

/-- CONFIGURATION_READY. -/
def execConfigurationReady (fuseErr romErr : Bool) (s : State) : Host.Outcome State Fault Refusal :=
  .next (configReadyOp fuseErr romErr s)

/-- BIST_END. -/
def execBistEnd (failed : Bool) (s : State) : Host.Outcome State Fault Refusal :=
  .next { s with dev := bistEndOp failed s.dev }

/-- GOVERNOR_GRANT. -/
def execGovernorGrant (s : State) : Host.Outcome State Fault Refusal :=
  .next { s with dev := grantOp s.env s.dev }

/-- RAMP_END. -/
def execRampEnd (u : Fin 138) (s : State) : Host.Outcome State Fault Refusal :=
  .next { s with dev := rampEndOp s.env u.val s.dev }

/-- TEMP_SENSOR_READ. -/
def execTempSensorRead (sensors : List Int) (s : State) : Host.Outcome State Fault Refusal :=
  .next { s with dev := tempOp sensors s.dev }

end Sys2Proof.Machine
end

