-- ==== Sys2Proof/Machine/HostIn.lean ====
section
/-! DEFINITION. The host's side of an ingress slice: frames from the host port enter block r mod 16 (R11, R37,
R133), and sends are segmented before dispatch (R59-R61). -/
namespace Sys2Proof.Machine

/-- A frame of the host port, without FCS, enters the host slice of block b: padded and completed (R37), stamped
and charged to the slice's pool a tile at a time (R227, R231). A device that does not forward discards it (R369,
R399); one that asked for an echo is echoed as not sent (R305). -/
def hostEnter (e : Env) (b : Nat) (l : List Byte) (echo : Bool) (cookie : Nat) (d : Dev) : Dev :=
  let l := l ++ zeros (60 - l.length)
  let bytes := l ++ fcsOf l
  if !(takesFrames e d) then (if echo then pushEcho e b 127 2 0 cookie bytes d else d) else
    let cls := classOf e b 6 l
    let pool := inPool e b 6 cls
    let need := ceilDiv bytes.length 256
    let d := if e.f (thaReg b (0x400 + 0x10 * pool)) 31 30 == 1 then bumpBlk e b 82 1 none d else d
    let g := grantRun e b pool need d
    let t := allocTiles e b g.1 g.2
    let stamp := e.ltStamp
    let md : BitVec 512 := mdSet (mdSet (mdSet 0 0 31 24 96) 6 31 0 (stamp / 2 ^ 32 % 2 ^ 32)) 7 31 0 (stamp % 2 ^ 32)
    let f : Frame := {
      inPort := 96, blk := b, lp := 6, bytes := bytes, startAt := e.third, rxDone := true, pool := pool,
      charge := g.1, tiles := t.1, cookie := cookie
      md := mdSet (mdSet (mdSet md 1 31 16 bytes.length) 8 23 23 1) 8 22 22 (if echo then 1 else 0) }
    let r := enterFrame f t.2
    if g.1 < need then dropFrame e r.1 0 (bumpBlk e b pool 1 none r.2)
    else if (verAt e d stamp).isNone then dropFrame e r.1 0x8304 (bumpDev e 0 1 none r.2)
    else queueWait r.1 false r.2

/-- Where the layer-3 and layer-4 headers of a large send stand, if R60 admits its headers: TCP or UDP over IPv4
or IPv6 with no tunnel, the header region ending with the L4 header. -/
def tsoLayout (l : List Byte) (hdrLen : Nat) : Option (Nat × Nat) :=
  let p := parse (l.take 256) false
  let h2 := p.h.getD 2 0
  let h3 := p.h.getD 3 0
  let l3 := h2 % 512
  let l4 := h3 % 512
  let t2 := bits h2 14 9
  let t3 := bits h3 14 9
  let fin := if t3 = 16 then l4 + beAt l (l4 + 12) 1 / 16 * 4 else l4 + 8
  if p.has 2 && p.has 3 && !(p.has 4) && !p.malformed && (t2 == 3 || t2 == 4) && (t3 == 16 || t3 == 17) && fin == hdrLen
  then some (l3, l4) else none

/-- A send within the limits of R60. -/
def tsoOk (l : List Byte) (hdrLen mss : Nat) : Bool :=
  decide (l.length ≤ 262144) && decide (64 ≤ mss) && decide (mss ≤ 9000) && decide (hdrLen ≤ 256) &&
    (tsoLayout l hdrLen).isSome

/-- Segment k of n: the header region with its payload, changed as R61 lays down. -/
def tsoSegment (hdr : List Byte) (l3 l4 mss k n : Nat) (payload : List Byte) : List Byte :=
  let s := hdr ++ payload
  let s := if ipVer s l3 = 4 then
      fixIp4 (put16 (put16 s (l3 + 2) (s.length - l3)) (l3 + 4) ((be16 s (l3 + 4) + k) % 65536)) l3 s.length
    else put16 s (l3 + 4) (s.length - l3 - 40)
  let proto := (ipUpper s l3).1
  let s := if proto = 6 then
      let s := splice s (l4 + 4) (natBE 4 ((beAt s (l4 + 4) 4 + k * mss) % 2 ^ 32))
      let fl := beAt s (l4 + 13) 1
      let fl := if k + 1 < n then fl &&& 0xF6 else fl
      let fl := if 0 < k then fl &&& 0x7F else fl
      splice s (l4 + 13) [BitVec.ofNat 8 fl]
    else put16 s (l4 + 4) (s.length - l4)
  fixL4 s l3 l4

/-- The segments of a send, in order (R61). -/
def tsoSegments (l : List Byte) (hdrLen mss : Nat) : List (List Byte) :=
  match tsoLayout l hdrLen with
  | none => []
  | some (l3, l4) =>
    let hdr := l.take hdrLen
    let pay := l.drop hdrLen
    let n := ceilDiv pay.length mss
    (List.range n).map (fun k => tsoSegment hdr l3 l4 mss k n (slice pay (k * mss) mss))

/-- A large send enters block b: segmented, or refused with PB_TSO_ERR_CNT (R60, R61). -/
def tsoEnter (e : Env) (b : Nat) (l : List Byte) (hdrLen mss : Nat) (echo : Bool) (cookie : Nat) (d : Dev) : Dev :=
  if !(tsoOk l hdrLen mss) then bumpPort e (4 * b) 62 1 none d
  else (tsoSegments l hdrLen mss).foldl (fun d s => hostEnter e b s echo cookie d) d

end Sys2Proof.Machine
end

