-- ==== Sys2Proof/Machine/Commands.lean ====
section
/-! DEFINITION. Commands (chapter 16): descriptors, slots and handles, completions and their ring, the head's and
the members' side of device groups, and the commands that chapter itself defines. -/
namespace Sys2Proof.Machine

/-! ## Status codes (R395) -/

def stOk : Nat := 0
def stRejected : Nat := 1
def stNoRoom : Nat := 2
def stNoEye : Nat := 3
def stPartial : Nat := 4
def stTimeout : Nat := 5
def stDiscarded : Nat := 6

/-! ## Slots (R393) -/

/-- Command slot k. -/
def Dev.slot (d : Dev) (k : Nat) : CmdSlot := tget {} d.cmd.slots k
/-- Command slot k replaced. -/
def Dev.setSlot (d : Dev) (k : Nat) (x : CmdSlot) : Dev := { d with cmd := { d.cmd with slots := tput d.cmd.slots k x } }

/-- The lowest slot from k on that is not in use. -/
def freeSlot : Tbl CmdSlot → Nat → Nat
  | [], k => k
  | (j, x) :: r, k => if k < j then k else if x.used then freeSlot r (j + 1) else j

/-- Handles in use (CMD_STAT.outstanding). -/
def outstanding (d : Dev) : Nat := (d.cmd.slots.filter (fun kv => kv.2.used && !kv.2.forHead)).length

/-- The handle of slot k's present use. -/
def handleOf (d : Dev) (k : Nat) : Nat := (d.slot k).gen * 4096 + k

/-- Argument word i of a slot's descriptor. -/
def argWord (d : Dev) (k i : Nat) : Nat := (((d.slot k).desc.getD i 0) : Word).toNat

/-- An address of two argument words, low first. -/
def argAddr (d : Dev) (k i : Nat) : Nat := argWord d k i + 2 ^ 32 * argWord d k (i + 1)

/-- A time of three argument words in ns (R291, R397). -/
def argTime (d : Dev) (k i : Nat) : Nat := timeNs (argWord d k i) (argWord d k (i + 1)) (argWord d k (i + 2))

/-- The device's ID (R402). -/
def devId (e : Env) : Nat := e.f 0x200100 5 0

/-- The device is the head of its group (R402). -/
def isHead (e : Env) : Bool := e.b 0x200100 6

/-! ## The completion ring (R394, R396) -/

/-- Entries of a ring by its size field; 0: off. Codes 9-15 act as 8. -/
def ringSize (n : Nat) : Nat := if n = 0 then 0 else 32 * 2 ^ min n 8

/-- Entries of the completion ring; 0: not configured. -/
def cplSize (e : Env) : Nat := ringSize (e.f 0x200058 3 0)

/-- The completion ring is full: one entry stays free, so that equal indices mean empty. -/
def cplFull (e : Env) (d : Dev) : Bool :=
  decide (cplSize e ≠ 0) && (d.cmd.tail + 1) % cplSize e == e.f 0x200060 12 0 % cplSize e

/-- CMD_CPL_HEAD as a posting of this management cycle finds it (R396). -/
def cplHeadNow (e : Env) (d : Dev) : Nat := match d.cmd.headWas with
  | some (h, t) => if t = e.third / 12 then h else e.f 0x200060 12 0
  | none => e.f 0x200060 12 0

/-- The ring has no entry for a posting of this cycle. -/
def cplBlocked (e : Env) (d : Dev) : Bool := (d.cmd.tail + 1) % cplSize e == cplHeadNow e d % cplSize e

/-- CMD_STAT.cpl_stall follows the ring; a stall that begins raises cmd_cpl_stall (R396). -/
def stallUpdate (e : Env) (d : Dev) : Dev :=
  let now := cplFull e d
  if now = d.cmd.stall then d else
    let d := { d with cmd := { d.cmd with stall := now } }
    if now then raiseEv e 137 1 d else d

/-- The words of a completion (R394). -/
def cplWords (phase : Bool) (epoch : Nat) (c : Cpl) : List Nat :=
  [flagAt phase 31 + c.status * 2 ^ 24 + c.devid * 2 ^ 16 + c.handle, c.tag.toNat, c.opcode * 2 ^ 24 + epoch] ++
    ((c.results ++ List.replicate 5 0).take 5).map BitVec.toNat

/-- COMPLETION_POST: the oldest finished command's completion is written, unless the ring is full, as it stood before a write
of CMD_CPL_HEAD of the same cycle, or the PCIe link is down (R396, R446). -/
def postOp (s : State) : State :=
  let e := s.env
  let d := s.dev
  let n := cplSize e
  match d.cmd.cpls with
  | [] => s
  | c :: rest =>
    if n = 0 || cplBlocked e d || !d.pwr.pcieUp then s else
      let t := d.cmd.tail % n
      let base := e.reg 0x200050 + 2 ^ 32 * e.reg 0x200054
      let t' := (t + 1) % n
      let d := { d with cmd := { d.cmd with
        cpls := rest
        tail := t'
        phase := if t' = 0 then !d.cmd.phase else d.cmd.phase
        inRing := d.cmd.inRing ++ [c.slots] } }
      let d := if c.opcode = 0xFF then raiseEv e 137 0 d else d
      let d := if c.irq then sendMsix (e.f 0x200058 26 16) d else d
      { s with
        host := mwrite s.host (base + 32 * t) ((cplWords s.dev.cmd.phase s.dev.cmd.epoch c).flatMap (natLE 4))
        dev := stallUpdate e d }

/-- Slots freed (R393). -/
def freeSlots (l : List Nat) (d : Dev) : Dev :=
  l.foldl (fun d k => d.setSlot k { d.slot k with
    used := false, running := false, finished := false, desc := [], member := none, forHead := false }) d

/-- A write of CMD_CPL_HEAD has landed: the slots of the completions it moved past are free (R393). -/
def cplHeadMoved (old : Nat) (e : Env) (d : Dev) : Dev :=
  let n := cplSize e
  if n = 0 then d else
    let k := (e.f 0x200060 12 0 % n + n - old % n) % n
    let was := match d.cmd.headWas with
      | some (h, t) => if t = e.third / 12 then (h, t) else (old, e.third / 12)
      | none => (old, e.third / 12)
    let d := freeSlots (d.cmd.inRing.take k).flatten
      { d with cmd := { d.cmd with inRing := d.cmd.inRing.drop k, headWas := some was } }
    stallUpdate e d

/-! ## Batten frames (R403-R405) -/

/-- CMD_BATTEN_MAC with an ID in its low 6 bits. -/
def battenMac (e : Env) (id : Nat) : List Byte :=
  natBE 2 (e.f 0x200114 15 0) ++ natBE 4 (e.reg 0x200118 / 64 * 64 + id % 64)

/-- The key shared with member m at the head, else the member's own fused key; none while it is not valid. -/
def battenKey (e : Env) (d : Dev) (m : Nat) : Option Nat :=
  if isHead e then
    if bit d.cmd.keyValid m then
      some (beNat ((List.range 4).flatMap (fun w => natLE 4 (tget 0 d.cmd.keys (4 * m + w)).toNat)))
    else none
  else some Config.fuseKey.toNat

/-- The authenticated bytes of a Batten frame (R404). -/
def battenBody (type src dst counter mslot : Nat) (body : List Byte) : List Byte :=
  [1, BitVec.ofNat 8 type, BitVec.ofNat 8 src, BitVec.ofNat 8 dst] ++ natBE 6 counter ++ natBE 2 mslot ++ body

/-- The 96-bit IV (R405). -/
def battenIv (type src dst counter : Nat) : Nat :=
  beNat ([BitVec.ofNat 8 src, BitVec.ofNat 8 dst, BitVec.ofNat 8 type, 0] ++ natBE 6 counter ++ zeros 2)

/-- A Batten frame sent into the host slice of block 0 as a host frame (R403). -/
def battenSend (e : Env) (dst type counter mslot : Nat) (body : List Byte) (d : Dev) : Dev :=
  match battenKey e d dst with
  | none => d
  | some key =>
    let src := devId e
    let p := battenBody type src dst counter mslot body
    hostEnter e 0 (battenMac e dst ++ battenMac e src ++ natBE 2 (e.f 0x200110 31 16) ++ p ++
      gmac key (battenIv type src dst counter) p) false 0 d

/-- The head's next counter: the session, and a count of one more (R405). -/
def headCounter (e : Env) (d : Dev) : Nat × Dev :=
  let c := (d.cmd.headCnt + 1) % 2 ^ 24
  (e.f 0x20011C 23 0 * 2 ^ 24 + c, { d with cmd := { d.cmd with headCnt := c } })

/-- A member's reply to the head (R405). -/
def battenReply (e : Env) (type mslot : Nat) (body : List Byte) (d : Dev) : Dev :=
  let c := (d.cmd.membCnt + 1) % 2 ^ 24
  let d := { d with cmd := { d.cmd with membCnt := c } }
  battenSend e d.cmd.headId type (d.cmd.lastHead / 2 ^ 24 * 2 ^ 24 + c) mslot body d

/-! ## Finishing a command -/

/-- Member slot of an accepted command that local slot k runs. -/
def acceptedAt (d : Dev) (k : Nat) : Option Nat :=
  (d.cmd.accepted.find? (fun kv => kv.2.slot == k && kv.2.body.isNone)).map (·.1)

/-- The command of slot k finishes: its completion joins those to be posted, or goes to the head (R394, R406). -/
def cmdFinish (e : Env) (k status : Nat) (rs : List Nat) (d : Dev) : Dev :=
  let x := d.slot k
  if !x.used || x.finished then d else
    let w0 := (x.desc.getD 0 0).toNat
    let c : Cpl := {
      slots := [k], handle := handleOf d k, status := status, devid := x.member.getD (devId e),
      tag := x.desc.getD 1 0, opcode := bits w0 31 24, irq := bit w0 23, results := rs.map w32 }
    let d := d.setSlot k { x with running := false, finished := true }
    if x.forHead then
      match acceptedAt d k with
      | none => freeSlots [k] d
      | some ms =>
        let b := (cplWords false d.cmd.epoch c).flatMap (natBE 4)
        let a := tget { gen := 0, slot := 0, body := none } d.cmd.accepted ms
        let d := { d with cmd := { d.cmd with accepted := tput d.cmd.accepted ms { a with body := some b } } }
        battenReply e 2 (a.gen * 256 + ms) b (freeSlots [k] d)
    else { d with cmd := { d.cmd with cpls := d.cmd.cpls ++ [c] } }

/-- Slot k holds a command of opcode `op` that has not started and runs on this device. -/
def canStart (d : Dev) (k op : Nat) : Bool :=
  let x := d.slot k
  x.used && !x.running && !x.finished && x.member.isNone && bits (x.desc.getD 0 0).toNat 31 24 == op

/-- Opcode of a command slot. -/
def CmdSlot.op (x : CmdSlot) : Nat := bits (x.desc.getD 0 0).toNat 31 24

/-- Priority of the routine that starts with a command of an opcode (R420); none for a command of another unit, and for
RS_COMMIT, whose copy and walk are routines of their own. -/
def gnsPrio (op : Nat) : Option Nat :=
  if [0x23, 0x30, 0x31, 0x42, 0x60].contains op then some 1
  else if [0x22, 0x40, 0x41].contains op then some 0 else none

/-- A slot put into a list in issue order. -/
def insIssue (d : Dev) (k : Nat) : List Nat → List Nat
  | [] => [k]
  | j :: r => if (d.slot k).order < (d.slot j).order then k :: j :: r else j :: insIssue d k r

/-- The slots of this device's accepted commands of an opcode that have not started, in issue order. -/
def waitingSlots (d : Dev) (op : Nat) : List Nat :=
  (d.cmd.slots.filterMap (fun kv =>
    if kv.2.used && !kv.2.running && !kv.2.finished && kv.2.member.isNone && kv.2.op == op then some kv.1 else none)).foldl
    (fun l k => insIssue d k l) []

/-- A Gneiss command issued before slot k's keeps it back: one of its priority that has not started, or whose routine is an
X_FLUSH or a P_UPDATE under way, or a PATCH_LOAD (R420, R424). -/
def gnsBehind (d : Dev) (k : Nat) : Bool :=
  d.cmd.slots.any (fun kv => kv.2.used && !kv.2.finished && kv.2.member.isNone &&
    decide (kv.2.order < (d.slot k).order) && (!kv.2.running || kv.2.op == 0x22 || kv.2.op == 0x23) &&
    (kv.2.op == 0x60 || ((gnsPrio kv.2.op).isSome && gnsPrio kv.2.op == gnsPrio (d.slot k).op)))

/-- A PATCH_LOAD issued before slot k's command waits to start: what was issued later waits behind it (R424). -/
def patchAhead (d : Dev) (k : Nat) : Bool := (waitingSlots d 0x60).any (fun j => decide ((d.slot j).order < (d.slot k).order))

/-- The same for a command that runs on Gneiss, which has not stopped (R413): commands run in issue order. -/
def gnsStart (d : Dev) (k op : Nat) : Bool := canStart d k op && !d.gns.dead && !(gnsBehind d k)

/-- Slot k's command has started and has not finished. -/
def isRunning (d : Dev) (k : Nat) : Bool := (d.slot k).used && (d.slot k).running

/-- Slot k's command starts. -/
def cmdRun (k : Nat) (d : Dev) : Dev := d.setSlot k { d.slot k with running := true }

/-- The opcodes of R397. -/
def knownOpcodes : List Nat :=
  [0x01, 0x02, 0x10, 0x11, 0x20, 0x21, 0x22, 0x23, 0x24, 0x25, 0x30, 0x31, 0x32, 0x33, 0x40, 0x41, 0x42, 0x50, 0x60]

/-- A free slot taken for a descriptor, its generation advanced: the command is accepted now. -/
def takeSlot (e : Env) (k : Nat) (desc : List Word) (member : Option Nat) (forHead : Bool) (d : Dev) : Dev :=
  let x : CmdSlot := { gen := ((d.slot k).gen + 1) % 16, used := true, desc := desc, order := d.cmd.issued,
                       acceptAt := e.ltNs, member := member, forHead := forHead }
  let d := d.setSlot k x
  { d with cmd := { d.cmd with issued := d.cmd.issued + 1 } }

/-! ## The head (R402, R405-R407) -/

/-- What the head keeps of member m. -/
def Dev.memb (d : Dev) (m : Nat) : MembSt := tget {} d.cmd.memb m
/-- What the head keeps of member m, replaced. -/
def Dev.setMemb (d : Dev) (m : Nat) (x : MembSt) : Dev := { d with cmd := { d.cmd with memb := tput d.cmd.memb m x } }

/-- A command frame sent for the command in member slot ms. -/
def sendMember (e : Env) (m ms : Nat) (d : Dev) : Dev :=
  match tfind (d.memb m).out ms with
  | none => d
  | some o =>
    let c := headCounter e d
    battenSend e m 1 c.1 (o.gen * 256 + ms) ((d.slot o.slot).desc.flatMap (fun w => natBE 4 w.toNat)) c.2

/-- The lowest member slot that is free, from ms on. -/
def freeMslot : Tbl MSlot → Nat → Nat
  | [], k => k
  | (j, _) :: r, k => if k < j then k else freeMslot r (j + 1)

/-- Queued commands of member m sent in issue order while member slots are free (R407). -/
def memberPump (e : Env) (m : Nat) : Nat → Dev → Dev
  | 0, d => d
  | n + 1, d =>
    let x := d.memb m
    let ms := freeMslot x.out 0
    match x.queue with
    | [] => d
    | k :: rest =>
      if 256 ≤ ms then d else
        let g := (tget 0 x.gens ms + 1) % 16
        let o : MSlot := { slot := k, gen := g, sentAt := e.third, resends := 0, acked := false }
        let d := d.setMemb m { x with queue := rest, out := tput x.out ms o, gens := tset 0 x.gens ms g }
        memberPump e m n (sendMember e m ms d)

/-- A member slot given back, and the queue moved on. -/
def freeMember (e : Env) (m ms : Nat) (d : Dev) : Dev :=
  let x := d.memb m
  let d := d.setMemb m { x with out := tdel x.out ms }
  memberPump e m x.queue.length d

/-- Device m is a member (CMD_GRP_MEMBER). -/
def isMember (e : Env) (m : Nat) : Bool := bit (e.reg 0x200104 + 2 ^ 32 * e.reg 0x200108) m

/-- A descriptor issued into slot k (R391, R392, R402): a local command waits for its unit, a member's command is
queued for it, and anything else completes REJECTED; so does SET_DEVID for a member (R397). -/
def acceptCmd (e : Env) (k : Nat) (desc : List Word) (d : Dev) : Dev :=
  let w0 := (desc.getD 0 0).toNat
  let t := bits w0 5 0
  if t = devId e then
    let d := takeSlot e k desc none false d
    if knownOpcodes.contains (bits w0 31 24) then d else cmdFinish e k stRejected [] d
  else if isHead e && isMember e t && (battenKey e d t).isSome && bits w0 31 24 != 0x02 then
    let d := takeSlot e k desc (some t) false d
    let x := d.memb t
    memberPump e t (x.queue.length + 1) (d.setMemb t { x with queue := x.queue ++ [k] })
  else cmdFinish e k stRejected [] (takeSlot e k desc none false d)

/-- The reason a command would be refused for, 0 none; the lowest of those that hold (R391). The memory self-test
refuses as a rebuild does, and so does a start-up that failed (R450). -/
def issueReason (e : Env) (d : Dev) : Nat :=
  if 4096 ≤ freeSlot d.cmd.slots 0 then 1
  else if d.cmd.rebuilding || d.pwr.bistRun || d.pwr.phase == 0 then 2 else if cplSize e = 0 then 3 else 0

/-- A command issued: what CMD_ISSUE returns (R391). -/
def issueOp (e : Env) (desc : List Word) (d : Dev) : Nat × Dev :=
  let r := issueReason e d
  if r ≠ 0 then (r * 2 ^ 28, d) else
    let k := freeSlot d.cmd.slots 0
    let h := ((d.slot k).gen + 1) % 16 * 4096 + k
    (2 ^ 31 + h, acceptCmd e k desc d)

/-- CMD_STAGE. -/
def staged (e : Env) : List Word := (List.range 16).map (fun w => w32 (e.reg (0x200000 + 4 * w)))

/-- CMD_ISSUE read (R391). -/
def cmdIssueOp (s : State) : State :=
  let r := issueOp s.env (staged s.env) s.dev
  { s with dev := { r.2 with mgmt := { r.2.mgmt with readData := r.1 } } }

/-- COMMAND_RING_FETCH (R392): `desc` is the descriptor that stands at CMD_RING_HEAD. -/
def ringFetchOp (desc : List Word) (s : State) : State :=
  let e := s.env
  let n := ringSize (e.f 0x200078 3 0)
  let h := s.dev.cmd.ringHead % n
  if n = 0 ∨ h = e.f 0x20007C 12 0 % n then s
  else if issueReason e s.dev = 1 ∨ issueReason e s.dev = 2 then s
  else
    let r := issueOp e desc s.dev
    let base := e.reg 0x200070 + 2 ^ 32 * e.reg 0x200074
    { s with
      host := mwrite s.host (base + 64 * h + 8) (natLE 4 r.1)
      dev := { r.2 with cmd := { r.2.cmd with ringHead := (h + 1) % n } } }

/-! ## Batten reception (R403, R405-R408) -/

/-- Bytes of a Batten body by type; none for a type R404 does not list. -/
def battenLen (type : Nat) : Option Nat :=
  if type = 1 then some 64 else if type = 2 then some 32 else if type = 3 ∨ type = 4 then some 0 else none

/-- A frame the pre-parser intercepts (R403): its bytes without FCS. -/
def isBatten (e : Env) (l : List Byte) : Bool :=
  be16 l 12 == e.f 0x200110 31 16 && slice l 0 6 == battenMac e (devId e) && beAt l 17 1 == devId e

/-- An epoch completion (R399, R408) for slots it voids. -/
def epochCpl (devid cause : Nat) (slots : List Nat) : Cpl :=
  { slots := slots, handle := 0, status := stDiscarded, devid := devid, tag := 0, opcode := 0xFF, irq := false,
    results := [w32 cause] }

/-- A member accepts a command, or answers for one it has accepted already (R406). -/
def memberAccept (e : Env) (ms gen : Nat) (body : List Byte) (d : Dev) : Dev :=
  let again := match tfind d.cmd.accepted ms with
    | some a => if a.gen = gen then some a else none
    | none => none
  match again with
  | some a =>
    let d := battenReply e 3 (gen * 256 + ms) [] d
    match a.body with
    | some b => battenReply e 2 (gen * 256 + ms) b d
    | none => d
  | none =>
    let k := freeSlot d.cmd.slots 0
    if 4096 ≤ k then d else
      let desc := (List.range 16).map (fun i => w32 (beAt body (4 * i) 4))
      let d := takeSlot e k desc none true d
      let a : Accepted := { gen := gen, slot := k, body := none }
      let d := { d with cmd := { d.cmd with accepted := tput d.cmd.accepted ms a } }
      let d := battenReply e 3 (gen * 256 + ms) [] d
      if knownOpcodes.contains (bits (desc.getD 0 0).toNat 31 24) then d else cmdFinish e k stRejected [] d

/-- The head takes a member's completion, acknowledgement or epoch notice (R406-R408). -/
def headAccept (e : Env) (m type ms gen : Nat) (body : List Byte) (d : Dev) : Dev :=
  let x := d.memb m
  if type = 4 then
    let void := d.cmd.slots.filterMap (fun kv =>
      if kv.2.used && !kv.2.finished && kv.2.member == some m then some kv.1 else none)
    let d := void.foldl (fun d k => d.setSlot k { d.slot k with finished := true }) d
    let d := d.setMemb m { x with out := [], queue := [] }
    { d with cmd := { d.cmd with cpls := d.cmd.cpls ++ [epochCpl m 0 void] } }
  else
    match tfind x.out ms with
    | none => d
    | some o =>
      if o.gen ≠ gen then d
      else if type = 3 then d.setMemb m { x with out := tput x.out ms { o with acked := true } }
      else
        let rs := (List.range 5).map (fun i => beAt body (12 + 4 * i) 4)
        freeMember e m ms (cmdFinish e o.slot (bits (beAt body 0 4) 26 24) rs d)

/-- An intercepted Batten frame: `b` begins behind the Ethertype. The tag is checked first, then the counter
(R405). -/
def battenTake (e : Env) (b : List Byte) (d : Dev) : Dev :=
  let type := beAt b 1 1
  let src := beAt b 2 1
  let dst := beAt b 3 1
  let ctr := beAt b 4 6
  let ms := beAt b 10 2
  match battenLen type with
  | none => d
  | some n =>
    if beAt b 0 1 ≠ 1 ∨ b.length < 28 + n ∨ dst ≠ devId e ∨ !(takesFrames e d) then d else
      let good := match battenKey e d src with
        | some key => slice b (12 + n) 16 == gmac key (battenIv type src dst ctr) (b.take (12 + n))
        | none => false
      let last := if isHead e then (d.memb src).last else d.cmd.lastHead
      if !good then raiseEv e 137 2 d
      else if ctr ≤ last then raiseEv e 137 3 d
      else
        let body := slice b 12 n
        if isHead e then
          let d := d.setMemb src { d.memb src with last := ctr }
          if type = 1 then d else headAccept e src type (ms % 256) (bits ms 11 8) body d
        else
          let d := { d with cmd := { d.cmd with
            lastHead := ctr
            headId := src
            membCnt := if ctr / 2 ^ 24 = d.cmd.lastHead / 2 ^ 24 then d.cmd.membCnt else 0 } }
          if type = 1 then memberAccept e (ms % 256) (bits ms 11 8) body d else d

/-- BATTEN_RETRY of the member command in slot k (R406). -/
def battenRetryOp (e : Env) (k : Nat) (d : Dev) : Dev :=
  match (d.slot k).member with
  | none => d
  | some m =>
    let x := d.memb m
    match x.out.find? (fun kv => kv.2.slot == k) with
    | none => d
    | some (ms, o) =>
      if o.acked || decide (e.third < o.sentAt + us (max 1 (e.f 0x200120 31 16))) then d
      else if o.resends < e.f 0x200120 3 0 then
        let o := { o with sentAt := e.third, resends := o.resends + 1 }
        sendMember e m ms (d.setMemb m { x with out := tput x.out ms o })
      else freeMember e m ms (raiseEv e 137 4 (cmdFinish e k stTimeout [] d))

/-! ## NOP and SET_DEVID (R397, R402) -/

/-- NOP. -/
def nopOp (e : Env) (k : Nat) (d : Dev) : Dev := if canStart d k 0x01 then cmdFinish e k stOk [] d else d

/-- SET_DEVID. -/
def setDevidOp (k : Nat) (s : State) : State :=
  if !(canStart s.dev k 0x02) then s else
    let e := s.env.setReg 0x200100 (setBits (s.env.reg 0x200100) 5 0 (bits (argWord s.dev k 4) 5 0))
    { s with env := e, dev := cmdFinish e k stOk [] s.dev }

/-! ## Meanings -/

/-- CMD_ISSUE -/
def execCmdIssue (s : State) : Host.Outcome State Fault Refusal := .next (cmdIssueOp s)

/-- COMMAND_RING_FETCH -/
def execCommandRingFetch (desc : List Word) (s : State) : Host.Outcome State Fault Refusal :=
  .next (ringFetchOp desc s)

/-- COMPLETION_POST -/
def execCompletionPost (s : State) : Host.Outcome State Fault Refusal := .next (postOp s)

/-- NOP -/
def execNop (slot : Fin 4096) (s : State) : Host.Outcome State Fault Refusal :=
  .next { s with dev := nopOp s.env slot.val s.dev }

/-- SET_DEVID -/
def execSetDevid (slot : Fin 4096) (s : State) : Host.Outcome State Fault Refusal := .next (setDevidOp slot.val s)

/-- BATTEN_FRAME_RECEIVE: the interception of a frame received in block `blk` on port `inPort`, whose bytes behind
the Ethertype are `body`. -/
def execBattenFrameReceive (_ : Fin 16) (_ : Fin 97) (body : List Byte) (s : State) :
    Host.Outcome State Fault Refusal :=
  .next { s with dev := battenTake s.env body s.dev }

/-- BATTEN_RETRY -/
def execBattenRetry (slot : Fin 4096) (s : State) : Host.Outcome State Fault Refusal :=
  .next { s with dev := battenRetryOp s.env slot.val s.dev }

end Sys2Proof.Machine
end

