-- ==== Sys2Proof/Machine/Slate.lean ====
section
/-! DEFINITION. Slate (chapter 07): parity and its log, Slate-X with the learning engine, ageing and locks, Slate-D,
and the scrubber. Slate-P is in SlateP. -/
namespace Sys2Proof.Machine

/-! ## Parity (R195-R197) -/

/-- Table codes of SLT_ERR_LOG. -/
def tabX : Nat := 0
def tabRoot : Nat := 1
def tabNode : Nat := 2
def tabRes : Nat := 3
def tabT : Nat := 4
def tabD : Nat := 5

/-- Key of an entry of a table other than Slate-X. -/
def parKey (table idx : Nat) : Nat := 2 ^ 22 * table + idx

/-- A first detection: an error-log record, and slate_parity (R195, R196). -/
def parLog (e : Env) (table idx source : Nat) (d : Dev) : Dev :=
  let n := (d.evCnt 128 3).toNat % 16
  let w0 := table * 2 ^ 29 + source * 2 ^ 28 + idx
  let log := tset 0 (tset 0 d.slate.errLog (2 * n) w0) (2 * n + 1) (e.ltNs % 2 ^ 32)
  raiseEv e 128 3 { d with slate := { d.slate with errLog := log } }

/-- Slate-X slot i. -/
def Dev.xSlot (d : Dev) (i : Nat) : XSlot := tget {} d.slate.x i
/-- Slate-X slot i replaced. -/
def Dev.setX (d : Dev) (i : Nat) (x : XSlot) : Dev := { d with slate := { d.slate with x := tset {} d.slate.x i x } }

/-- Slate-X slot i read: one that fails parity is poisoned and logged at the first detection (R195). -/
def xParity (e : Env) (source i : Nat) (d : Dev) : Dev :=
  let x := d.xSlot i
  if x.parBad && !x.poison then parLog e tabX i source (d.setX i { x with poison := true }) else d

/-- An entry of another table fails parity. -/
def parFails (d : Dev) (table idx : Nat) : Bool := tget false d.slate.parBad (parKey table idx)

/-- An entry of another table read (R195). -/
def entryParity (e : Env) (source table idx : Nat) (d : Dev) : Dev :=
  let k := parKey table idx
  if parFails d table idx && !(tget false d.slate.poison k) then
    parLog e table idx source { d with slate := { d.slate with poison := tset false d.slate.poison k true } }
  else d

/-- An entry written anew: its parity is right and its poison gone (R195). -/
def entryFresh (table idx : Nat) (x : SlateSt) : SlateSt :=
  { x with parBad := tdel x.parBad (parKey table idx), poison := tdel x.poison (parKey table idx) }

/-- Entries of the scrubber's pass (R197): table and index of position n. -/
def scrubEntry (n : Nat) : Nat × Nat :=
  if n < 1048576 then (tabX, n)
  else if n < 1081344 then (tabT, n - 1048576)
  else if n < 1605632 then (tabD, n - 1081344)
  else if n < 2654208 then (tabRoot, n - 1605632)
  else if n < 5799936 then (tabNode, n - 2654208)
  else (tabRes, n - 5799936)

/-- An entry's stored parity no longer fits its contents. -/
def parHurt (t : Nat × Nat) (d : Dev) : Dev :=
  if t.1 = tabX then d.setX t.2 { d.xSlot t.2 with parBad := true }
  else { d with slate := { d.slate with parBad := tset false d.slate.parBad (parKey t.1 t.2) true } }

/-- SCRUB_READ (R197): the next entry, once the gap has passed. Whether its parity has been upset is a free value
(assumption 43). -/
def scrubOp (e : Env) (d : Dev) : Dev :=
  let gap := max 16 (e.f 0x700400 31 16)
  if !(e.b 0x700400 0) || decide (e.third < d.slate.scrubTime + 2 * gap) then d else
    let t := scrubEntry d.slate.scrubAt
    let d := { d with slate := { d.slate with scrubAt := (d.slate.scrubAt + 1) % 6586368, scrubTime := e.third } }
    let d := if Config.parityUpset d.free then parHurt t d else d
    let d := { d with free := d.free + 1 }
    if t.1 = tabX then xParity e 1 t.2 d else entryParity e 1 t.1 t.2 d

/-! ## Hashing (R176) -/

/-- Key width of profile k. -/
def xWidth (e : Env) (k : Nat) : Nat :=
  let w := e.f (0x700000 + 8 * k) 7 0
  if w = 0 ∨ 128 < w then 128 else w

/-- A key cut to its profile's width. -/
def xKey (e : Env) (k key : Nat) : Nat := key % 2 ^ xWidth e k

/-- A CRC with a seed XORed into its initial value. -/
def crcSeed (poly seed : Nat) (l : List Byte) : Nat :=
  (l.foldl (crcByte poly) (0xFFFFFFFF ^^^ seed)) ^^^ 0xFFFFFFFF

/-- The bucket of key K of profile k in a way. -/
def xBucket (e : Env) (way k key : Nat) : Nat :=
  let l := BitVec.ofNat 8 k :: natBE 16 key
  if way = 0 then crcSeed 0x82F63B78 0 l % 2 ^ 17 else crcSeed 0xEDB88320 (e.reg (0x700004 + 8 * k)) l % 2 ^ 17

/-- Slot number. -/
def xIndex (way bucket slot : Nat) : Nat := (131072 * way + bucket) * 4 + slot

/-- The four slots of a bucket. -/
def xSlots (way bucket : Nat) : List Nat := [0, 1, 2, 3].map (xIndex way bucket)

/-- The eight candidate slots of a key, way 0 first (R178). -/
def xCand (e : Env) (k key : Nat) : List Nat := xSlots 0 (xBucket e 0 k key) ++ xSlots 1 (xBucket e 1 k key)

/-- The slot holds K for profile k. -/
def xHolds (x : XSlot) (k key : Nat) : Bool := x.valid && x.profile == k && x.key == key

/-- A lookup cannot use the slot's contents (R195). -/
def XSlot.bad (x : XSlot) : Bool := x.poison || x.parBad

/-- The slot that answers a lookup, if any (R178). -/
def xMatch (e : Env) (d : Dev) (k key : Nat) : Option Nat :=
  (xCand e k key).find? (fun i => xHolds (d.xSlot i) k key && !(d.xSlot i).bad)

/-- The slot in which a key is stored, if any: valid and unpoisoned (R181). -/
def xFind (e : Env) (d : Dev) (k key : Nat) : Option Nat :=
  (xCand e k key).find? (fun i => xHolds (d.xSlot i) k key && !(d.xSlot i).poison)

/-- An lkx: the result, whether it missed, and whether a parity error caused the miss (R178, R195). -/
def xLookup (e : Env) (k key : Nat) (d : Dev) : (Nat × Bool × Bool) × Dev :=
  let key := xKey e k key
  let cand := xCand e k key
  let hurt := cand.any (fun i => (d.xSlot i).parBad)
  let lost := cand.any (fun i => (d.xSlot i).bad && xHolds (d.xSlot i) k key)
  let hit := xMatch e d k key
  let d := if hurt then cand.foldl (fun d i => xParity e 0 i d) (bumpDev e 10 1 none d) else d
  match hit with
  | some i =>
    let x := d.xSlot i
    ((x.result, false, false), d.setX i { x with activity := true })
  | none => ((0, true, lost), d)

/-! ## Locks (R198, R199) -/

/-- Key of a lock. -/
def lockKey (way region : Nat) : Nat := 32 * way + region

/-- The lock of a slot's region is in effect. -/
def xLocked (d : Dev) (i : Nat) : Bool := thas d.slate.held (i / 4 / 4096)

/-- A write of SLT_LOCK(way) has landed: bits newly 1 wait to take effect, bits in effect run their 10 ms anew,
bits now 0 are released. -/
def lockLanded (e : Env) (way : Nat) (d : Dev) : Dev :=
  let w := e.reg (0x700300 + 4 * way)
  (List.range 32).foldl (fun d r =>
    let k := lockKey way r
    let s := d.slate
    if bit w r then
      if thas s.held k then { d with slate := { s with held := tput s.held k e.third } }
      else if s.lockWait.contains k then d
      else { d with slate := { s with lockWait := s.lockWait ++ [k] } }
    else { d with slate := { s with held := tdel s.held k, lockWait := s.lockWait.filter (· != k) } }) d

/-- LOCK_EFFECT: a lock requested takes effect, between moves. -/
def lockEffectOp (e : Env) (k : Nat) (d : Dev) : Dev :=
  if d.slate.lockWait.contains k then
    { d with slate := { d.slate with lockWait := d.slate.lockWait.filter (· != k), held := tput d.slate.held k e.third } }
  else d

/-- SLATE_LOCK_EXPIRED: 10 ms have run (R199). -/
def lockExpiredOp (way region : Nat) (s : State) : State :=
  let k := lockKey way region
  match tfind s.dev.slate.held k with
  | none => s
  | some t =>
    if s.env.third < t + ms 10 then s else
      let off := 0x700300 + 4 * way
      let e := s.env.setReg off (setBits (s.env.reg off) region region 0)
      { s with env := e, dev := raiseEv e 128 4 { s.dev with slate := { s.dev.slate with held := tdel s.dev.slate.held k } } }

/-! ## The learning engine (R180-R185) -/

/-- A LEARN or host request queued: block queues hold 1,024 (R180). -/
def learnPost (e : Env) (b : Nat) (r : LearnReq) (d : Dev) : Dev :=
  if 1024 ≤ (d.blk b).learnQ.length then bumpBlk e b 68 1 none d
  else d.onBlk b (fun x => { x with learnQ := x.learnQ ++ [r] })

/-- Slot i is usable for an entry (R182). -/
def xUsable (d : Dev) (i : Nat) : Bool := !(d.xSlot i).valid && !(d.xSlot i).poison && !(xLocked d i)

/-- Slot i's entry may be moved (R182). -/
def xMovable (d : Dev) (i : Nat) : Bool := (d.xSlot i).valid && !(d.xSlot i).poison && !(xLocked d i)

/-- Way of a slot. -/
def wayOf (i : Nat) : Nat := i / 524288

/-- The slots of the alternate bucket of the entry in slot i. -/
def xAlt (e : Env) (d : Dev) (i : Nat) : List Nat :=
  let x := d.xSlot i
  let w := 1 - wayOf i
  xSlots w (xBucket e w x.profile x.key)

/-- The breadth-first search of R182: fuel, bucket reads so far, buckets visited (by their first slot), and the
occupants to look at, each with the moves that lead to it, deepest first. The answer lists the moves in the order
in which they are made. -/
def xSearch (e : Env) (d : Dev) : Nat → Nat → List Nat → List (Nat × List Nat) → Option (List (Nat × Nat))
  | 0, _, _, _ => none
  | _, _, _, [] => none
  | n + 1, reads, seen, (i, path) :: rest =>
    let alt := xAlt e d i
    let b := alt.headD 0
    if seen.contains b then xSearch e d n reads seen rest
    else if 170 ≤ reads then none
    else
      match alt.find? (xUsable d) with
      | some t => some ((i :: path).zip (t :: i :: path))
      | none =>
        let next := if path.length < 3 then (alt.filter (xMovable d)).map (fun j => (j, i :: path)) else []
        xSearch e d n (reads + 1) (b :: seen) (rest ++ next)

/-- One move (R182, R183): the entry is copied and the old slot invalidated. -/
def xMove (e : Env) (d : Dev) (m : Nat × Nat) : Dev :=
  let x := d.xSlot m.1
  bumpDev e 8 1 none ((d.setX m.2 x).setX m.1 { x with valid := false })

/-- Insertion of an entry (R182): none when it fails. At most one search is needed here, because no lock can take
effect inside the step. -/
def xInsertEntry (e : Env) (x : XSlot) (d : Dev) : Option Dev :=
  let cand := xCand e x.profile x.key
  match cand.find? (xUsable d) with
  | some i => some (d.setX i x)
  | none =>
    let seen := [xIndex 0 (xBucket e 0 x.profile x.key) 0, xIndex 1 (xBucket e 1 x.profile x.key) 0]
    match xSearch e d 1024 2 seen ((cand.filter (xMovable d)).map (fun i => (i, []))) with
    | none => none
    | some path =>
      let d := path.foldl (xMove e) d
      match cand.find? (xUsable d) with
      | some i => some (d.setX i x)
      | none => none

/-- Twin mark of a Slate-X entry learned, refreshed (order 5) or aged out (order 6) (R371). -/
def xMark (e : Env) (o k key : Nat) (d : Dev) : Dev := twinMark e o (k * 2 ^ 128 + key) d

/-- A request of the learning engine whose locks have been judged: a LEARN of block b, or a host insert (R181). -/
def learnStore (e : Env) (b : Option Nat) (r : LearnReq) (d : Dev) : Nat × Dev :=
  match xFind e d r.profile r.key with
  | some i =>
    let x := d.xSlot i
    if b.isSome && x.static then (stOk, bumpBlk e (b.getD 0) 70 1 none d)
    else
      let x := { x with result := r.result, activity := true, idle := 0, parBad := false
                        static := if b.isSome then x.static else r.static }
      (stOk, xMark e 5 r.profile r.key (bumpDev e 7 1 none (d.setX i x)))
  | none =>
    let x : XSlot := { key := r.key, result := r.result, valid := true, activity := true, profile := r.profile,
                       static := r.static }
    match xInsertEntry e x d with
    | some d => (stOk, xMark e 5 r.profile r.key (bumpDev e 6 1 none d))
    | none => (stNoRoom, raiseEv e 128 5 d)

/-- A host delete whose locks have been judged (R200). -/
def learnDelete (e : Env) (r : LearnReq) (d : Dev) : Nat × Dev :=
  match xFind e d r.profile r.key with
  | some i => (1, d.setX i { d.xSlot i with valid := false })
  | none => (0, d)

/-- The locks stop a request: its key is stored in a locked bucket, or is not stored and both candidate buckets are
locked (R181). -/
def learnLocked (e : Env) (d : Dev) (k key : Nat) : Bool :=
  match xFind e d k key with
  | some i => xLocked d i
  | none => (xCand e k key).all (xLocked d)

/-- A twin record that could not be applied (R371). -/
def applyFail (d : Dev) : Dev := { d with twin := { d.twin with applyFail := (d.twin.applyFail + 1) % 2 ^ 32 } }

/-- The full copy has been applied once none of its records waits: the standby is eligible, and paired (R372). -/
def copySettle (d : Dev) : Dev :=
  if d.twin.copyLeft = some 0 then { d with twin := { d.twin with copyLeft := none, eligible := true, state := 3 } } else d

/-- A learn or age-out record of the state copy has been served. -/
def copyServed (d : Dev) : Dev :=
  copySettle { d with twin := { d.twin with copyLeft := d.twin.copyLeft.map (· - 1) } }

/-- A learn or age-out record served at the standby (R371): an insert that fails is counted as a host insert is, and in
TWN_APPLY_FAIL_CNT. -/
def twinServe (e : Env) (r : LearnReq) (d : Dev) : Dev :=
  let locked := learnLocked e d r.profile r.key
  if r.op = 4 then if locked then d else (learnDelete e r d).2
  else if locked then applyFail (bumpBlk e 0 71 1 none d)
  else
    let a := learnStore e none r d
    if a.1 = stOk then a.2 else applyFail a.2

/-- A request served (R181). `b` is the requesting block, none for the host queue. A host insert that a lock stops advances
block 0's SLT_LRN_LOCK_CNT: the manual gives a host request no instance (DESIGN CHOICE, assumption 102). -/
def learnServe (e : Env) (b : Option Nat) (r : LearnReq) (d : Dev) : Dev :=
  let r := { r with key := xKey e r.profile r.key }
  match b with
  | some b =>
    if !(e.b (0x700000 + 8 * r.profile) 24) then bumpBlk e b 69 1 none d
    else if learnLocked e d r.profile r.key then bumpBlk e b 71 1 none d
    else (learnStore e (some b) r d).2
  | none =>
    if 3 ≤ r.op then copyServed (twinServe e r d)
    else if learnLocked e d r.profile r.key then
      cmdFinish e r.slot stRejected [] (if r.op = 1 then bumpBlk e 0 71 1 none d else d)
    else if r.op = 2 then
      let a := learnDelete e r d
      cmdFinish e r.slot stOk [a.1] a.2
    else
      let a := learnStore e none r d
      cmdFinish e r.slot a.1 [] a.2

/-- The queue served next: the first that is not empty from the pointer on (R180). -/
def learnNext (d : Dev) : Option Nat :=
  ((List.range 17).map (fun i => (d.slate.learnRr + i) % 17)).find? (fun q =>
    if q = 16 then !d.slate.hostQ.isEmpty else !(d.blk q).learnQ.isEmpty)

/-- The 128-bit key of argument words 5 to 8, most significant first (R397). -/
def argKey (d : Dev) (k : Nat) : Nat := [5, 6, 7, 8].foldl (fun a i => a * 2 ^ 32 + argWord d k i) 0

/-- X_INSERT: the request joins the host queue (R180, R200). -/
def xInsertOp (k : Nat) (d : Dev) : Dev :=
  if !(canStart d k 0x20) then d else
    let w4 := argWord d k 4
    let r : LearnReq := { profile := bits w4 3 0, key := argKey d k, result := argWord d k 9 + 2 ^ 32 * argWord d k 10,
                          op := 1, static := bit w4 4, slot := k }
    cmdRun k { d with slate := { d.slate with hostQ := d.slate.hostQ ++ [r] } }

/-- X_DELETE: the request joins the host queue. -/
def xDeleteOp (k : Nat) (d : Dev) : Dev :=
  if !(canStart d k 0x21) then d else
    let r : LearnReq := { profile := bits (argWord d k 4) 3 0, key := argKey d k, result := 0, op := 2, slot := k }
    cmdRun k { d with slate := { d.slate with hostQ := d.slate.hostQ ++ [r] } }

/-- Slot goes in a flush: of the profile, unlocked, its masked result the value, static only if asked (R200). -/
def xFlushes (d : Dev) (prof value mask : Nat) (static : Bool) (i : Nat) (x : XSlot) : Bool :=
  x.valid && !x.poison && x.profile == prof && (x.result &&& mask) == value && (static || !x.static) && !(xLocked d i)

/-- X_FLUSH: Gneiss starts its walk over all buckets (R200). -/
def xFlushOp (e : Env) (k : Nat) (d : Dev) : Dev :=
  if !(gnsStart d k 0x22) || d.slate.flush.isSome then d
  else cmdRun k { d with slate := { d.slate with flush := some { slot := k, since := e.third } } }

/-- The slots of buckets lo up to hi that go in the flush of command slot k. -/
def flushGo (d : Dev) (k lo hi : Nat) : List Nat :=
  let w4 := argWord d k 4
  d.slate.x.filterMap (fun kv =>
    if lo ≤ kv.1 / 4 ∧ kv.1 / 4 < hi ∧ xFlushes d (bits w4 3 0) (argAddr d k 5) (argAddr d k 7) (bit w4 4) kv.1 kv.2 then
      some kv.1 else none)

/-- What a flush's walk has passed by now: a bucket in every 16 ns (R200); past the last, the command completes. -/
def flushTick (e : Env) (d : Dev) : Dev :=
  match d.slate.flush with
  | none => d
  | some f =>
    let hi := min 262144 ((e.third - f.since) / 48)
    if hi ≤ f.next || d.gns.dead then d else
      let go := flushGo d f.slot f.next hi
      let n := f.count + go.length
      let d := go.foldl (fun d i => d.setX i { d.xSlot i with valid := false }) d
      if hi < 262144 then { d with slate := { d.slate with flush := some { f with next := hi, count := n } } }
      else cmdFinish e f.slot stOk [n] { d with slate := { d.slate with flush := none } }

/-! ## Ageing (R188, R189) -/

/-- The device is a standby of a pair: it runs no ager of its own (R371). -/
def isStandby (e : Env) : Bool := e.b 0x1100000 31 && e.b 0x1100004 0

/-- AGEING_SWEEP_START: an epoch begins. -/
def sweepStartOp (e : Env) (d : Dev) : Dev :=
  let epoch := ms (max 10 (e.f 0x700100 31 16))
  if !(e.b 0x700100 0) || isStandby e || d.slate.sweep.isSome || decide (e.third < d.slate.epochStart + epoch) then d
  else { d with slate := { d.slate with sweep := some 0, epochStart := e.third } }

/-- The ager's work on one slot. -/
def ageSlot (e : Env) (d : Dev) (i : Nat) : Dev :=
  let x := d.xSlot i
  let lim := e.f (0x700000 + 8 * x.profile) 23 20
  if !x.valid || x.static || x.poison || lim == 0 || xLocked d i then d
  else if x.activity then d.setX i { x with activity := false, idle := 0 }
  else if x.idle + 1 = lim then
    xMark e 6 x.profile x.key (bumpDev e 9 1 none (d.setX i { x with valid := false }))
  else d.setX i { x with idle := (x.idle + 1) % 16 }

/-! ## Slate-D (R194) -/

/-- An lkd: word, miss, parity miss. -/
def dLookup (e : Env) (t idx : Nat) (d : Dev) : (Nat × Bool × Bool) × Dev :=
  let w := e.reg (0x700700 + 4 * t)
  let at_ := bits w 26 14 * 64 + idx
  if min (bits w 13 0) 8192 * 64 ≤ idx ∨ 524288 ≤ at_ then ((0, true, false), d)
  else if parFails d tabD at_ then ((0, true, true), entryParity e 0 tabD at_ (bumpDev e 10 1 none d))
  else ((tget 0 d.slate.d at_, false, false), d)

/-- A whole Slate-D word written. -/
def dPut (i v : Nat) (d : Dev) : Dev :=
  { d with slate := entryFresh tabD i { d.slate with d := tset 0 d.slate.d i v } }

/-- The low half of a Slate-D word staged. -/
def dStage (i v : Nat) (d : Dev) : Dev := { d with slate := { d.slate with dStage := some (i, v) } }

/-- The high half written: the whole word becomes visible, with the staged half if it was for the same word. -/
def dHigh (i v : Nat) (d : Dev) : Dev :=
  let lo := match d.slate.dStage with
    | some (j, l) => if j = i then l else tget 0 d.slate.d i % 2 ^ 32
    | none => tget 0 d.slate.d i % 2 ^ 32
  let d := dPut i (v * 2 ^ 32 + lo) d
  { d with slate := { d.slate with dStage := none } }

/-! ## Slate-X slots written by software (R177, R179) -/

/-- The 32 bytes of a slot as they read; the parity word is the device's own: it reads as a free value of the
contents. -/
def xBytes (x : XSlot) : List Byte :=
  let c := flagAt x.valid 31 + flagAt x.static 30 + flagAt x.activity 29 + flagAt x.poison 28 + x.profile * 2 ^ 24 +
    x.idle * 2 ^ 20
  let body := natBE 16 x.key ++ natBE 8 x.result ++ natLE 4 c
  body ++ natLE 4 (Config.parityWord (beNat body)).toNat

/-- Bytes 0-23 of slot i with the staged ones over them. -/
def xStaged (d : Dev) (i : Nat) : List Byte :=
  let old := (xBytes (d.xSlot i)).take 24
  (List.range 24).map (fun b => match tfind d.slate.xStage (32 * i + b) with
    | some v => v
    | none => old.getD b 0)

/-- A whole slot written: its bytes 0-23 and its control word. -/
def xWrite (i : Nat) (l : List Byte) (c : Nat) (d : Dev) : Dev :=
  d.setX i { key := beAt l 0 16, result := beAt l 16 8, valid := bit c 31, static := bit c 30, activity := bit c 29,
             profile := bits c 27 24, idle := bits c 23 20 }

/-- SLATE_X_CONTROL_WRITE: the control word with the staged bytes, in one cycle; refused outside a lock. -/
def xControl (e : Env) (i c : Nat) (d : Dev) : Dev :=
  let l := xStaged d i
  let d := { d with slate := { d.slate with xStage := d.slate.xStage.filter (fun kv => kv.1 / 32 != i) } }
  if xLocked d i then xWrite i l c d else bumpDev e 11 1 none d

/-- A 32-bit word of bytes 0-23 of slot i staged; refused outside a lock. -/
def xStageWord (e : Env) (i off v : Nat) (d : Dev) : Dev :=
  if xLocked d i then
    let st := (natLE 4 v).zipIdx.foldl (fun t bi => tput t (32 * i + off + bi.2) bi.1) d.slate.xStage
    { d with slate := { d.slate with xStage := st } }
  else bumpDev e 11 1 none d

/-! ## Meanings -/

/-- AGEING_SWEEP_START -/
def execAgeingSweepStart (s : State) : Host.Outcome State Fault Refusal :=
  .next { s with dev := sweepStartOp s.env s.dev }
/-- SCRUB_READ -/
def execScrubRead (s : State) : Host.Outcome State Fault Refusal :=
  .next { s with dev := scrubOp s.env s.dev }
/-- LOCK_EFFECT -/
def execLockEffect (way : Fin 2) (region : Fin 32) (s : State) : Host.Outcome State Fault Refusal :=
  .next { s with dev := lockEffectOp s.env (lockKey way.val region.val) s.dev }
/-- SLATE_LOCK_EXPIRED -/
def execSlateLockExpired (way : Fin 2) (region : Fin 32) (s : State) : Host.Outcome State Fault Refusal :=
  .next (lockExpiredOp way.val region.val s)
/-- X_INSERT -/
def execXInsert (slot : Fin 4096) (s : State) : Host.Outcome State Fault Refusal :=
  .next { s with dev := xInsertOp slot.val s.dev }
/-- X_DELETE -/
def execXDelete (slot : Fin 4096) (s : State) : Host.Outcome State Fault Refusal :=
  .next { s with dev := xDeleteOp slot.val s.dev }
/-- X_FLUSH -/
def execXFlush (slot : Fin 4096) (s : State) : Host.Outcome State Fault Refusal :=
  .next { s with dev := xFlushOp s.env slot.val s.dev }

end Sys2Proof.Machine
end

