-- ==== Sys2Proof/Machine/SlateP.lean ====
section
/-! DEFINITION. Slate-P (R190-R193): the lookup through a trie of leaf-pushed tables, and P_UPDATE, which builds
changed subtrees in free node memory and makes each visible by one write of its parent entry. Addresses of both
families stand left-aligned in 128 bits. -/
namespace Sys2Proof.Machine

/-! ## Lookup (R190, R191) -/

/-- Kind of an entry; 3 acts as 0. -/
def pKind (w : Nat) : Nat := if bits w 31 30 = 3 then 0 else bits w 31 30
/-- A leaf entry. -/
def pLeaf (r : Nat) : Nat := 2 ^ 30 + r
/-- A node entry. -/
def pNode (n : Nat) : Nat := 2 ^ 31 + n

/-- The root a VRF names for a family, if its map entry is valid. -/
def vrfRoot (d : Dev) (vrf : Nat) (v6 : Bool) : Option Nat :=
  let m := tget 0 d.slate.vrf (vrf % 4096)
  if bit m 15 then some (if v6 then bits m 7 4 else bits m 3 0) else none

/-- The walk from an entry that has been read: stages left, address, address bits consumed. Answer: result, miss,
parity miss. -/
def pWalk (e : Env) : Nat → Nat → Nat → Nat → Dev → (Nat × Bool × Bool) × Dev
  | 0, _, _, _, d => ((0, true, false), d)
  | n + 1, w, addr, used, d =>
    if pKind w = 1 then
      let r := bits w 19 0
      if parFails d tabRes r then ((0, true, true), entryParity e 0 tabRes r (bumpDev e 10 1 none d))
      else ((tget 0 d.slate.results r, false, false), d)
    else if pKind w = 2 then
      let i := bits w 13 0 * 256 + addr / 2 ^ (120 - used) % 256
      if parFails d tabNode i then ((0, true, true), entryParity e 0 tabNode i (bumpDev e 10 1 none d))
      else pWalk e n (tget 0 d.slate.nodes i) addr (used + 8) d
    else ((0, true, false), d)

/-- An lkp. -/
def pLookup (e : Env) (v6 : Bool) (addr vrf : Nat) (d : Dev) : (Nat × Bool × Bool) × Dev :=
  match vrfRoot d vrf v6 with
  | none => ((0, true, false), d)
  | some root =>
    let a := if v6 then addr else addr * 2 ^ 96
    let i := root * 65536 + a / 2 ^ 112
    if parFails d tabRoot i then ((0, true, true), entryParity e 0 tabRoot i (bumpDev e 10 1 none d))
    else pWalk e (if v6 then 15 else 3) (tget 0 d.slate.roots i) a 16 d

/-! ## P_UPDATE (R192, R193) -/

/-- Prefix of len bits, at most, that two addresses share. -/
def pCovers (pfx len addr : Nat) : Bool := pfx / 2 ^ (128 - len) == addr / 2 ^ (128 - len)

/-- The leaf that covers a whole position of `used` bits: the longest route no longer than that. -/
def pDefault (rs : List Route) (base used : Nat) : Nat :=
  let l := rs.filter (fun r => decide (r.len ≤ used) && pCovers r.pfx r.len base)
  match l.foldl (fun (a : Option Route) r => match a with
      | none => some r
      | some b => if b.len < r.len then some r else a) none with
  | none => 0
  | some r => pLeaf r.result

/-- Routes longer than `used` bits inside a position. -/
def pInner (rs : List Route) (base used : Nat) : List Route :=
  rs.filter (fun r => decide (used < r.len) && pCovers base used r.pfx)

/-- Routes that bear on a position: those inside it and those that cover it. -/
def pNear (rs : List Route) (base used : Nat) : List Route :=
  rs.filter (fun r => if r.len ≤ used then pCovers r.pfx r.len base else pCovers base used r.pfx)

/-- A node taken from the free ones, if there is one. -/
def pTake (x : SlateSt) : Option (Nat × SlateSt) :=
  let n := lowestFree x.nodeUsed 0
  if 12288 ≤ n then none else some (n, { x with nodeUsed := insertAsc x.nodeUsed n })

/-- A node entry written. -/
def pPutNode (i w : Nat) (x : SlateSt) : SlateSt := entryFresh tabNode i { x with nodes := tset 0 x.nodes i w }

/-- A subtree built in free nodes: fuel, routes, position. -/
def pBuild : Nat → List Route → Nat → Nat → SlateSt → Option (Nat × SlateSt)
  | 0, rs, base, used, x => some (pDefault rs base used, x)
  | fuel + 1, rs, base, used, x =>
    if (pInner rs base used).isEmpty then some (pDefault rs base used, x) else
      match pTake x with
      | none => none
      | some (n, x) =>
        (List.range 256).foldl (fun (a : Option (Nat × SlateSt)) i =>
          a.bind (fun a =>
            let pos := base + i * 2 ^ (120 - used)
            (pBuild fuel (pNear rs pos (used + 8)) pos (used + 8) a.2).map
              (fun r => (a.1, pPutNode (n * 256 + i) r.1 r.2)))) (some (pNode n, x))

/-- The nodes of a subtree. -/
def pNodesOf : Nat → Nat → SlateSt → List Nat
  | 0, _, _ => []
  | fuel + 1, w, x =>
    if pKind w = 2 then
      let n := bits w 13 0
      n :: (List.range 256).flatMap (fun i => pNodesOf fuel (tget 0 x.nodes (n * 256 + i)) x)
    else []

/-- Nodes replaced: they wait to be freed (R192). -/
def pRetire (now : Nat) (l : List Nat) (x : SlateSt) : SlateSt :=
  { x with nodeFree := x.nodeFree ++ l.map (fun n => (n, now)) }

/-- The new entry of a position after a change of the route pfx/len, the old entry being w: fuel, time, routes
after the change. Nodes with more than one changed entry are built anew; a single changed entry is rewritten in
its node. -/
def pChange : Nat → Nat → List Route → Nat → Nat → Nat → Nat → Nat → SlateSt → Option (Nat × SlateSt)
  | 0, _, rs, _, _, base, used, _, x => some (pDefault rs base used, x)
  | fuel + 1, now, rs, pfx, len, base, used, w, x =>
    let fresh := (pBuild (fuel + 1) rs base used x).map (fun r => (r.1, pRetire now (pNodesOf (fuel + 1) w x) r.2))
    if len ≤ used ∨ pKind w ≠ 2 ∨ (pInner rs base used).isEmpty then fresh
    else if used + 8 ≤ len then
      let i := pfx / 2 ^ (120 - used) % 256
      let pos := base + i * 2 ^ (120 - used)
      let k := bits w 13 0 * 256 + i
      (pChange fuel now (pNear rs pos (used + 8)) pfx len pos (used + 8) (tget 0 x.nodes k) x).map
        (fun r => (w, pPutNode k r.1 r.2))
    else
      match pTake x with
      | none => none
      | some (n, x) =>
        let old := bits w 13 0
        (List.range 256).foldl (fun (a : Option (Nat × SlateSt)) i =>
          a.bind (fun a =>
            let pos := base + i * 2 ^ (120 - used)
            let was := tget 0 a.2.nodes (old * 256 + i)
            if pCovers pfx len pos then
              (pBuild fuel (pNear rs pos (used + 8)) pos (used + 8) a.2).map (fun r =>
                (a.1, pPutNode (n * 256 + i) r.1 (pRetire now (pNodesOf fuel was a.2) r.2)))
            else some (a.1, pPutNode (n * 256 + i) was a.2))) (some (pNode n, pRetire now [old] x))

/-- The routes after one record, whose result is placed in a free result entry, and the results it replaces. -/
def pRoute (r : RouteStep) (x : SlateSt) : Option (List Nat × SlateSt) :=
  let same := fun (q : Route) => q.root == r.root && q.v6 == r.v6 && q.len == r.len && q.pfx == r.pfx
  let old := (x.routes.filter same).map (·.result)
  let x := { x with routes := x.routes.filter (fun q => !(same q)) }
  if r.del then some (old, x) else
    let i := lowestFree x.resUsed 0
    let fam := (x.routes.filter (fun q => q.v6 == r.v6)).length
    if 786432 ≤ i ∨ (if r.v6 then 262144 else 524288) ≤ fam then none else
      some (old, entryFresh tabRes i { x with
        routes := x.routes ++ [{ root := r.root, v6 := r.v6, pfx := r.pfx, len := r.len, result := i }]
        resUsed := insertAsc x.resUsed i
        results := tset 0 x.results i r.result })

/-- A stage-1 entry written. -/
def pPutRoot (i w : Nat) (x : SlateSt) : SlateSt := entryFresh tabRoot i { x with roots := tset 0 x.roots i w }

/-- Stage-1 entries that a record bears on. -/
def pEntries (r : RouteStep) : Nat := if r.len < 16 then 2 ^ (16 - r.len) else 1

/-- The j-th stage-1 entry that a record bears on brought to the routes: its subtree is built in free nodes and made visible
by one write of its parent entry. None when nodes do not suffice. -/
def pEntry (now : Nat) (r : RouteStep) (j : Nat) (x : SlateSt) : Option SlateSt :=
  let rs := x.routes.filter (fun q => q.root == r.root && q.v6 == r.v6)
  let i := r.root * 65536 + r.pfx / 2 ^ 112 + j
  let pos := (r.pfx / 2 ^ 112 + j) * 2 ^ 112
  (pChange 14 now (pNear rs pos 16) r.pfx r.len pos 16 (tget 0 x.roots i) x).map (fun q => pPutRoot i q.1 q.2)

/-- Results that no entry names any more go free. -/
def pFree (old : List Nat) (x : SlateSt) : SlateSt := { x with resUsed := x.resUsed.filter (fun i => !(old.contains i)) }

/-- One route record applied whole: every stage-1 entry it bears on in turn; none when nodes or results do not suffice. -/
def pRecord (now : Nat) (r : RouteStep) (x : SlateSt) : Option SlateSt :=
  (pRoute r x).bind (fun p =>
    ((List.range (pEntries r)).foldl (fun (a : Option SlateSt) j => a.bind (pEntry now r j)) (some p.2)).map (pFree p.1))

/-- A batch applied whole. -/
def pBatch (now : Nat) (l : List RouteStep) (x : SlateSt) : Option SlateSt :=
  l.foldl (fun (a : Option SlateSt) r => a.bind (pRecord now r)) (some x)

/-- The next subtree of a batch switches (R192). -/
def pSwitch (now : Nat) (j : PJob) (x : SlateSt) : PJob × SlateSt :=
  match j.todo with
  | [] => (j, x)
  | r :: rest =>
    let p := if j.at_ = 0 then (pRoute r x).getD ([], x) else (j.old, x)
    let x := (pEntry now r j.at_ p.2).getD p.2
    if j.at_ + 1 < pEntries r then ({ j with at_ := j.at_ + 1, old := p.1 }, x)
    else ({ j with todo := rest, at_ := 0, old := [] }, pFree p.1 x)

/-- A record's prefix left-aligned and cut to its length. -/
def recPfx (r : RouteRec) : Nat := r.pfx.toNat / 2 ^ (128 - r.len.toNat) * 2 ^ (128 - r.len.toNat)

/-- A record as it is applied: its VRF's root (R190). -/
def recStep (d : Dev) (r : RouteRec) : RouteStep :=
  { root := (vrfRoot d r.vrf.toNat r.v6).getD 0, v6 := r.v6, del := r.delete, pfx := recPfx r, len := r.len.toNat,
    result := r.result.toNat }

/-- A record that P_UPDATE rejects (R200): a length beyond its family, or a VRF that names no root. -/
def recBad (d : Dev) (r : RouteRec) : Bool :=
  decide ((if r.v6 then 128 else 32) < r.len.toNat) || (vrfRoot d r.vrf.toNat r.v6).isNone

/-- Free nodes and results (SLT_P_NODES, SLT_P_RES). -/
def nodesFree (d : Dev) : Nat := 12288 - d.slate.nodeUsed.length
def resultsFree (d : Dev) : Nat := 786432 - d.slate.resUsed.length

/-- P_UPDATE: the batch is checked to fit, and its subtrees begin to switch, one at a time; or it changes nothing (R192,
R193, R397). -/
def pUpdateOp (e : Env) (k : Nat) (recs : List RouteRec) (d : Dev) : Dev :=
  if !(gnsStart d k 0x23) || d.slate.pJob.isSome then d
  else if argWord d k 7 = 0 ∨ 65536 < argWord d k 7 ∨ (recs.take (argWord d k 7)).any (recBad d) then
    cmdFinish e k stRejected [] d
  else
    let l := (recs.take (argWord d k 7)).map (recStep d)
    if (pBatch e.third l d.slate).isNone then cmdFinish e k stNoRoom [nodesFree d, resultsFree d] d
    else cmdRun k { d with slate := { d.slate with pJob := some { slot := k, todo := l } } }

/-- A core cycle of a P_UPDATE under way: one subtree switches (DESIGN CHOICE, assumption 103); after the last the command
completes. -/
def pTick (e : Env) (d : Dev) : Dev :=
  match d.slate.pJob with
  | none => d
  | some j =>
    if d.gns.dead then d else
      let p := pSwitch e.third j d.slate
      if p.1.todo = [] then
        let d := { d with slate := { p.2 with pJob := none } }
        cmdFinish e j.slot stOk [nodesFree d, resultsFree d] d
      else { d with slate := { p.2 with pJob := some p.1 } }

/-- NODE_FREE: a replaced node returns to the free pool, no sooner than 2 us after its parent was rewritten. -/
def nodeFreeOp (e : Env) (n : Nat) (d : Dev) : Dev :=
  match d.slate.nodeFree.find? (fun p => p.1 == n) with
  | none => d
  | some p =>
    if e.third < p.2 + us 2 then d else
      { d with slate := { d.slate with
          nodeFree := d.slate.nodeFree.filter (fun q => q.1 != n)
          nodeUsed := d.slate.nodeUsed.erase n } }

/-- P_UPDATE -/
def execPUpdate (slot : Fin 4096) (records : List RouteRec) (s : State) : Host.Outcome State Fault Refusal :=
  .next { s with dev := pUpdateOp s.env slot.val records s.dev }
/-- NODE_FREE -/
def execNodeFree (node : Fin 12288) (s : State) : Host.Outcome State Fault Refusal :=
  .next { s with dev := nodeFreeOp s.env node.val s.dev }

end Sys2Proof.Machine
end

