-- ==== Sys2Proof/Machine/Rules.lean ====
section
/-! DEFINITION. Rule sets (chapter 05): parameter banks, Slate-T and its key builder, default actions, commits,
the switch and retirement. -/
namespace Sys2Proof.Machine

/-! ## Parameter banks and version states (R130-R132) -/

/-- `len` bytes of version v's bank from an offset. -/
def bankBytes (d : Dev) (v off : Nat) : Nat → List Byte
  | 0 => []
  | n + 1 => tget 0 d.rs.banks (8192 * v + off) :: bankBytes d v (off + 1) n

/-- A little-endian word of version v's bank. -/
def bankWord (d : Dev) (v off : Nat) : Nat := leNat (bankBytes d v off 4)

/-- Version v is active, retiring or committed (R131). -/
def rsHeld (d : Dev) (v : Nat) : Bool := d.rs.active == some v || d.rs.retiring == some v || d.rs.committed.contains v

/-- Version v is free (R131): not held, nor the target of an RS_COMMIT that has been accepted (R136 step 1). -/
def rsFree (d : Dev) (v : Nat) : Bool := !(rsHeld d v) && !((waitingSlots d 0x10).any (fun k => bits (argWord d k 4) 3 0 == v))

/-- The version mask of the versions that are locked (R132). -/
def lockedMask (d : Dev) : Nat := (List.range 16).foldl (fun a v => a + flagAt (!(rsFree d v)) v) 0

/-- A write refused (R132, R143, R144). -/
def rsRefuse (e : Env) (d : Dev) : Dev := raiseEv e 128 2 d

/-- The bytes of a bank that R130 lists; the others are reserved and read zero. -/
def bankListed (o : Nat) : Bool :=
  decide (o < 0x28) || (decide (0x40 ≤ o) && decide (o < 0x44)) || (decide (0x100 ≤ o) && decide (o < 0x1E2)) || decide (0x1000 ≤ o)

/-- PARAMETER_BANK_WRITE: a 32-bit word at an offset of the 16 banks; nothing is written at an offset within a word. -/
def bankPut (e : Env) (off v : Nat) (d : Dev) : Dev :=
  if off % 4 ≠ 0 then d
  else if rsFree d (off / 8192) then
    let b := (natLE 4 v).zipIdx.foldl (fun t x => if bankListed ((off + x.2) % 8192) then tset 0 t (off + x.2) x.1 else t) d.rs.banks
    { d with rs := { d.rs with banks := b } }
  else rsRefuse e d

/-- The pattern-set reference of a version: the slot it names, if it names one (R160). -/
def setRef (d : Dev) (v : Nat) : Option Nat :=
  let w := bankWord d v 0x40
  if bit w 31 then some (bits w 3 0) else none

/-- A set slot is in use: a committed, active or retiring version references it (R160). -/
def setInUse (d : Dev) (k : Nat) : Bool := (List.range 16).any (fun v => !(rsFree d v) && setRef d v == some k)

/-! ## Slate-T (R143-R148) -/

/-- Byte b of position p. -/
def tByte (d : Dev) (p b : Nat) : Byte := tget 0 d.rs.tTable (128 * p + b)
/-- Bytes of position p. -/
def tBytes (d : Dev) (p off len : Nat) : List Byte := (List.range len).map (fun i => tByte d p (off + i))
/-- Control word of position p. -/
def tCtl (d : Dev) (p : Nat) : Nat := leNat (tBytes d p 88 4)
/-- Setting of the bank of position p. -/
def tWide (e : Env) (p : Nat) : Bool := e.b (0x70C100 + 4 * (p / 4096)) 0

/-- Positions with a valid entry, rising. -/
def tValid (d : Dev) : List Nat :=
  d.rs.tTable.filterMap (fun kv => if kv.1 % 128 = 91 ∧ bit kv.2.toNat 7 then some (kv.1 / 128) else none)

/-- A bank holds a valid entry. -/
def tBankUsed (e : Env) (d : Dev) (bank : Nat) : Bool :=
  (tValid d).any (fun p => p / 4096 == bank && (!(tWide e p) || p % 2 == 0))

/-- Key bits of an entry's field at byte offset `off`: of a wide entry the even position holds the high half. -/
def tField (d : Dev) (wide : Bool) (p off : Nat) : Nat :=
  if wide then beNat (tBytes d p off 40) * 2 ^ 320 + beNat (tBytes d (p + 1) off 40) else beNat (tBytes d p off 40)

/-- The entry at p matches a key. -/
def tMatch (d : Dev) (wide : Bool) (key p : Nat) : Bool :=
  let m := tField d wide p 40
  (key &&& m) == (tField d wide p 0 &&& m)

/-- An lkt for version `ver` (R148): answer, miss, parity miss. -/
def tLookup (e : Env) (wide : Bool) (key ver : Nat) (d : Dev) : (Nat × Bool × Bool) × Dev :=
  let all := (tValid d).filter (fun p => tWide e p == wide && (!wide || p % 2 == 0))
  let bad := all.filter (fun p => parFails d tabT p || (wide && parFails d tabT (p + 1)))
  let cand := all.filter (fun p => bit (tCtl d p) ver && tMatch d wide key p)
  let hit := cand.find? (fun p => !(bad.contains p))
  let d1 := if bad.isEmpty then d else
    bad.foldl (fun d p => let d := entryParity e 0 tabT p d
      if wide then entryParity e 0 tabT (p + 1) d else d) (bumpDev e 10 1 none d)
  match hit with
  | some p => ((beNat (tBytes d p 80 8), false, false), d1)
  | none => ((0, true, !cand.isEmpty), d1)

/-- The entry that position p is part of belongs to a locked version (R146, R147). -/
def tLocked (e : Env) (d : Dev) (p : Nat) : Bool :=
  let c := tCtl d (if tWide e p then p / 2 * 2 else p)
  bit c 31 && (c % 65536 &&& lockedMask d) != 0

/-- A word of bytes 0-87 of a position staged (R145); refused where the entry belongs to a locked version (R147). -/
def tStageWord (e : Env) (p off v : Nat) (d : Dev) : Dev :=
  if tLocked e d p then rsRefuse e d else
    let st := (natLE 4 v).zipIdx.foldl (fun t x => tput t (128 * p + off + x.2) x.1) d.rs.tStage
    { d with rs := { d.rs with tStage := st } }

/-- Positions that a control-word write of p commits: its own, and the odd one of a wide entry (R145). -/
def tGroup (e : Env) (p : Nat) : List Nat := if tWide e p then [p, p + 1] else [p]

/-- A control-word write is accepted under R144 and R147. -/
def tAccepts (e : Env) (d : Dev) (p v : Nat) : Bool :=
  let old := tCtl d p
  let staged := d.rs.tStage.any (fun kv => (tGroup e p).contains (kv.1 / 128))
  let locked := lockedMask d
  let free := 65535 - locked
  bit v 30 == tWide e p &&
    ((!staged && ((old ^^^ v) &&& (0xFFFFFFFF - free)) == 0) ||
      ((!(bit old 31) || (old % 65536 &&& locked) == 0) && (v % 65536 &&& locked) == 0))

/-- The control word of position p written with the staged bytes of its entry, in one cycle; refused under R144
or R147. The odd position of a wide entry has no control word. -/
def tControl (e : Env) (p v : Nat) (d : Dev) : Dev :=
  if tWide e p && p % 2 == 1 then d else
    let v := setBits v 29 16 0
    let g := tGroup e p
    let mine := d.rs.tStage.filter (fun kv => g.contains (kv.1 / 128))
    let ok := tAccepts e d p v
    let d := { d with rs := { d.rs with tStage := d.rs.tStage.filter (fun kv => !(g.contains (kv.1 / 128))) } }
    if !ok then rsRefuse e d else
      let t := mine.foldl (fun t kv => tset 0 t kv.1 kv.2) d.rs.tTable
      let t := (natLE 4 v).zipIdx.foldl (fun t x => tset 0 t (128 * p + 88 + x.2) x.1) t
      { d with rs := { d.rs with tTable := t }, slate := g.foldl (fun x q => entryFresh tabT q x) d.slate }

/-- SLT_T_BANK write of bank k: dropped while an entry of the bank is valid (R143). -/
def tBankWrite (k v : Nat) (s : State) : State :=
  if tBankUsed s.env s.dev k then { s with dev := rsRefuse s.env s.dev }
  else { s with env := s.env.setReg (0x70C100 + 4 * k) (v % 2) }

/-! ## Key building (R149-R151) -/

/-- Two bytes of a byte string at an offset; bytes beyond it read 0. -/
def seg2 (l : List Byte) (off : Nat) : Nat := beAt l off 2

/-- The 16 bits a segment selector yields (R150, R151): `masked` forces scopes 1 and 2 to zero. -/
def segment (win : List Byte) (hidx : List (BitVec 16)) (md : BitVec 512) (user : Nat) (masked : Bool) (w : Nat) : Nat :=
  let scope := bits w 25 24
  let off := bits w 23 16
  let src := bits w 31 29
  if masked ∧ (scope = 1 ∨ scope = 2) then 0
  else if src = 1 then seg2 win off
  else if src = 2 then
    let h := (hidx.getD (bits w 28 26) 0).toNat
    if bit h 15 then seg2 win (h % 512 + off) else 0
  else if src = 3 then seg2 (mdBytes md) off
  else if src = 4 then (if off = 0 then bits user 31 16 else bits user 15 0)
  else 0

/-- The lkt key that profile k of a version builds, and whether it is wide (R149). -/
def buildKey (d : Dev) (ver k : Nat) (win : List Byte) (hidx : List (BitVec 16)) (md : BitVec 512) (user : Nat) :
    Bool × Nat :=
  let prof := fun i => bankWord d ver (0x1000 + 256 * k + 4 * i)
  let wide := bit (prof 0) 31
  let masked := mdGet md 8 31 29 != 0
  let head := mdGet md 8 31 29 * 2 ^ 13 + flagAt masked 12 + mdGet md 0 31 24 % 128 * 32 + mdGet md 0 15 13 * 4
  let n := if wide then 39 else 19
  (wide, (List.range n).foldl (fun a j => a * 65536 + segment win hidx md user masked (prof (j + 1))) head)

/-! ## Default actions (R152, R153) -/

/-- md.dst of a default action: kind, value, and whether it is a drop for a value out of range. -/
def defaultDst (d : Dev) (ver inPort : Nat) (md : BitVec 512) : Nat × Nat × Bool :=
  let w := leNat (bankBytes d ver (0x100 + 2 * inPort) 2)
  let k := bits w 15 13
  let v := bits w 12 0
  let vid := mdGet md 9 31 20
  if k = 1 then (3, if vid = 0 then v % 4096 else vid, false)
  else if k = 2 then (if v < 64 then (4, v, false) else (6, 0, true))
  else if k = 3 then (if v < 96 then (1, v, false) else (6, 0, true))
  else (6, 0, false)

/-- The default action applied to md for a trigger: drop code and counter (R153). -/
def applyDefault (e : Env) (ver inPort code inst : Nat) (ctx : FrCtx) (md : BitVec 512) (d : Dev) : BitVec 512 × Dev :=
  let a := defaultDst d ver inPort md
  let md := mdSet (mdSet md 2 31 28 a.1) 2 27 0 a.2.1
  let md := if a.1 = 6 then mdSet md 1 15 0 (if a.2.2 then 0x8201 else code) else md
  (md, bumpDev e (2 + inst) 1 ctx d)

/-! ## Commits (R135-R139) -/

/-- A frame bears version v: tagged with it, or stamped so that it will be, and not past the sieve (R133, R137). -/
def bears (e : Env) (d : Dev) (v : Nat) (f : Frame) : Bool :=
  f.stage != .released && (if f.tagged then f.ver == v else verAt e d f.ts == some v)

/-- SLT_RS_STAT.retire_count. -/
def retireCount (e : Env) (d : Dev) : Nat :=
  match d.rs.retiring with
  | none => 0
  | some v => (d.frames.filter (fun kv => bears e d v kv.2)).length

/-- RS_COMMIT, steps 1 and 2 of R136: at once, the commands of this opcode in issue order. -/
def rsCommitOp (e : Env) (k : Nat) (d : Dev) : Dev :=
  if !(canStart d k 0x10) || (waitingSlots d 0x10).head? != some k then d else
    let w4 := argWord d k 4
    let v := bits w4 3 0
    if rsHeld d v then cmdFinish e k stRejected [] d else
      let c : Commit := {
        slot := k, version := v, imageAddr := argAddr d k 5, imageLen := bits (argWord d k 7) 14 0,
        imageCrc := argWord d k 8, entry := bits (argWord d k 9) 13 0, brEntry := bits (argWord d k 9) 29 16,
        brValid := bit w4 6, compat := bit w4 7, dom := bits w4 5 4, time := argTime d k 10, step := 2 }
      cmdRun k { d with rs := { d.rs with committed := d.rs.committed ++ [v], commits := d.rs.commits ++ [c] } }

/-- The commit in front refused (R136): its version is free again and its program slot empty. -/
def commitFail (e : Env) (c : Commit) (slots : List SlotSt) (d : Dev) : Dev :=
  cmdFinish e c.slot stRejected [] { d with rs := { d.rs with
    commits := d.rs.commits.drop 1, committed := d.rs.committed.erase c.version, slots := slots } }

/-- The commit in front replaced. -/
def commitSet (c : Commit) (d : Dev) : Dev :=
  { d with rs := { d.rs with commits := c :: d.rs.commits.drop 1 } }

/-- The free program slot. -/
def freeProg (d : Dev) : Nat := if (d.rs.slots.getD 0 {}).state = 0 then 0 else 1

/-- COMMIT_PROCEED: every earlier commit has completed; step 3, and the image begins to load. -/
def commitProceedOp (e : Env) (d : Dev) : Dev :=
  match d.rs.commits with
  | [] => d
  | c :: _ =>
    if c.step ≠ 2 ∨ d.gns.dead ∨ patchAhead d c.slot then d else
      let lenOk := decide (1 ≤ c.imageLen) && decide (c.imageLen ≤ 16384) && decide (c.entry < c.imageLen) &&
        decide (c.brEntry < c.imageLen)
      let setOk := match setRef d c.version with
        | some k => (d.set k).valid
        | none => true
      if lenOk && setOk then
        let g := freeProg d
        let s : SlotSt := { d.rs.slots.getD g {} with state := 1, version := c.version }
        let d := commitSet { c with step := 3, prog := g } d
        { d with rs := { d.rs with slots := d.rs.slots.set g s } }
      else commitFail e c d.rs.slots d

/-- COMMIT_IMAGE_LOADED: the image is in every cluster; its CRC is checked and the switch instant chosen. -/
def commitLoadedOp (e : Env) (image : List DWord) (d : Dev) : Dev :=
  match d.rs.commits with
  | [] => d
  | c :: _ =>
    if c.step ≠ 3 ∨ d.gns.dead then d else
      let words := image.take c.imageLen ++ List.replicate (c.imageLen - image.length) 0
      if crc32c (words.flatMap (fun w => natLE 8 w.toNat)) ≠ c.imageCrc then
        commitFail e c (d.rs.slots.set c.prog {}) d
      else
        let first := e.ltNs + 1000 * max 2 (e.f 0x70C004 31 24)
        let want := if c.time = 0 then 0 else e.toLt c.dom c.time
        let s : SlotSt := { valid := true, compat := c.compat, state := 1, version := c.version,
                            brValid := c.brValid, brEntry := c.brEntry, entry := c.entry, words := words }
        let d := commitSet { c with step := 5, switchLt := max want first,
                                    late := decide (c.time ≠ 0) && decide (want < first) } d
        { d with rs := { d.rs with slots := d.rs.slots.set c.prog s } }

/-- The results of a completed commit (R135, R397). -/
def commitResults (c : Commit) : List Nat :=
  [c.switchLt % 2 ^ 32, c.switchLt / 2 ^ 32,
   (match c.retired with
    | some u => u + 16
    | none => 15) + flagAt c.late 5]

/-- RS_SWITCH at the switch instant (R136 step 6, R139). -/
def rsSwitchOp (e : Env) (d : Dev) : Dev :=
  match d.rs.commits with
  | [] => d
  | c :: _ =>
    if c.step ≠ 5 ∨ e.ltNs < c.switchLt then d else
      let old := d.rs.active
      let slots := (List.range 2).map (fun g =>
        let s := d.rs.slots.getD g {}
        if g = c.prog then { s with state := 2 } else if s.state = 2 then { s with state := 3 } else s)
      let c := { c with step := 7, retired := old, switchedAt := e.third }
      let d := twinMark e 3 0 (raiseEv e 128 0 { commitSet c d with rs := { (commitSet c d).rs with
        active := some c.version
        retiring := old
        before := old
        committed := d.rs.committed.erase c.version
        switchLt := c.switchLt
        slots := slots } })
      if old.isSome then d
      else cmdFinish e c.slot stOk (commitResults c) { d with rs := { d.rs with commits := d.rs.commits.drop 1 } }

/-- RS_RETIRE_SLOW (R136 step 7). -/
def retireSlowOp (e : Env) (d : Dev) : Dev :=
  match d.rs.commits with
  | [] => d
  | c :: _ =>
    if c.step ≠ 7 || c.slow || retireCount e d == 0 || decide (e.third < c.switchedAt + ms (max 1 (e.f 0x70C004 15 0))) then d
    else raiseEv e 128 1 (commitSet { c with slow := true } d)

/-- RETIREMENT_WALK_START: no frame bears the retiring version any more. -/
def walkStartOp (e : Env) (d : Dev) : Dev :=
  match d.rs.commits with
  | [] => d
  | c :: _ =>
    if c.step ≠ 7 ∨ retireCount e d ≠ 0 ∨ d.gns.dead then d else
      let d := commitSet { c with step := 8 } d
      { d with rs := { d.rs with walk := some e.third, walkAt := 0 } }

/-- Slate-T positions from lo up to hi whose version mask has bit u. -/
def maskHolds (d : Dev) (u lo hi : Nat) : List Nat :=
  d.rs.tTable.filterMap (fun kv =>
    if kv.1 % 128 = 88 + u / 8 ∧ bit kv.2.toNat (u % 8) ∧ lo ≤ kv.1 / 128 ∧ kv.1 / 128 < hi then some (kv.1 / 128) else none)

/-- The retirement walk passes the positions up to hi (R138): bit u leaves their version masks, and an entry left with none
becomes invalid. -/
def walkTo (u hi : Nat) (d : Dev) : Dev :=
  let t := (maskHolds d u d.rs.walkAt hi).foldl (fun t p =>
    let c := setBits (tCtl d p) u u 0
    let c := if c % 65536 = 0 then setBits c 31 31 0 else c
    (natLE 4 c).zipIdx.foldl (fun t x => tset 0 t (128 * p + 88 + x.2) x.1) t) d.rs.tTable
  { d with rs := { d.rs with tTable := t, walkAt := hi } }

/-- What the walk has passed by now: a position in every 8 ns (R138). -/
def walkTick (e : Env) (d : Dev) : Dev :=
  match d.rs.walk, d.rs.retiring with
  | some t, some u =>
    let hi := min 32768 ((e.third - t) / 24)
    if d.rs.walkAt < hi then walkTo u hi d else d
  | _, _ => d

/-- The walk's end (R138): it has passed every position, u's program slot is emptied and u is free. -/
def retireVersion (u : Nat) (d : Dev) : Dev :=
  let d := walkTo u 32768 d
  { d with rs := { d.rs with
      slots := d.rs.slots.map (fun s => if s.state = 3 ∧ s.version = u then {} else s)
      retiring := none
      walk := none
      walkAt := 0 } }

/-- RETIREMENT_WALK_END: the commit completes (R136 step 8). -/
def walkEndOp (e : Env) (d : Dev) : Dev :=
  match d.rs.commits, d.rs.walk with
  | c :: _, some t =>
    if c.step ≠ 8 ∨ e.third < t + ns 262144 then d else
      let d := match d.rs.retiring with
        | some u => retireVersion u d
        | none => d
      cmdFinish e c.slot stOk (commitResults c)
        (twinMark e 3 0 { d with rs := { d.rs with commits := d.rs.commits.drop 1, walk := none } })
  | _, _ => d

/-! ## Meanings -/

/-- RS_COMMIT -/
def execRsCommit (slot : Fin 4096) (s : State) : Host.Outcome State Fault Refusal :=
  .next { s with dev := rsCommitOp s.env slot.val s.dev }
/-- COMMIT_PROCEED -/
def execCommitProceed (s : State) : Host.Outcome State Fault Refusal :=
  .next { s with dev := commitProceedOp s.env s.dev }
/-- COMMIT_IMAGE_LOADED: `image` is what stands at image_addr. -/
def execCommitImageLoaded (image : List DWord) (s : State) : Host.Outcome State Fault Refusal :=
  .next { s with dev := commitLoadedOp s.env image s.dev }
/-- RS_SWITCH -/
def execRsSwitch (s : State) : Host.Outcome State Fault Refusal := .next { s with dev := rsSwitchOp s.env s.dev }
/-- RS_RETIRE_SLOW -/
def execRsRetireSlow (s : State) : Host.Outcome State Fault Refusal :=
  .next { s with dev := retireSlowOp s.env s.dev }
/-- RETIREMENT_WALK_START -/
def execRetirementWalkStart (s : State) : Host.Outcome State Fault Refusal :=
  .next { s with dev := walkStartOp s.env s.dev }
/-- RETIREMENT_WALK_END -/
def execRetirementWalkEnd (s : State) : Host.Outcome State Fault Refusal :=
  .next { s with dev := walkEndOp s.env s.dev }
/-- PARAMETER_BANK_WRITE -/
def execParameterBankWrite (offset : Fin 131072) (value : Word) (s : State) : Host.Outcome State Fault Refusal :=
  .next { s with dev := bankPut s.env offset.val value.toNat s.dev }
/-- SLATE_T_CONTROL_WRITE -/
def execSlateTControlWrite (p : Fin 32768) (value : Word) (s : State) : Host.Outcome State Fault Refusal :=
  .next { s with dev := tControl s.env p.val value.toNat s.dev }

end Sys2Proof.Machine
end

