-- ==== Sys2Proof/Machine/Release.lean ====
section
/-! DEFINITION. The sieve's release of frames (R88-R92), the crossings and mirror copies it hands to stage 1 (R205,
R320, R321), and the frames it hands to the host slice. -/
namespace Sys2Proof.Machine

/-! ## Header-index entries of a frame -/

/-- Header-index entry n of a frame. -/
def Frame.h (f : Frame) (n : Nat) : Nat := (f.hidx.getD n 0).toNat
/-- Entry n is valid. -/
def Frame.hv (f : Frame) (n : Nat) : Bool := bit (f.h n) 15
/-- Offset of entry n. -/
def Frame.hoff (f : Frame) (n : Nat) : Nat := bits (f.h n) 8 0
/-- Type code of entry n. -/
def Frame.htype (f : Frame) (n : Nat) : Nat := bits (f.h n) 14 9

/-- Offset of the outer IP header, 0 when there is none. -/
def Frame.ipOff (f : Frame) : Nat := if f.hv 2 && (f.htype 2 == 3 || f.htype 2 == 4) then f.hoff 2 else 0

/-! ## Waiting for dispatch (R79, R83, R85) -/

/-- The program slot that holds version v (R94). -/
def slotOf (d : Dev) (v : Nat) : Option Nat :=
  (List.range 2).find? (fun k => (d.rs.slots.getD k {}).valid && (d.rs.slots.getD k {}).version == v)

/-- Program slot k. -/
def Dev.prog (d : Dev) (k : Nat) : SlotSt := d.rs.slots.getD k {}

/-- The frame may take a dispatch entry as far as its bytes go (R14). -/
def readyBytes (e : Env) (f : Frame) : Bool := f.rxDone || decide (256 ≤ f.arrived e)

/-- The version the frame bears or will bear. -/
def bearsVer (e : Env) (d : Dev) (f : Frame) : Option Nat := if f.tagged then some f.ver else verAt e d f.ts

/-- A version has a valid Bedrock entry (R79, R83). -/
def hasBrEntry (d : Dev) (v : Option Nat) : Bool := match v with
  | none => false
  | some v => match slotOf d v with
    | some k => (d.prog k).brValid && !(d.prog k).compat
    | none => false

/-- A frame put into a list in arrival order. -/
def insArrival (d : Dev) (i : Nat) : List Nat → List Nat
  | [] => [i]
  | j :: r => if (d.frame i).arrival < (d.frame j).arrival then i :: j :: r else j :: insArrival d i r

/-- The frame takes the Bedrock part of the dispatch queue (R79, R83): it is a Bedrock frame, as the pre-parser has found it or
would find it now, and its version has a Bedrock entry. -/
def wantsBr (e : Env) (d : Dev) (i : Nat) : Bool :=
  let f := d.frame i
  (if f.tagged then f.bedrock else bedrockOf e f.blk f.lp (classOf e f.blk f.lp (body f.bytes)) f.crit) &&
    hasBrEntry d (bearsVer e d f)

/-- Frames of block b that are ready and need an entry of a kind, in arrival order (R79, R83, R85). -/
def entryCands (e : Env) (d : Dev) (b : Nat) (bedrock : Bool) : List Nat :=
  let x := d.blk b
  ((x.waitGen ++ x.waitBr).filter (fun i => readyBytes e (d.frame i) && wantsBr e d i == bedrock)).foldl
    (fun a i => insArrival d i a) []

/-- Frame i finds no entry of a kind: all are in use, or it needs room in the sieve and there is none (R85, R88). -/
def entryStuck (d : Dev) (b : Nat) (bedrock : Bool) (i : Nat) : Bool :=
  let x := d.blk b
  (if bedrock then decide (32 ≤ x.dispBr.length) else decide (224 ≤ x.dispGen.length)) ||
    (decide (1024 ≤ x.sieve.length) && !(d.frame i).inSieve)

/-- The frame is counted, once a pass, as one that waits for an entry (R85). -/
def countWait (e : Env) (b : Nat) (bedrock : Bool) (d : Dev) (i : Nat) : Dev :=
  if (d.frame i).waitCounted then d else
    let d := d.onFrame i (fun f => { f with waitCounted := true })
    if bedrock then raiseEv e (96 + b) 3 d else bumpBlk e b 64 1 (d.frame i).ctx d

/-- Every ready frame of block b that finds no entry of a kind waits, and is counted (R85). -/
def countWaits (e : Env) (b : Nat) (bedrock : Bool) (d : Dev) : Dev :=
  ((entryCands e d b bedrock).filter (entryStuck d b bedrock)).foldl (countWait e b bedrock) d

/-! ## Crossings -/

/-- A crossing put into its injection queue (R206). -/
def pushSend (s : Send) (d : Dev) : Dev :=
  let i := d.nextSend
  let d := touchTiles s.inBlk (d.frame s.frame).tiles { d.setSend i s with nextSend := i + 1 }
  let d := d.onBlk s.inBlk (fun x =>
    if s.cg = 1 then { x with injBr := x.injBr ++ [i] } else { x with injOth := x.injOth ++ [i] })
  d.onFrame s.frame (fun f => { f with sendsLeft := f.sendsLeft + 1 })

/-- The frame needs its whole bytes before it leaves, as far as the ingress side knows (R42): an L4 full checksum,
an enforce-mode scan, or a one-step correction in UDP over IPv6 without a compensation trailer. -/
def needsWhole (f : Frame) : Bool :=
  f.l4.isSome || mdGet f.md 4 27 26 == 2 ||
    (match f.stamp with
     | some r => f.htype 2 == 4 && f.htype 3 == 17 && f.hv 3 && f.hv 2 && r.off == f.hoff 3 + 8 &&
         !(hasTrailer f.bytes (f.hoff 3) r.off)
     | none => false)

/-- d7[31:28]: bedrock, ptp, echo and from_host of a frame (R205). -/
def descFlags (f : Frame) : Nat :=
  mdGet f.md 8 27 27 * 2 ^ 31 + mdGet f.md 8 21 21 * 2 ^ 30 + mdGet f.md 8 22 22 * 2 ^ 29 + mdGet f.md 8 23 23 * 2 ^ 28

/-- Words d0-d7 of a frame's descriptor (R205); the sequence number is set as it is sent. -/
def descWords (f : Frame) (kind dst : Nat) : List Nat :=
  let l34 := match f.l4 with
    | some (l4, l3) => (l4, l3)
    | none => (if f.hv 3 then f.hoff 3 else 0, f.ipOff)
  let d3 := (match f.stamp with
      | some r => 2 ^ 31 + r.kind * 2 ^ 29 + r.dom * 2 ^ 27 + r.off % 256 * 2 ^ 19
      | none => 0) + flagAt f.l4.isSome 18 + l34.1 % 256 * 1024 + l34.2 % 256 * 4
  let ct := f.ct && !f.crit && !(needsWhole f)
  [f.blk * 16 + f.cg * 8 + kind, f.len * 65536 + dst,
   f.queue * 2 ^ 28 + mdGet f.md 0 12 11 * 2 ^ 26 + mdGet f.md 8 14 14 * 2 ^ 25 + flagAt ct 24 + f.inPort * 2 ^ 17 +
     mdGet f.md 3 15 0,
   d3, mdGet f.md 6 31 0, mdGet f.md 7 31 0, mdGet f.md 10 31 0, descFlags f]

/-- A frame's bytes with the FCS of what it now holds. -/
def withFcs (l : List Byte) : List Byte := l ++ fcsOf l

/-- The crossing of frame i to output block o. -/
def frameSend (i : Nat) (f : Frame) (kind dst o : Nat) : Send :=
  { frame := i, cookie := f.cookie, inBlk := f.blk, outBlk := o, cg := f.cg, lp := f.lp, desc := descWords f kind dst,
    data := withFcs (body f.bytes), ver := f.ver }

/-! ## Mirror copies (R320, R321) -/

/-- GUT_SES_CFG of session s. -/
def sesCfg (e : Env) (s : Nat) : Nat := e.reg (0xC00100 + 16 * s)
/-- GUT_SES_FIX of session s. -/
def sesFix (e : Env) (s : Nat) : Nat := e.reg (0xC00104 + 16 * s)
/-- The first n bytes of a session's template. -/
def sesTmpl (e : Env) (s n : Nat) : List Byte :=
  ((List.range 16).flatMap (fun w => natBE 4 (e.reg (0xC00200 + 64 * s + 4 * w)))).take n

/-- The UDP header of a copy's template completed (R321): length, and the checksum zero over IPv4 and in full over
IPv6. -/
def fixTmplUdp (ip udp : Nat) (l : List Byte) : List Byte :=
  if udp = 255 then l else
    let l := put16 (put16 l (udp + 4) (l.length - udp)) (udp + 6) 0
    if ip ≠ 255 ∧ ipVer l ip = 6 then
      let s := onesSum (slice l (ip + 8) 32 ++ natBE 4 (l.length - udp) ++ natBE 4 17 ++ l.drop udp) 0
      put16 l (udp + 6) (if s = 65535 then 65535 else 65535 - s)
    else l

/-- The IP header of a copy's template completed (R321). -/
def fixTmplIp (ip : Nat) (l : List Byte) : List Byte :=
  if ip = 255 then l
  else if ipVer l ip = 4 then fixIp4 (put16 l (ip + 2) (l.length - ip)) ip l.length
  else if ipVer l ip = 6 then put16 l (ip + 4) (l.length - ip - 40)
  else l

/-- The bytes of a port copy of session s, FCS included, and whether it needs a full checksum. -/
def mirrorBytes (e : Env) (s : Nat) (l : List Byte) : List Byte × Bool :=
  let cfg := sesCfg e s
  let ip := bits (sesFix e s) 31 24
  let udp := bits (sesFix e s) 23 16
  let trunc := bits cfg 20 15
  let c := sesTmpl e s (min 64 (bits cfg 14 8)) ++ (if trunc = 0 then l else l.take (64 * trunc))
  let c := fixTmplUdp ip udp (fixTmplIp ip c)
  (withFcs c, udp != 255 && ip != 255 && ipVer c ip == 6)

/-- A copy of frame i to session s (R320): a record, or a crossing of kind 3. -/
def mirrorCopy (e : Env) (i s : Nat) (d : Dev) : Dev :=
  let cfg := sesCfg e s
  let f := d.frame i
  if !(bit cfg 31) then d
  else if bit cfg 30 then gutRecord e 0 (bits cfg 29 28) s f.ts 0 0 (f.recInfo e) d
  else
    let p := bits cfg 27 21
    if 96 ≤ p then d else
      let m := mirrorBytes e s (body f.bytes)
      let ct := f.ct && !f.crit && !m.2
      let ip := bits (sesFix e s) 31 24
      let l3 := if ip ≠ 255 then ip else if f.ipOff = 0 then 0 else min 64 (bits cfg 14 8) + f.ipOff
      let desc := [f.blk * 16 + 3, m.1.length % 65536 * 65536 + p,
        mdGet f.md 0 12 11 * 2 ^ 26 + mdGet f.md 8 14 14 * 2 ^ 25 + flagAt ct 24 + f.inPort * 2 ^ 17 + mdGet f.md 3 15 0,
        l3 % 256 * 4, mdGet f.md 6 31 0, mdGet f.md 7 31 0, mdGet f.md 10 31 0, descFlags f + s * 2 ^ 24]
      pushSend { frame := i, inBlk := f.blk, outBlk := blkOf p, cg := 0, lp := f.lp, desc := desc, mirror := true,
                 data := m.1, ver := f.ver } d

/-- The copies of every session in a frame's mirror_mask, records first. -/
def mirrorAll (e : Env) (i : Nat) (d : Dev) : Dev :=
  let mask := mdGet (d.frame i).md 3 31 16
  (List.range 16).foldl (fun d s => if bit mask s then mirrorCopy e i s d else d) d

/-! ## Release (R90) -/

/-- A frame handed to the host slice of its own block (R11). -/
def toHost (e : Env) (i ring : Nat) (d : Dev) : Dev :=
  let d := echoOnce e i 3 d
  let f := d.frame i
  let r : HostRx := { ring := ring, bytes := [], len := f.bytes.length, inPort := f.inPort, ts := f.ts,
                      hash := mdGet f.md 10 31 0, ver := f.ver, queue := f.queue, frame := i }
  (d.onBlk f.blk (fun x => { x with hostQ := x.hostQ ++ [r] })).onFrame i (fun f => { f with hostRing := some ring })

/-- The frame's action carried out (R125, R205, R216). The output blocks of a multicast or flood frame are derived as it is
sent (`expandSend`). -/
def act (e : Env) (i : Nat) (d : Dev) : Dev :=
  let f := d.frame i
  let k := f.dstKind
  let v := f.dstVal
  if k = 1 ∧ v < 96 then pushSend (frameSend i f 0 v (blkOf v)) d
  else if k = 2 ∨ k = 3 then
    pushSend { frameSend i f (k - 1) (v % 65536) 0 with group := some (k - 1, v) } d
  else if k = 4 then toHost e i (v % 64) d
  else
    let d := dropCapture e f.dropReason f.blk (f.recInfo e) d
    echoOnce e i 2 d

/-- The frame leaves the sieve; frames that had no room in it have waited (R85, R88). -/
def leaveSieve (e : Env) (i : Nat) (d : Dev) : Dev :=
  let f := d.frame i
  let d := (countWaits e f.blk true (countWaits e f.blk false d)).onBlk f.blk (fun x => { x with
    sieve := x.sieve.erase i
    relSeq := tset 0 x.relSeq f.stream (tget 0 x.relSeq f.stream + 1) })
  d.onFrame i (fun f => { f with inSieve := false, stage := .released })

/-- The frame is complete for the sieve (R89). -/
def Frame.complete (e : Env) (f : Frame) : Bool := match f.completeAt with
  | some t => decide (t ≤ e.third)
  | none => false

/-- Block b's sieve holds a late frame of the stream that is not complete yet (R91). -/
def lateStands (e : Env) (d : Dev) (b stream : Nat) : Bool :=
  (d.blk b).sieve.any (fun i => let f := d.frame i; f.stream == stream && f.late && !(f.complete e))

/-- Frame j stands before frame i in the stream and keeps it back (R90). Behind a late frame only the complete ones do: the
others are released as they complete (R91). -/
def keepsBack (e : Env) (d : Dev) (b i j : Nat) : Bool :=
  let f := d.frame i
  let g := d.frame j
  g.stream == f.stream && decide (g.seq < f.seq) && !g.late && (!(lateStands e d b f.stream) || g.complete e)

/-- The frame leaves by stage 1. -/
def Frame.crosses (f : Frame) : Bool := (f.dstKind == 1 && decide (f.dstVal < 96)) || f.dstKind == 2 || f.dstKind == 3

/-- The injection queues of block b have room for what the release of frame i puts into them (R221). How many frames a
queue holds is not the manual's (`Config.injRoom`, assumption 97). -/
def injTakes (d : Dev) (b i : Nat) : Bool :=
  let f := d.frame i
  let x := d.blk b
  let room := fun cg => decide ((if cg = 1 then x.injBr else x.injOth).length ≤ Config.injRoom.toNat)
  f.bad || ((!f.crosses || room f.cg) && (mdGet f.md 3 31 16 == 0 || room 0))

/-- The sieve may release frame i: complete, whole when its port is critical (R38), not kept back, and with room in the
injection queues (R221). -/
def canRelease (e : Env) (d : Dev) (b i : Nat) : Bool :=
  let f := d.frame i
  (d.blk b).sieve.contains i && f.complete e && (!f.crit || f.rxDone) &&
    (f.late || !((d.blk b).sieve.any (keepsBack e d b i))) && injTakes d b i

/-- SIEVE_RELEASE: a frame goes to stage 1, to the host slice, or is discarded (R90, R320, R322); a frame that was
marked late is counted (R91, R96). -/
def sieveReleaseOp (e : Env) (b i : Nat) (d : Dev) : Dev :=
  if !(canRelease e d b i) then d else
    let d := if (d.frame i).late then raiseEv e (96 + b) 2 d else d
    let d := leaveSieve e i d
    if (d.frame i).bad then
      dropFrame e i 0 (if (d.frame i).rxDone then sampleRecord e (d.frame i) d else d)
    else
      let d := mirrorAll e i d
      let d := if (d.frame i).rxDone then sampleRecord e (d.frame i) d else d
      frameSettle e i (act e i d)

/-- SIEVE_LATE: the oldest frame of a stream is not complete, and a later one has been for 20 us (R91, R92). -/
def sieveLateOp (e : Env) (b stream : Nat) (d : Dev) : Dev :=
  let l := (d.blk b).sieve.filter (fun i => (d.frame i).stream == stream)
  let old := l.foldl (fun (a : Option Nat) i => match a with
    | none => some i
    | some j => if (d.frame i).seq < (d.frame j).seq then some i else some j) none
  match old with
  | none => d
  | some i =>
    let waits := l.any (fun j => j != i && (match (d.frame j).completeAt with
      | some t => decide (t + us 20 ≤ e.third)
      | none => false))
    if (d.frame i).late || (d.frame i).complete e || !waits then d
    else d.onFrame i (fun f => { f with late := true })

/-! ## Meanings -/

/-- SIEVE_RELEASE -/
def execSieveRelease (b : Fin 16) (frame : Nat) (s : State) : Host.Outcome State Fault Refusal :=
  .next { s with dev := sieveReleaseOp s.env b.val frame s.dev }
/-- SIEVE_LATE -/
def execSieveLate (b : Fin 16) (stream : Fin 256) (s : State) : Host.Outcome State Fault Refusal :=
  .next { s with dev := sieveLateOp s.env b.val stream.val s.dev }

end Sys2Proof.Machine
end

