-- ==== Sys2Proof/Machine/Mica.lean ====
section
/-! DEFINITION. Mica (chapter 06): scan requests at the end of a pass, scanner lanes, matching, verdicts, and the
loading of pattern sets. -/
namespace Sys2Proof.Machine

/-! ## Matching (R157, R158, R169) -/

/-- A letter in either case. -/
def caseFold (b : Byte) : Nat := if 65 ≤ b.toNat ∧ b.toNat ≤ 90 then b.toNat + 32 else b.toNat

/-- One element matches one byte. -/
def elemHits (b : Byte) : PatElem → Bool
  | .lit a => a == b
  | .caseless a => caseFold a == caseFold b
  | .cls l => l.any (fun r => decide (r.1.toNat ≤ b.toNat) && decide (b.toNat ≤ r.2.toNat))
  | .notCls l => !(l.any (fun r => decide (r.1.toNat ≤ b.toNat) && decide (b.toNat ≤ r.2.toNat)))
  | .wild => true

/-- The elements match the bytes from the front. -/
def bodyHits : List PatElem → List Byte → Bool
  | [], _ => true
  | _ :: _, [] => false
  | p :: ps, b :: bs => elemHits b p && bodyHits ps bs

/-- The offset behind the earliest match of a pattern: fuel, offset, bytes left. -/
def firstEnd (p : Pattern) : Nat → Nat → List Byte → Option Nat
  | 0, _, _ => none
  | n + 1, o, l =>
    let ok := match p.anchor with
      | some (a, b) => decide (a ≤ o) && decide (o ≤ b)
      | none => true
    if ok && bodyHits p.body l then some (o + p.body.length)
    else
      match l with
      | [] => none
      | _ :: r => firstEnd p n (o + 1) r

/-- Rank of an action (R169). -/
def patRank : PatAction → Nat
  | .pass => 0
  | .mirror => 1
  | .host => 2
  | .drop => 3

/-- The action code of md.scan_verdict (R73). -/
def patCode : PatAction → Nat
  | .pass => 0
  | .drop => 1
  | .mirror => 2
  | .host => 3

/-- Hit a beats hit b: higher rank, then earlier end, then lower number. -/
def beats (a b : Pattern × Nat) : Bool :=
  if patRank a.1.action ≠ patRank b.1.action then decide (patRank b.1.action < patRank a.1.action)
  else if a.2 ≠ b.2 then decide (a.2 < b.2)
  else decide (a.1.number.toNat < b.1.number.toNat)

/-- The winning hit of a scan of some bytes, with the offset behind it (R169). -/
def winner (ps : List Pattern) (l : List Byte) : Option (Pattern × Nat) :=
  (ps.filterMap (fun p => (firstEnd p (l.length + 1) 0 l).map (fun e => (p, e)))).foldl
    (fun (a : Option (Pattern × Nat)) h => match a with
      | none => some h
      | some b => if beats h b then some h else some b) none

/-- Bytes a scan reads: it stops with the first drop match (R169). -/
def scanReads (w : Option (Pattern × Nat)) (len : Nat) : Nat :=
  match w with
  | some (p, e) => if p.action = .drop then e else len
  | none => len

/-! ## The payload (R162) -/

/-- Length of the transport header at an offset by type code, if it is one Mica knows. -/
def l4HeadLen (l : List Byte) (t off : Nat) : Option Nat :=
  if t = 17 then some 8 else if t = 16 then some (beAt l (off + 12) 1 / 16 * 4) else if t = 20 then some 12 else none

/-- Where the payload begins. -/
def payloadOff (f : Frame) : Nat :=
  let tr := fun n => (l4HeadLen f.bytes (f.htype n) (f.hoff n)).map (fun k => f.hoff n + k)
  let l4 := if f.hv 7 then tr 7 else if f.hv 3 then tr 3 else none
  let nw := fun n => if f.hv n && (f.htype n == 3 || f.htype n == 4) then some (ipUpper f.bytes (f.hoff n)).2 else none
  ((l4.or (nw 6)).or (nw 2)).getD (f.hoff 1 + 2)

/-- Bytes scanned for a depth. -/
def scanLen (f : Frame) (depth : Nat) : Nat :=
  let n := f.bytes.length - 4 - payloadOff f
  if depth = 0 then n else min depth n

/-! ## Verdicts (R169, R170) -/

/-- A frame that recirculates goes back to dispatch for its next pass with md as its pass left it (R68, R140). -/
def recircEnter (i : Nat) (d : Dev) : Dev :=
  let f := d.frame i
  let md := mdSet (mdSet f.md 8 26 24 (f.pass + 1)) 8 13 13 0
  let n := (d.blk f.blk).arrivals
  let f := { f with md := md, stage := .waiting, scan := none, holdSince := none, waitCounted := false, arrival := n }
  queueWait i f.bedrock ((d.setFrame i f).onBlk f.blk (fun x => { x with arrivals := n + 1 }))

/-- The verdict word: done, hit, action, mode, pattern or outcome (R73). -/
def verdictWord (hit : Bool) (act mode pat : Nat) : Nat :=
  2 ^ 31 + flagAt hit 30 + act * 2 ^ 28 + mode * 2 ^ 26 + pat

/-- Mode in force of a frame's scan: 1 audit, 2 enforce, 3 demoted. -/
def scanMode (f : Frame) : Nat := mdGet f.md 4 27 26

/-- The enforce action on md (R170): action code, and whether it stands for a failure outcome. -/
def enforce (e : Env) (i code : Nat) (failed : Bool) (d : Dev) : Dev :=
  let f := d.frame i
  let cfg := e.reg 0xF00000
  if code = 1 then
    bumpBlk e f.blk 77 1 f.ctx (d.setFrame i { f with
      md := mdSet (mdSet (mdSet f.md 2 31 28 6) 2 27 0 0) 1 15 0 (if failed then 0x8402 else 0x8401) })
  else if code = 3 then
    d.setFrame i { f with md := mdSet (mdSet f.md 2 31 28 4) 2 27 0 (bits cfg 23 18) }
  else if code = 2 then
    let s := bits cfg 17 14
    d.setFrame i { f with md := mdSet f.md 3 (16 + s) (16 + s) 1 }
  else d

/-- The counters and the event of an outcome (R169). -/
def outcomeCount (e : Env) (b out : Nat) (ctx : FrCtx) (d : Dev) : Dev :=
  if out = 0 then d
  else if out = 1 then bumpBlk e b 74 1 ctx d
  else if out = 2 then bumpBlk e b 75 1 ctx d
  else if out = 6 then { d with evt := { d.evt with cnt := tset 0 d.evt.cnt (8 * 129) (d.evCnt 129 0 + 1) } }
  else raiseEv e 129 0 d

/-- A frame's verdict is recorded (R163, R169-R171): outcome code without a hit. An enforce frame is complete; a
frame that recirculates goes on to its next pass with no action applied. -/
def verdictOutcome (e : Env) (i out : Nat) (recirc : Bool) (d : Dev) : Dev :=
  let f := d.frame i
  let enf := scanMode f == 2
  let fail := 3 ≤ out ∧ out ≤ 5 ∧ e.b 0xF00000 9
  let act := if out = 6 ∨ !enf then 0 else if fail then 1 else 0
  let d := outcomeCount e f.blk out f.ctx (d.setFrame i { f with
    md := mdSet f.md 4 31 0 (verdictWord false act (scanMode f) out), scan := none })
  if recirc then recircEnter i d
  else if enf then
    let d := if act = 1 then enforce e i 1 true d else d
    d.onFrame i (fun f => { f with completeAt := some (f.completeAt.getD e.third), holdSince := none })
  else d

/-- A hit recorded: the winning pattern is counted, a record written, and its action applied (R170, R172, R326); the record
of a mirror session comes first (R319). -/
def verdictHit (e : Env) (i set : Nat) (p : Pattern) (recirc : Bool) (d : Dev) : Dev :=
  let f := d.frame i
  let enf := scanMode f == 2
  let code := patCode p.action
  let n := p.number.toNat
  let d := bumpBlk e f.blk 73 1 f.ctx (d.setFrame i { f with
    md := mdSet f.md 4 31 0 (verdictWord true code (scanMode f) n), scan := none })
  let s := d.set set
  let d := d.setSet set { s with hits := tset 0 s.hits n ((tget 0 s.hits n + 1) % 2 ^ 48) }
  let d := if !recirc && !enf && (code == 1 || code == 2) then mirrorCopy e i (e.f 0xF00000 17 14) d else d
  let d := if p.record then gutRecord e 5 (e.f 0xC00000 29 28) 0 f.ts 0 n (f.recInfo e) d else d
  if recirc then recircEnter i d
  else if enf then
    (enforce e i code false d).onFrame i (fun f => { f with completeAt := some (f.completeAt.getD e.third), holdSince := none })
  else d

/-- A scan's hold on its frame's tiles ends (R167). -/
def scanUnref (e : Env) (i : Nat) (d : Dev) : Dev :=
  frameSettle e i (d.onFrame i (fun f => { f with refs := f.refs - 1 }))

/-! ## Requests (R156, R162-R164) -/

/-- The scan request of frame i carried out as its pass ends; `recirc`: the pass ended with recirculate. The answer
says whether the frame must wait for its verdict before it is complete or re-enters dispatch. -/
def scanRequest (e : Env) (i : Nat) (recirc : Bool) (d : Dev) : Bool × Dev :=
  let f := d.frame i
  match f.scan with
  | none => (false, d)
  | some (enf, depth) =>
    if f.dstKind = 6 then
      (false, bumpBlk e f.blk 76 1 f.ctx (d.setFrame i { f with scan := none }))
    else
      let dem := enf && f.bedrock
      let mode := if dem then 3 else if enf then 2 else 1
      let d := d.setFrame i { f with md := mdSet f.md 4 27 26 mode }
      let d := if dem then raiseEv e 129 1 d else d
      if mdGet f.md 8 31 29 ≠ 0 then (recirc || mode == 2, verdictOutcome e i 1 recirc d)
      else
        match setRef d f.ver with
        | none => (recirc || mode == 2, verdictOutcome e i 2 recirc d)
        | some k =>
          if 64 ≤ (d.blk f.blk).scanQ.length then (recirc || mode == 2, verdictOutcome e i 3 recirc d)
          else
            let r : ScanReq := { frame := i, enf := mode == 2, len := scanLen f depth, off := payloadOff f, set := k,
                                 recirc := recirc, since := e.third }
            let d := d.onBlk f.blk (fun x => { x with scanQ := x.scanQ ++ [r] })
            (recirc || mode == 2, d.onFrame i (fun f => { f with
              refs := f.refs + 1
              holdSince := if mode = 2 then some e.third else none }))

/-! ## Lanes (R155, R161, R165) -/

/-- Scanner s is powered and serves (MCA_SCN_STAT.powered). -/
def scannerOn (d : Dev) (s : Nat) : Bool := unitOn d (16 + s)

/-- All sixteen lanes of a scanner are busy, or it is off. -/
def lanesFull (d : Dev) (s : Nat) : Bool := !(scannerOn d s) || decide (16 ≤ (d.blk s).lanes.length)

/-- Scanner s may serve block b now (R155). -/
def mayServe (e : Env) (d : Dev) (b s : Nat) : Bool :=
  !(lanesFull d s) && (s == b || (e.b 0xF00000 10 && lanesFull d b &&
    (s == (b + 1) % 16 || (s == (b + 15) % 16 && lanesFull d ((b + 1) % 16)))))

/-- The request a lane takes: enforce before audit, the oldest first (R156). -/
def nextScan (q : List ScanReq) : Option ScanReq := (q.find? (·.enf)).or q.head?

/-- The block tile that fails its check under a scan: the n-th of those the scan reads, from the one that holds the first
byte scanned; none when the scan reads no n-th tile (R18, R155). -/
def scanTile (f : Frame) (r : ScanReq) (n : Nat) : Option Nat :=
  if r.len = 0 ∨ (r.off + r.len - 1) / 256 < r.off / 256 + n then none else f.tiles[r.off / 256 + n]?

/-- The tile of a scan's frame that fails, if one does. -/
def scanFail (f : Frame) (r : ScanReq) (tileErr : Option Nat) : Option Nat :=
  match tileErr with
  | some n => scanTile f r n
  | none => none

/-- SCAN_START: a free lane of scanner s takes a request of block b; the tile it reads first may fail its check, which
ends the scan (R168, R240, R241). -/
def scanStartOp (e : Env) (b s lane : Nat) (tileErr : Option Nat) (d : Dev) : Dev :=
  match nextScan (d.blk b).scanQ with
  | none => d
  | some r =>
    if !(mayServe e d b s) || thas (d.blk s).lanes lane then d else
      let d := d.onBlk b (fun x => { x with scanQ := x.scanQ.erase r })
      match scanFail (d.frame r.frame) r tileErr with
      | some t => scanUnref e r.frame (verdictOutcome e r.frame 6 r.recirc (tileFail e 3 (d.frame r.frame).blk t d))
      | none =>
        d.onBlk s (fun x => { x with lanes := tput x.lanes lane { req := r, blk := b, start := e.third } })

/-- The lane is free. -/
def laneFree (s lane : Nat) (d : Dev) : Dev := d.onBlk s (fun x => { x with lanes := tdel x.lanes lane })

/-- COLD_STATE_FETCH_END: a lane that needed a cold state has it; there is none after a LOFT_RESTART, nor while Loft is
out of service (R161, R355). -/
def coldFetchOp (e : Env) (s lane : Nat) (d : Dev) : Dev :=
  match tfind (d.blk s).lanes lane with
  | none => d
  | some l =>
    let k := d.set l.req.set
    if k.resident then d
    else if k.lost || !(loftServes d) then
      scanUnref e l.req.frame (verdictOutcome e l.req.frame 5 l.req.recirc (laneFree s lane d))
    else
      bumpBlk e l.blk 78 1 none (d.onBlk s (fun x => { x with lanes := tput x.lanes lane { l with fetched := true } }))

/-- The bytes a scan covers. -/
def scanBytes (f : Frame) (r : ScanReq) : List Byte := slice f.bytes r.off r.len

/-- SCAN_VERDICT: the lane has read what it scans (R165); the frame found bad, or a tile failure found by the lane or at
stage 1, abandons the scan (R168). -/
def scanVerdictOp (e : Env) (s lane : Nat) (tileErr : Option Nat) (d : Dev) : Dev :=
  match tfind (d.blk s).lanes lane with
  | none => d
  | some l =>
    let r := l.req
    let f := d.frame r.frame
    if f.bad || f.tileBad || (scanFail f r tileErr).isSome then
      let d := match scanFail f r tileErr with
        | some t => tileFail e 3 f.blk t d
        | none => d
      scanUnref e r.frame (verdictOutcome e r.frame 6 r.recirc (laneFree s lane d))
    else
      let w := winner (d.set r.set).patterns (scanBytes f r)
      let n := scanReads w r.len
      if f.arrived e < r.off + n ∨ e.third < l.start + 2 * n then d else
        let d := bumpBlk e l.blk 72 1 f.ctx (laneFree s lane d)
        scanUnref e r.frame (match w with
          | some h => verdictHit e r.frame r.set h.1 r.recirc d
          | none => verdictOutcome e r.frame 0 r.recirc d)

/-- SCAN_HOLD_LIMIT: an enforce request has waited its limit (R166). -/
def holdLimitOp (e : Env) (i : Nat) (d : Dev) : Dev :=
  let f := d.frame i
  match f.holdSince with
  | none => d
  | some t =>
    if e.third < t + us (max 1 (e.f 0xF00000 31 24)) then d else
      let q := (d.blk f.blk).scanQ.find? (fun r => r.frame == i)
      let rec_ := (q.map (·.recirc)).getD ((d.blks.findSome? (fun kv =>
        (kv.2.lanes.find? (fun l => l.2.req.frame == i)).map (fun l => l.2.req.recirc))).getD false)
      let d := d.onBlk f.blk (fun x => { x with scanQ := x.scanQ.filter (fun r => r.frame != i) })
      let d := (List.range 16).foldl (fun d s => d.onBlk s (fun x => { x with
        lanes := x.lanes.filter (fun l => l.2.req.frame != i) })) d
      scanUnref e i (verdictOutcome e i 4 rec_ d)

/-! ## Pattern sets (R159, R161) -/

/-- The arguments of MICA_LOAD: set slot, image length, image CRC and cache quota. -/
def micaSlot (d : Dev) (k : Nat) : Nat := bits (argWord d k 4) 3 0
def micaLen (d : Dev) (k : Nat) : Nat := argWord d k 7
def micaCrc (d : Dev) (k : Nat) : Nat := argWord d k 8
def micaQuota (d : Dev) (k : Nat) : Nat := bits (argWord d k 9) 14 0

/-- Status of a MICA_LOAD of an image (R159, R161). -/
def micaStatus (d : Dev) (k : Nat) (img : MicaImage) : Nat :=
  let n := micaSlot d k
  let s := d.set n
  let used := setInUse d n
  let quota := micaQuota d k
  let others := ((List.range 16).filter (fun m => m != n && (d.set m).valid)).foldl (fun a m => a + (d.set m).quota) 0
  if (used && !s.lost) || (used && decide (micaCrc d k ≠ s.crc)) || decide (img.crc.toNat ≠ micaCrc d k) ||
      !img.forPart || decide (micaLen d k < 4096) || decide (2 ^ 28 < micaLen d k) || decide (quota < 64) ||
      decide (16384 < quota) || !(loftServes d) then stRejected
  else if 16384 < others + quota then stNoRoom
  else stOk

/-- MICA_LOAD (R159): the image stands at image_addr; an image taken is copied to its slot's region of Loft, and the slot's
hit table is cleared (R172). -/
def micaLoadOp (k : Nat) (img : MicaImage) (s : State) : State :=
  let e := s.env
  let d := s.dev
  if !(canStart d k 0x11) then s else
    let st := micaStatus d k img
    if st ≠ stOk then { s with dev := cmdFinish e k st [] d }
    else
      let n := micaSlot d k
      let res := decide (micaLen d k ≤ micaQuota d k * 1024)
      let x : SetSlot :=
        { valid := true, resident := res, quota := micaQuota d k, crc := micaCrc d k, patterns := img.patterns }
      { s with
        loft := mwrite s.loft (256 * regionUnit d (1 + n) 0) (img.bytes.take (micaLen d k))
        dev := cmdFinish e k stOk [flagAt res 0] (d.setSet n x) }

/-! ## Meanings -/

/-- SCAN_START -/
def execScanStart (b : Fin 16) (scanner lane : Fin 16) (tileErr : Option Nat) (s : State) :
    Host.Outcome State Fault Refusal :=
  .next { s with dev := scanStartOp s.env b.val scanner.val lane.val tileErr s.dev }
/-- COLD_STATE_FETCH_END -/
def execColdStateFetchEnd (scanner lane : Fin 16) (s : State) : Host.Outcome State Fault Refusal :=
  .next { s with dev := coldFetchOp s.env scanner.val lane.val s.dev }
/-- SCAN_VERDICT -/
def execScanVerdict (scanner lane : Fin 16) (tileErr : Option Nat) (s : State) :
    Host.Outcome State Fault Refusal :=
  .next { s with dev := scanVerdictOp s.env scanner.val lane.val tileErr s.dev }
/-- SCAN_HOLD_LIMIT -/
def execScanHoldLimit (frame : Nat) (s : State) : Host.Outcome State Fault Refusal :=
  .next { s with dev := holdLimitOp s.env frame s.dev }
/-- MICA_LOAD -/
def execMicaLoad (slot : Fin 4096) (image : MicaImage) (s : State) : Host.Outcome State Fault Refusal :=
  .next (micaLoadOp slot.val image s)

end Sys2Proof.Machine
end

