-- ==== Sys2Proof/Machine/Operands.lean ====
section
/-! DEFINITION. The fields of a Gristo instruction word (R97, R98), registers, and the address spaces a thread sees
(R69, R99, R100). -/
namespace Sys2Proof.Machine

/-! ## The instruction word (R97, R98) -/

/-- opcode -/
def fOp (w : Nat) : Nat := bits w 63 56
/-- destination register -/
def fD (w : Nat) : Nat := bits w 55 51
/-- source register 1 -/
def fS1 (w : Nat) : Nat := bits w 50 46
/-- source register 2 -/
def fS2 (w : Nat) : Nat := bits w 45 41
/-- condition, tag or size -/
def fCs (w : Nat) : Nat := bits w 40 37
/-- sub-operation -/
def fSub (w : Nat) : Nat := bits w 36 32
/-- immediate -/
def fImm (w : Nat) : Nat := bits w 31 0
/-- target of a control instruction -/
def fTarget (w : Nat) : Nat := bits w 13 0
/-- byte offset of the extract and shape layouts -/
def fOff (w : Nat) : Nat := bits w 31 24
/-- bit offset of the extract layout -/
def fBit (w : Nat) : Nat := bits w 23 21
/-- width of the extract layout -/
def fWidth (w : Nat) : Nat := bits w 20 16 + 1
/-- length of the shape layout -/
def fLen (w : Nat) : Nat := bits w 23 16
/-- space of the base select (R99) -/
def fSpace (w : Nat) : Nat := bits w 15 14
/-- relative to hN -/
def fRel (w : Nat) : Bool := bit w 13
/-- N -/
def fN (w : Nat) : Nat := bits w 12 10
/-- index register -/
def fX (w : Nat) : Nat := bits w 9 5

/-! ## Registers (R68, R95) -/

/-- g[i]; g0 reads zero. -/
def Thread.getG (x : Thread) (i : Nat) : Nat := if i = 0 then 0 else (tget 0 x.g i).toNat

/-- g[i] := v; writes to g0 are discarded, in compatibility mode those to g16-g31 too. -/
def Thread.setG (x : Thread) (compat : Bool) (i v : Nat) : Thread :=
  if i = 0 ∨ (compat ∧ 16 ≤ i) then x else { x with g := tset 0 x.g i (w32 v) }

/-- op2 of the ALU format (R105). -/
def op2 (x : Thread) (w : Nat) : Nat := if bit (fSub w) 0 then fImm w else x.getG (fS2 w)

/-- The operand of an action (R125). -/
def operand (x : Thread) (w : Nat) : Nat := if fS1 w = 0 then fImm w else x.getG (fS1 w)

/-- The 128 bits of g[i] to g[i+3], most significant first (R115). -/
def Thread.key (x : Thread) (i : Nat) : Nat :=
  ((x.getG i * 2 ^ 32 + x.getG (i + 1)) * 2 ^ 32 + x.getG (i + 2)) * 2 ^ 32 + x.getG (i + 3)

/-- md.len, or g[s2] when s2 names a register (R117, R123). -/
def lenOperand (f : Frame) (x : Thread) (w : Nat) : Nat := if fS2 w = 0 then f.len else x.getG (fS2 w)

/-! ## Spaces (R99, R100) -/

/-- Visible bytes of the header window (R95). -/
def winSize (compat : Bool) : Nat := if compat then 128 else 256

/-- End of the frame's bytes within the window (R107). After a pop in a frame longer than 256 bytes it is the count of the
window's bytes that the frame still has (DESIGN CHOICE, assumption 99). -/
def winEnd (compat : Bool) (x : Thread) : Nat := min x.winLen (winSize compat)

/-- Bytes of a space. -/
def spaceSize (compat : Bool) (sp : Nat) : Nat := if sp = 0 then winSize compat else if sp = 1 then 64 else 128

/-- The bytes a space shows. -/
def spaceBytes (compat : Bool) (x : Thread) (f : Frame) (sp : Nat) : List Byte :=
  if sp = 0 then fitLen (winSize compat) x.win else if sp = 1 then mdBytes f.md else fitLen 128 x.scratch

/-- The bits of md that ins, insm and hcopy may write (R73, R74): queue, colour, drop_reason, egress_edit,
parse_err, uflags, hash and user0-user3. -/
def mdWritable : BitVec 512 :=
  [(0, 19, 16), (0, 12, 11), (1, 15, 0), (3, 15, 0), (8, 28, 28), (8, 7, 0), (10, 31, 0), (12, 31, 0), (13, 31, 0),
   (14, 31, 0), (15, 31, 0)].foldl (fun m (r : Nat × Nat × Nat) => mdSet m r.1 r.2.1 r.2.2 (2 ^ 32 - 1)) 0

/-- md with the writable bits taken from new bytes. -/
def mdMerge (md new : BitVec 512) : BitVec 512 := (md &&& ~~~mdWritable) ||| (new &&& mdWritable)

/-- The thread and the frame it holds, as an instruction changes them. -/
structure TF where
  x : Thread
  f : Frame
deriving DecidableEq, Repr

/-- Bytes written to a space at A; none when one lies beyond its end (R100). -/
def spaceWrite (compat : Bool) (c : TF) (sp a : Nat) (bs : List Byte) : Option TF :=
  if spaceSize compat sp < a + bs.length then none
  else if sp = 0 then some { c with x := { c.x with win := splice (fitLen (max 256 c.x.win.length) c.x.win) a bs } }
  else if sp = 1 then
    some { c with f := { c.f with md := mdMerge c.f.md (mdOfBytes (splice (mdBytes c.f.md) a bs)) } }
  else some { c with x := { c.x with scratch := splice (fitLen 128 c.x.scratch) a bs } }

/-- The base of an address is an invalid hN (R100). -/
def badBase (f : Frame) (w : Nat) : Bool := fRel w && !(f.hv (fN w))

/-- Effective byte address A (R99). -/
def effAddr (c : TF) (w : Nat) : Nat :=
  ((if fRel w then c.f.hoff (fN w) else 0) + fOff w + c.x.getG (fX w)) % 2 ^ 32

/-- The `width` bits from bit offset `bo` of byte A of a space, zero beyond its end (R99, R100). -/
def fieldRead (l : List Byte) (a bo width : Nat) : Nat := bits (beAt l a 5) (39 - bo) (40 - bo - width)

/-- Bytes that a field touches. -/
def fieldBytes (bo width : Nat) : Nat := (bo + width + 7) / 8

/-- A field written; none when it runs beyond the space (R100). -/
def fieldWrite (compat : Bool) (c : TF) (sp a bo width v : Nat) : Option TF :=
  let n := fieldBytes bo width
  let old := beAt (spaceBytes compat c.x c.f sp) a 5
  spaceWrite compat c sp a ((natBE 5 (setBits old (39 - bo) (40 - bo - width) v)).take n)

/-! ## Shape of the window (R69, R107, R108) -/

/-- A header-index entry moved by n bytes. -/
def hMove (h : BitVec 16) (n : Int) : BitVec 16 :=
  BitVec.ofNat 16 (setBits h.toNat 8 0 ((((h.toNat % 512 : Nat) : Int) + n).toNat))

/-- Header index after n bytes were inserted at A (R69). -/
def hPush (a n : Nat) (h : BitVec 16) : BitVec 16 :=
  if bit h.toNat 15 && decide (a ≤ h.toNat % 512) then hMove h n else h

/-- Header index after n bytes were deleted at A (R69). -/
def hPop (a n : Nat) (h : BitVec 16) : BitVec 16 :=
  let o := h.toNat % 512
  if !(bit h.toNat 15) ∨ o < a then h
  else if o < a + n then BitVec.ofNat 16 (setBits h.toNat 15 15 0)
  else hMove h (-(n : Int))

/-- n zero bytes inserted at A; none beyond the limits (R69, R107), nor beyond byte 127 in compatibility mode (R95). In native
mode A = 256 with a full window is accepted, as A at the frame's end is (DESIGN CHOICE, assumption 99). -/
def winPush (compat : Bool) (c : TF) (a n : Nat) : Option TF :=
  if (compat ∧ 128 ≤ a) ∨ winEnd compat c.x < a ∨ 64 < n ∨ 64 < c.x.net + n then none
  else some {
    x := { c.x with
      win := c.x.win.take a ++ zeros n ++ c.x.win.drop a
      src := c.x.src.take a ++ List.replicate n 0 ++ c.x.src.drop a
      winLen := c.x.winLen + n
      net := c.x.net + n }
    f := { c.f with hidx := c.f.hidx.map (hPush a n), md := mdSet c.f.md 1 31 16 (c.f.len + n) } }

/-- n bytes deleted at A; none beyond the limits (R69, R107). -/
def winPop (compat : Bool) (c : TF) (a n : Nat) : Option TF :=
  if winEnd compat c.x < a + n ∨ 128 < n ∨ c.x.net - n < -128 then none
  else
    let win := c.x.win.take a ++ c.x.win.drop (a + n)
    some {
      x := { c.x with
        win := fitLen (max 256 win.length) win
        src := c.x.src.take a ++ c.x.src.drop (a + n)
        winLen := c.x.winLen - n
        net := c.x.net - n }
      f := { c.f with hidx := c.f.hidx.map (hPop a n), md := mdSet c.f.md 1 31 16 (c.f.len - n) } }

end Sys2Proof.Machine
end

