-- ==== Sys2Proof/Machine/Flags.lean ====
section
/-! DEFINITION. Gristo's flags and conditions (R104) and the arithmetic of the ALU instructions (R105). -/
namespace Sys2Proof.Machine

/-- Flags z and n set from a 32-bit result; c and v stay (R105). -/
def Thread.setZN (x : Thread) (r : Nat) : Thread := { x with z := r == 0, n := bit r 31 }

/-- A condition code's test of the flags (R104). -/
def condTrue (x : Thread) (cs : Nat) : Bool :=
  match cs with
  | 0 => true
  | 1 => x.z
  | 2 => !x.z
  | 3 => x.n
  | 4 => !x.n
  | 5 => x.v
  | 6 => !x.v
  | 7 => x.c
  | 8 => !x.c
  | 9 => x.c && !x.z
  | 10 => !x.c || x.z
  | 11 => x.n == x.v
  | 12 => x.n != x.v
  | 13 => !x.z && x.n == x.v
  | 14 => x.z || x.n != x.v
  | _ => false

/-- Sum modulo 2^32, carry out of bit 31, and signed overflow. -/
def addFlags (a b : Nat) : Nat × Bool × Bool :=
  let r := (a + b) % 2 ^ 32
  (r, decide (2 ^ 32 ≤ a + b), decide (toSigned 32 r ≠ toSigned 32 a + toSigned 32 b))

/-- Difference modulo 2^32, no borrow, and signed overflow. -/
def subFlags (a b : Nat) : Nat × Bool × Bool :=
  let r := (a + 2 ^ 32 - b) % 2 ^ 32
  (r, decide (b ≤ a), decide (toSigned 32 r ≠ toSigned 32 a - toSigned 32 b))

/-- Left shift by n: result and last bit shifted out. -/
def shlFlags (a n : Nat) : Nat × Bool := (a * 2 ^ n % 2 ^ 32, n != 0 && bit a (32 - n))

/-- Right shift by n, zero-filled or sign-filled: result and last bit shifted out. -/
def shrFlags (arith : Bool) (a n : Nat) : Nat × Bool :=
  (if arith then ofSigned 32 (toSigned 32 a / (2 ^ n : Int)) else a / 2 ^ n, n != 0 && bit a (n - 1))

/-- a is the smaller, or equal, signed or unsigned. -/
def leBy (signed : Bool) (a b : Nat) : Bool :=
  if signed then decide (toSigned 32 a ≤ toSigned 32 b) else decide (a ≤ b)

/-- A result written to g[d] with z and n from it (R104, R105). -/
def Thread.result (x : Thread) (compat : Bool) (d r : Nat) : Thread := (x.setG compat d r).setZN r

/-- A result written to g[d] with all four flags. -/
def Thread.resultCV (x : Thread) (compat : Bool) (d : Nat) (r : Nat × Bool × Bool) : Thread :=
  { x.result compat d r.1 with c := r.2.1, v := r.2.2 }

/-- A shift's result written to g[d]; v stays. -/
def Thread.resultC (x : Thread) (compat : Bool) (d : Nat) (r : Nat × Bool) : Thread :=
  { x.result compat d r.1 with c := r.2 }

end Sys2Proof.Machine
end

