-- ==== Sys2Proof/Machine/Flint.lean ====
section
/-! DEFINITION. The Flint engine array: the issue of an instruction (R66, R67, R78-R80, R103), exceptions (R93), the
end of a pass (R127, R140, R141), dispatch and stealing (R79-R87), and changes of role (R84). -/
namespace Sys2Proof.Machine

/-! ## Version slots and thread numbers -/

/-- Cluster, engine and thread of a thread number. -/
def thCl (k : Nat) : Nat := k / 128
/-- engine -/
def thEng (k : Nat) : Nat := k / 4 % 32
/-- thread -/
def thThr (k : Nat) : Nat := k % 4
/-- Thread number of a thread of an engine. -/
def thNum (c e t : Nat) : Nat := 128 * c + 4 * e + t

/-- Engine e of cluster c is reserved now (R79, R84). -/
def engReserved (d : Dev) (c e : Nat) : Bool := bit (d.blk c).reserved e

/-- The engine is to be reserved by FLT_CFG.reserved_engines (R79). -/
def engWanted (e : Env) (c eng : Nat) : Bool := decide (32 - clamp 2 8 (e.f (fltReg c 0) 3 0) ≤ eng)

/-! ## Readiness and choice (R66, R67) -/

/-- The word a thread issues next. -/
def nextWord (d : Dev) (x : Thread) : Nat := ((d.prog x.slot).words.getD x.pc 0).toNat

/-- The thread's tags: four, in compatibility mode two (R102). -/
def tagCnt (compat : Bool) : Nat := if compat then 2 else 4

/-- Tag i of a thread. -/
def Thread.tag (x : Thread) (i : Nat) : Tag := x.tags.getD i {}
/-- Tag i replaced. -/
def Thread.setTag (x : Thread) (i : Nat) (t : Tag) : Thread :=
  { x with tags := (List.range 4).map (fun j => if j = i then t else x.tag j) }

/-- The thread waits in lkw for a lookup that has not returned (R67, R112). -/
def waitsLkw (d : Dev) (x : Thread) : Bool :=
  let w := nextWord d x
  fOp w == 0x44 && fD w != 31 && decide (fCs w < tagCnt (d.prog x.slot).compat) && (x.tag (fCs w)).req.isSome &&
    (x.tag (fCs w)).ans.isNone

/-- Thread k is ready (R67). -/
def thReady (e : Env) (d : Dev) (k : Nat) : Bool :=
  let x := d.thread k
  x.frame.isSome && decide (x.readyAt ≤ e.cycle) && !(waitsLkw d x)

/-- When the frame of thread k entered dispatch. -/
def thEntered (d : Dev) (k : Nat) : Nat := match (d.thread k).frame with
  | some i => (d.frame i).entryAt
  | none => 0

/-- The thread that an engine issues from: a general engine's next ready thread in round-robin order, a reserved
engine's ready thread whose frame entered dispatch earliest (R66). -/
def chosen (e : Env) (d : Dev) (c eng : Nat) : Option Nat :=
  if engReserved d c eng then
    ((List.range 4).filter (fun t => thReady e d (thNum c eng t))).foldl (fun (a : Option Nat) t => match a with
      | none => some t
      | some u => if thEntered d (thNum c eng t) < thEntered d (thNum c eng u) then some t else some u) none
  else
    ((List.range 4).map (fun i => (tget 0 (d.blk c).rr eng + i) % 4)).find? (fun t => thReady e d (thNum c eng t))

/-- Thread k issues now: its cluster is powered, its engine has issued nothing in this cycle and chooses it. -/
def issues (e : Env) (d : Dev) (k : Nat) : Bool :=
  unitOn d (thCl k) && tget 0 (d.blk (thCl k)).issuedAt (thEng k) != e.cycle + 1 &&
    chosen e d (thCl k) (thEng k) == some (thThr k)

/-! ## Checksums at the end of a pass (R126, R127) -/

/-- Where a recorded address now lies: base 0 absolute, n + 1 relative to hN; none when hN has become invalid. -/
def resolve (f : Frame) (base off : Nat) : Option Nat :=
  if base = 0 then some off
  else if f.hv (base - 1) then some ((f.hoff (base - 1) + off) % 2 ^ 32) else none

/-- The network header that an L4 request of a base uses: h6 for h7, else h2. -/
def netOf (f : Frame) (base : Nat) : Option Nat :=
  let n := if base = 8 then 6 else 2
  if f.hv n then some (f.hoff n) else none

/-- Length of an L4 header of a protocol. -/
def l4HdrLen (l : List Byte) (proto off : Nat) : Nat := if proto = 6 then beAt l (off + 12) 1 / 16 * 4 else 8

/-- One's complement sum over an L4 header, its checksum left out, and its pseudo header. -/
def l4Sum (l : List Byte) (net l4 proto o : Nat) : Nat :=
  onesSum (pseudoHdr l net (ipUpper l net).1 ++ put16 (slice l l4 (l4HdrLen l proto l4)) o 0) 0

/-- L4 incremental checksum (R127 step 1): bytes at dispatch and now, and where the two headers stood and stand. -/
def l4Incremental (old cur : List Byte) (oNet oL4 net l4 : Nat) : List Byte :=
  let proto := (ipUpper cur net).1
  match l4CsumOff proto with
  | none => cur
  | some o =>
    if proto = 17 ∧ ipVer cur net = 4 ∧ be16 cur (l4 + o) = 0 then cur
    else
      let r := csumUpdate cur (l4 + o) (l4Sum old oNet oL4 proto o) (l4Sum cur net l4 proto o)
      if proto = 17 ∧ be16 r (l4 + o) = 0 then put16 r (l4 + o) 65535 else r

/-- Where the byte now at an offset of the window stood at dispatch. -/
def origin (x : Thread) (a : Nat) : Option Nat := match x.src.getD a 0 with
  | 0 => none
  | n + 1 => some n

/-- The frame's bytes as the pass leaves them: the window's, and those beyond it unchanged (R69; the window's count after a
pop is `winEnd`'s, assumption 99). -/
def passBytes (c : TF) : List Byte := c.x.win.take c.x.winLen ++ c.f.bytes.drop c.x.loaded

/-- R127 step 1. -/
def step1 (c : TF) (l : List Byte) : List Byte :=
  match tfind c.f.csum 1 with
  | none => l
  | some (base, off) =>
    match resolve c.f base off, netOf c.f base with
    | some l4, some net =>
      match origin c.x l4, origin c.x net with
      | some oL4, some oNet => l4Incremental c.f.bytes l oNet oL4 net l4
      | _, _ => l
    | _, _ => l

/-- R127 step 2. -/
def step2 (compat : Bool) (c : TF) (l : List Byte) : List Byte :=
  match tfind c.f.csum 0 with
  | none => l
  | some (base, off) =>
    match resolve c.f base off with
    | some a => if winEnd compat c.x ≤ a then l else fixIp4 l a (winEnd compat c.x)
    | none => l

/-- The L4 full checksum due at transmit, with its headers' offsets (R126, R127). -/
def l4Full (f : Frame) : Option (Nat × Nat) :=
  match tfind f.csum 2 with
  | none => f.l4
  | some (base, off) =>
    match resolve f base off, netOf f base with
    | some l4, some net => if l4 < 256 then some (l4, net) else none
    | _, _ => none

/-- The stamp request with its address settled for transmit (R126). -/
def stampDue (f : Frame) : Option StampReq :=
  match f.stamp with
  | none => none
  | some r =>
    match resolve f r.base r.off with
    | some a => if a < 256 then some { r with base := 0, off := a } else none
    | none => none

/-- The frame with its pass's edits and requests carried out (R127 steps 1 and 2). -/
def applyEdits (compat : Bool) (c : TF) : Frame :=
  let l := step2 compat c (step1 c (passBytes c))
  { c.f with bytes := l, l4 := l4Full c.f, stamp := stampDue c.f, csum := [] }

/-! ## The end of a pass -/

/-- The drop code and counter of the default action that applies as a pass ends, if one does (R127 step 3, R153). -/
def defaultTrigger (cause : Nat) (f : Frame) : Option (Nat × Nat) :=
  if cause = 1 then some (0x8101, 2) else if cause = 8 then some (0x8108, 3)
  else if mdGet f.md 8 28 28 = 1 then some (0x8302, 1)
  else if f.dstKind = 0 then some (0x8301, 0)
  else none

/-- md.dst set to drop with a code (R73). -/
def mdDrop (md : BitVec 512) (code : Nat) : BitVec 512 := mdSet (mdSet (mdSet md 2 31 28 6) 2 27 0 0) 1 15 0 code

/-- The answers still outstanding to a thread will be discarded (R113). -/
def dropReqs (k : Nat) (d : Dev) : Dev :=
  { d with slate := { d.slate with reqs := d.slate.reqs.map (fun r =>
      if r.2.thread = k then (r.1, { r.2 with dropped := true }) else r) } }

/-- The frame of thread k leaves it: the thread is free 4 cycles later, and the result reaches the sieve then, or
the frame recirculates, or waits for its verdict (R85, R89, R127 step 4, R140, R141). -/
def leaveThread (e : Env) (k i : Nat) (f : Frame) (d : Dev) : Dev :=
  let d := dropReqs k (d.setThread k { freeAt := e.cycle + 4 })
  let spent := f.dstKind == 5 && decide (4 ≤ f.pass)
  let f := if spent then { f with md := mdDrop f.md 0x8303 } else f
  let d := d.setFrame i { f with stage := .sieved }
  let d := if spent then bumpDev e 1 1 f.ctx d else d
  let again := f.dstKind == 5
  let r := scanRequest e i again d
  if r.1 then
    r.2.onFrame i (fun f => { f with completeAt := f.completeAt.map (fun t => max t (e.third + 8)) })
  else if again then recircEnter i r.2
  else r.2.onFrame i (fun f => { f with completeAt := some (e.third + 8) })

/-- The pass of frame i on thread k ends by end, or by a stop with the default action: cause 0, 1 or 8 (R127). -/
def passEnd (e : Env) (k i cause : Nat) (compat : Bool) (c : TF) (d : Dev) : Dev :=
  let f := applyEdits compat c
  match defaultTrigger cause f with
  | some (code, inst) =>
    let r := applyDefault e f.ver f.inPort code inst f.ctx f.md d
    leaveThread e k i { f with md := r.1 } r.2
  | none => leaveThread e k i f d

/-- FLT_EXC_LOG of an exception (R93). -/
def excWord (cause k ver pc : Nat) : Nat :=
  cause * 2 ^ 28 + thEng k * 2 ^ 23 + thThr k * 2 ^ 21 + ver * 2 ^ 14 + pc % 2 ^ 14

/-- A thread stops with an exception cause (R93). -/
def stopThread (e : Env) (k i cause : Nat) (compat : Bool) (c : TF) (pc : Nat) (d : Dev) : Dev :=
  let d := d.onBlk (thCl k) (fun x => { x with excLog := excWord cause k c.f.ver pc })
  let d := raiseEv e (96 + thCl k) (if cause = 1 then 0 else 1) d
  if cause = 1 ∨ cause = 8 then passEnd e k i cause compat c d
  else leaveThread e k i { c.f with bytes := passBytes c, csum := [], md := mdDrop c.f.md (0x8100 + cause) } d

/-! ## Issue (R78-R80, R101, R103) -/

/-- What an instruction's execution comes to. -/
inductive Flow1 where
  /-- it stops its thread with an exception cause, and does nothing else -/
  | stop (cause : Nat)
  /-- the thread goes on at a word index; a taken transfer costs it the following cycle -/
  | goto (c : TF) (pc : Nat) (taken : Bool) (d : Dev)
  /-- the pass ends -/
  | done (c : TF) (d : Dev)
deriving DecidableEq, Repr

/-- What an instruction is given: registers and time, its thread's number and mode, its word. -/
structure Iss where
  e : Env
  k : Nat
  compat : Bool
  w : Nat
deriving DecidableEq, Repr

/-- The opcodes the device decodes (R101). -/
def opDefined (compat : Bool) (o : Nat) : Bool :=
  (1 ≤ o && o ≤ 0x0D) || (0x10 ≤ o && o ≤ 0x13) || (0x20 ≤ o && o ≤ 0x22) || (0x30 ≤ o && o ≤ 0x34) ||
    (0x40 ≤ o && o ≤ 0x44) || (o == 0x4F && compat) || (0x50 ≤ o && o ≤ 0x53) || (0x60 ≤ o && o ≤ 0x6A)

/-- The engine has issued from thread k in this cycle. -/
def issueSlot (e : Env) (k : Nat) (d : Dev) : Dev :=
  cycAdd e (thCl k) 0 1 <| d.onBlk (thCl k) (fun x => { x with
    issuedAt := tput x.issuedAt (thEng k) (e.cycle + 1)
    rr := tset 0 x.rr (thEng k) ((thThr k + 1) % 4) })

/-- The bounds that stop a thread about to issue: the instruction cap of a general engine's thread, the counted
slots of a Bedrock frame's (R78, R80). -/
def bounded (d : Dev) (k : Nat) (x : Thread) : Option Nat :=
  if x.bedrock && decide (160 ≤ x.slots) then some 8
  else if !(engReserved d (thCl k) (thEng k)) && decide (1024 ≤ x.issued) then some 1
  else none

/-- Where an instruction's outcome leaves thread k and its frame (R78, R80, R103). -/
def finish (e : Env) (k i : Nat) (compat : Bool) (c0 : TF) (r : Flow1) (d : Dev) : Dev :=
  match r with
  | .stop cause => stopThread e k i cause compat c0 c0.x.pc d
  | .done c d => passEnd e k i 0 compat c d
  | .goto c pc taken d =>
    let x := { c.x with
      issued := c0.x.issued + 1
      slots := c0.x.slots + (if taken then 2 else 1)
      pc := pc
      readyAt := e.cycle + (if taken then 2 else 1) }
    if (d.prog c0.x.slot).words.length ≤ pc then stopThread e k i 3 compat { c with x := x } c0.x.pc d
    else (d.setThread k x).setFrame i c.f

/-- Thread k issues its next instruction when that has opcode `op`, or one that is undefined (R101). -/
def gristoOp (e : Env) (t : ThreadId) (op : Nat) (body : Iss → TF → Dev → Flow1) (d : Dev) : Dev :=
  let k := ThreadId.key t
  let x := d.thread k
  let compat := (d.prog x.slot).compat
  let w := nextWord d x
  match x.frame with
  | none => d
  | some i =>
    let c : TF := { x := x, f := d.frame i }
    if !(issues e d k) || (fOp w != op && opDefined compat (fOp w)) then d
    else
      let d1 := issueSlot e k d
      match bounded d k x with
      | some cause => stopThread e k i cause compat c x.pc d1
      | none =>
        if opDefined compat (fOp w) then finish e k i compat c (body { e := e, k := k, compat := compat, w := w } c d1) d1
        else stopThread e k i 2 compat c x.pc d1

/-- An instruction that goes on at the next word, or stops. -/
def seqStep (c0 : TF) (d : Dev) (r : Except Nat TF) : Flow1 := match r with
  | .error cause => .stop cause
  | .ok c => .goto c (c0.x.pc + 1) false d

/-- As `seqStep`, for an instruction that acts on the device. -/
def seqDev (c0 : TF) (r : Except Nat (TF × Dev)) : Flow1 := match r with
  | .error cause => .stop cause
  | .ok (c, d) => .goto c (c0.x.pc + 1) false d

/-! ## Dispatch entries (R85, R88) -/

/-- The frame no longer waits. -/
def unwait (b i : Nat) (d : Dev) : Dev :=
  d.onBlk b (fun x => { x with waitGen := x.waitGen.erase i, waitBr := x.waitBr.erase i })

/-- The pre-parser's work at a frame's first dispatch and its place in the sieve (R70, R75, R83, R88). -/
def firstEntry (e : Env) (b i v : Nat) (d : Dev) : Dev :=
  let f := d.frame i
  let f := preParse e { f with md := mdSet f.md 0 23 20 v, tagged := true }
  let s := 32 * f.lp + 2 * mdGet f.md 0 10 7 + f.cg
  let q := tget 0 (d.blk b).nextSeq s
  let d := d.setFrame i { f with stream := s, seq := q, inSieve := true }
  let d := d.onBlk b (fun x => { x with nextSeq := tset 0 x.nextSeq s (q + 1), sieve := x.sieve ++ [i] })
  if f.bedrock && !(hasBrEntry d (some v)) then bumpBlk e b 67 1 f.ctx d else d

/-- The frame takes an entry (R85). -/
def takeEntry (e : Env) (b i : Nat) (bedrock : Bool) (d : Dev) : Dev :=
  let d := d.onFrame i (fun f => { f with stage := .entry, entryAt := e.third })
  d.onBlk b (fun x => if bedrock then { x with dispBr := x.dispBr ++ [i] } else { x with dispGen := x.dispGen ++ [i] })

/-- A frame that is not in the sieve yet comes to dispatch: a Batten frame is consumed (R403), one without a version
is dropped (R134), any other takes its entry. -/
def firstDispatch (e : Env) (b i : Nat) (bedrock : Bool) (d : Dev) : Dev :=
  let f := d.frame i
  let d := unwait b i d
  if f.rxDone && isBatten e f.bytes then dropFrame e i 0 (battenTake e ((body f.bytes).drop 14) d)
  else
    match bearsVer e d f with
    | none => dropFrame e i 0x8304 (bumpDev e 0 1 f.ctx d)
    | some v => takeEntry e b i bedrock (firstEntry e b i v d)

/-- DISPATCH_ENTRY_WRITE: the first frame of a kind that finds room takes a dispatch entry; those that find none wait and are
counted (R85, R88). -/
def entryWriteOp (e : Env) (b : Nat) (bedrock : Bool) (d : Dev) : Dev :=
  match (entryCands e d b bedrock).find? (fun i => !(entryStuck d b bedrock i)), countWaits e b bedrock d with
  | none, d => d
  | some i, d =>
    if (d.frame i).inSieve then takeEntry e b i bedrock ((unwait b i d).onFrame i Frame.reindex)
    else firstDispatch e b i bedrock d

/-! ## Hand-over to threads (R79, R82, R85) -/

/-- Thread k can take a frame. -/
def thFree (e : Env) (d : Dev) (k : Nat) : Bool := (d.thread k).frame.isNone && decide ((d.thread k).freeAt ≤ e.cycle)

/-- The free thread of an engine with the lowest index. -/
def freeThread (e : Env) (d : Dev) (c eng : Nat) : Option Nat := (List.range 4).find? (fun t => thFree e d (thNum c eng t))

/-- Frames an engine holds. -/
def engHolds (d : Dev) (c eng : Nat) : Nat :=
  ((List.range 4).filter (fun t => (d.thread (thNum c eng t)).frame.isSome)).length

/-- The bound that gristas reports for the Bedrock program of a slot, at most the 160 slots of R80 (assumption 33). -/
def brBound (p : SlotSt) : Nat := min 160 (Config.gristasBound p.words p.brEntry)

/-- Bounded work outstanding of a reserved engine (R82). -/
def engWork (d : Dev) (c eng : Nat) : Nat :=
  ((List.range 4).filter (fun t => (d.thread (thNum c eng t)).frame.isSome)).foldl
    (fun a t => a + (brBound (d.prog (d.thread (thNum c eng t)).slot) - (d.thread (thNum c eng t)).slots)) 0

/-- The engine that takes the next frame of a kind: least held, or least bounded work, then lowest index (R82, R85). -/
def engineFor (e : Env) (d : Dev) (c : Nat) (bedrock : Bool) : Option Nat :=
  ((List.range 32).filter (fun g => engReserved d c g == bedrock && (freeThread e d c g).isSome)).foldl
    (fun (a : Option Nat) g => match a with
      | none => some g
      | some b =>
        let m := fun x => if bedrock then engWork d c x else engHolds d c x
        if m g < m b then some g else some b) none

/-- Frame i loaded into thread k; its first instruction issues `extra` cycles later than after a local hand-over
(R68, R85, R86, R94). -/
def loadThread (e : Env) (k i extra : Nat) (bedrock stolen : Bool) (d : Dev) : Dev :=
  let f := d.frame i
  match slotOf d f.ver with
  | none => d
  | some s =>
    let p := d.prog s
    let f := { f with stage := .running, md := mdSet f.md 8 13 13 (if stolen then 1 else 0) }
    let x : Thread := {
      frame := some i
      tags := List.replicate 4 {}
      win := fitLen 256 f.bytes
      src := (List.range 256).map (· + 1)
      winLen := min 256 f.bytes.length
      loaded := min 256 f.bytes.length
      scratch := zeros 128
      pc := if bedrock then p.brEntry else p.entry
      slot := s
      bedrock := bedrock
      readyAt := e.cycle + 8 + extra }
    (d.setThread k x).setFrame i f

/-- The head of cluster c's general entries would be handed over locally in this cycle. -/
def localTakes (e : Env) (d : Dev) (c : Nat) : Bool :=
  unitOn d c && (d.blk c).handGen != e.cycle + 1 && (engineFor e d c false).isSome

/-- THREAD_DISPATCH: cluster c hands the oldest entry of a kind to an engine thread, one of each kind in a cycle
(R85). -/
def dispatchOp (e : Env) (c : Nat) (bedrock : Bool) (d : Dev) : Dev :=
  let x := d.blk c
  let q := if bedrock then x.dispBr else x.dispGen
  let used := if bedrock then x.handBr == e.cycle + 1 else x.handGen == e.cycle + 1
  match q.head?, engineFor e d c bedrock with
  | some i, some g =>
    match freeThread e d c g with
    | none => d
    | some t =>
      if !(unitOn d c) || used || (slotOf d (d.frame i).ver).isNone then d else
        let d := (countWaits e c bedrock d).onBlk c (fun x =>
          if bedrock then { x with dispBr := x.dispBr.drop 1, handBr := e.cycle + 1 }
          else { x with dispGen := x.dispGen.drop 1, handGen := e.cycle + 1 })
        loadThread e (thNum c g t) i 0 bedrock false d
  | _, _ => d

/-! ## Stealing (R86, R87) -/

/-- Cluster v has enough general entries to be stolen from. -/
def stealable (e : Env) (d : Dev) (v : Nat) : Bool :=
  decide (clamp 1 224 (e.f (fltReg v 0) 23 16) ≤ (d.blk v).dispGen.length)

/-- The qualifying cluster of two with the most entries, on equal counts the lower index. -/
def stealPair (e : Env) (d : Dev) (a b : Nat) : Option Nat :=
  let n := fun v => if stealable e d v then (d.blk v).dispGen.length else 0
  let lo := min a b
  let hi := max a b
  if n lo = 0 ∧ n hi = 0 then none else if n hi ≤ n lo then some lo else some hi

/-- The cluster that cluster c would steal from (R86). -/
def stealVictim (e : Env) (d : Dev) (c : Nat) : Option Nat :=
  let dist := e.f (fltReg c 0) 9 8
  if dist = 0 then none
  else (stealPair e d ((c + 1) % 16) ((c + 15) % 16)).or
    (if 2 ≤ dist then stealPair e d ((c + 2) % 16) ((c + 14) % 16) else none)

/-- A general engine of a powered cluster may look for a frame to steal (R86). -/
def maySteal (d : Dev) (c eng : Nat) : Bool := unitOn d c && !(engReserved d c eng) && (d.blk c).dispGen.isEmpty

/-- STEAL: a general engine with a free thread takes a neighbour's oldest entry; a local engine that selects the
same entry in the same cycle has it instead, and the thief may try again from the next cycle (R86, R87). -/
def stealOp (e : Env) (c eng : Nat) (d : Dev) : Dev :=
  match freeThread e d c eng, stealVictim e d c with
  | some t, some v =>
    match (d.blk v).dispGen with
    | [] => d
    | i :: r =>
      if !(maySteal d c eng) || tget 0 (d.blk c).stealLost eng == e.cycle + 1 then d
      else if localTakes e d v || (slotOf d (d.frame i).ver).isNone then
        cycAdd e c 3 1 (d.onBlk c (fun x => { x with stealLost := tput x.stealLost eng (e.cycle + 1) }))
      else
        let d := cycAdd e c 3 1 (countWaits e v false d)
        let d := d.onBlk v (fun x => { x with dispGen := r })
        let ctx := (d.frame i).ctx
        let d := bumpBlk e c 66 1 ctx (bumpBlk e v 65 1 ctx d)
        loadThread e (thNum c eng t) i 12 false true d
  | _, _ => d

/-- ENGINE_ROLE_CHANGE: an engine whose role is to change does so once its threads are idle (R84). -/
def roleChangeOp (e : Env) (c eng : Nat) (d : Dev) : Dev :=
  if engReserved d c eng == engWanted e c eng || !((List.range 4).all (fun t => thFree e d (thNum c eng t))) then d
  else d.onBlk c (fun x => { x with reserved := setBits x.reserved eng eng (if engWanted e c eng then 1 else 0) })

/-! ## Meanings -/

/-- DISPATCH_ENTRY_WRITE -/
def execDispatchEntryWrite (b : Fin 16) (bedrock : Bool) (s : State) : Host.Outcome State Fault Refusal :=
  .next { s with dev := entryWriteOp s.env b.val bedrock s.dev }
/-- THREAD_DISPATCH -/
def execThreadDispatch (c : Fin 16) (bedrock : Bool) (s : State) : Host.Outcome State Fault Refusal :=
  .next { s with dev := dispatchOp s.env c.val bedrock s.dev }
/-- STEAL -/
def execSteal (c : Fin 16) (eng : Fin 32) (s : State) : Host.Outcome State Fault Refusal :=
  .next { s with dev := stealOp s.env c.val eng.val s.dev }
/-- ENGINE_ROLE_CHANGE -/
def execEngineRoleChange (c : Fin 16) (eng : Fin 32) (s : State) : Host.Outcome State Fault Refusal :=
  .next { s with dev := roleChangeOp s.env c.val eng.val s.dev }

end Sys2Proof.Machine
end

