-- ==== Sys2Proof/Machine/Gristo.lean ====
section
/-! DEFINITION. The meanings of Gristo's ALU, field, header-shape and control instructions (R105-R110). -/
namespace Sys2Proof.Machine

/-! ## ALU (R105) -/

/-- An ALU instruction: goes on at the next word with its thread changed. -/
def aluOp (h : Iss → Thread → Thread) (s : Iss) (c : TF) (d : Dev) : Flow1 :=
  seqStep c d (.ok { c with x := h s c.x })

/-- g[s1] of the word. -/
def src1 (s : Iss) (x : Thread) : Nat := x.getG (fS1 s.w)

/-- add -/
def addX (s : Iss) (x : Thread) : Thread := x.resultCV s.compat (fD s.w) (addFlags (src1 s x) (op2 x s.w))
/-- sub -/
def subX (s : Iss) (x : Thread) : Thread := x.resultCV s.compat (fD s.w) (subFlags (src1 s x) (op2 x s.w))
/-- and -/
def andX (s : Iss) (x : Thread) : Thread := x.result s.compat (fD s.w) (src1 s x &&& op2 x s.w)
/-- or -/
def orX (s : Iss) (x : Thread) : Thread := x.result s.compat (fD s.w) (src1 s x ||| op2 x s.w)
/-- xor -/
def xorX (s : Iss) (x : Thread) : Thread := x.result s.compat (fD s.w) (src1 s x ^^^ op2 x s.w)
/-- shl -/
def shlX (s : Iss) (x : Thread) : Thread := x.resultC s.compat (fD s.w) (shlFlags (src1 s x) (op2 x s.w % 32))
/-- shr -/
def shrX (s : Iss) (x : Thread) : Thread :=
  x.resultC s.compat (fD s.w) (shrFlags (bit (fSub s.w) 1) (src1 s x) (op2 x s.w % 32))
/-- min -/
def minX (s : Iss) (x : Thread) : Thread :=
  x.result s.compat (fD s.w) (if leBy (bit (fSub s.w) 1) (src1 s x) (op2 x s.w) then src1 s x else op2 x s.w)
/-- max -/
def maxX (s : Iss) (x : Thread) : Thread :=
  x.result s.compat (fD s.w) (if leBy (bit (fSub s.w) 1) (src1 s x) (op2 x s.w) then op2 x s.w else src1 s x)
/-- mov -/
def movX (s : Iss) (x : Thread) : Thread := x.result s.compat (fD s.w) (src1 s x)
/-- movi -/
def moviX (s : Iss) (x : Thread) : Thread := x.result s.compat (fD s.w) (fImm s.w)
/-- cmp: the flags of sub, no register written -/
def cmpX (s : Iss) (x : Thread) : Thread := x.resultCV s.compat 0 (subFlags (src1 s x) (op2 x s.w))
/-- sel: no flags change -/
def selX (s : Iss) (x : Thread) : Thread :=
  x.setG s.compat (fD s.w) (if condTrue x (fCs s.w) then src1 s x else op2 x s.w)

/-! ## Fields (R106) -/

/-- A value read at an address: z and n from it, v set for an invalid base (R100, R106). -/
def readResult (s : Iss) (c : TF) (v : Nat) : TF :=
  let v := if badBase c.f s.w then 0 else v
  { c with x := { c.x.result s.compat (fD s.w) v with v := badBase c.f s.w } }

/-- The bytes of the word's space. -/
def spaceOf (s : Iss) (c : TF) : List Byte := spaceBytes s.compat c.x c.f (fSpace s.w)

/-- ext -/
def extOp (s : Iss) (c : TF) (d : Dev) : Flow1 :=
  seqStep c d (if fSpace s.w = 3 then .error 2
    else .ok (readResult s c (fieldRead (spaceOf s c) (effAddr c s.w) (fBit s.w) (fWidth s.w))))

/-- extm: z and n from the masked value that g[d] receives (DEDUCED, assumption 99) -/
def extmOp (s : Iss) (c : TF) (d : Dev) : Flow1 :=
  seqStep c d (if fSpace s.w = 3 then .error 2
    else .ok (readResult s c (fieldRead (spaceOf s c) (effAddr c s.w) 0 32 &&& c.x.getG (fS2 s.w))))

/-- A write that is cause 6 where it does not fit. -/
def wrote (r : Option TF) : Except Nat TF := match r with
  | some c => .ok c
  | none => .error 6

/-- A field write at the word's address (R100). -/
def insAt (s : Iss) (c : TF) (bo width v : Nat) : Except Nat TF :=
  if fSpace s.w = 3 then .error 2
  else if badBase c.f s.w then .error 6
  else wrote (fieldWrite s.compat c (fSpace s.w) (effAddr c s.w) bo width v)

/-- ins -/
def insOp (s : Iss) (c : TF) (d : Dev) : Flow1 :=
  seqStep c d (insAt s c (fBit s.w) (fWidth s.w) (c.x.getG (fS1 s.w)))

/-- insm -/
def insmOp (s : Iss) (c : TF) (d : Dev) : Flow1 :=
  let m := c.x.getG (fS2 s.w)
  let old := fieldRead (spaceOf s c) (effAddr c s.w) 0 32
  seqStep c d (insAt s c 0 32 ((old &&& (2 ^ 32 - 1 - m)) ||| (c.x.getG (fS1 s.w) &&& m)))

/-! ## Header shape (R107-R109) -/

/-- hpush and hpop: length 0 does nothing (R98), else an address in the header window. -/
def shapeAt (s : Iss) (c : TF) (edit : Nat → Nat → Option TF) : Except Nat TF :=
  if fLen s.w = 0 then .ok c
  else if fSpace s.w ≠ 0 then .error 2
  else if badBase c.f s.w then .error 6
  else wrote (edit (effAddr c s.w) (fLen s.w))

/-- hpush -/
def hpushOp (s : Iss) (c : TF) (d : Dev) : Flow1 := seqStep c d (shapeAt s c (winPush s.compat c))
/-- hpop -/
def hpopOp (s : Iss) (c : TF) (d : Dev) : Flow1 := seqStep c d (shapeAt s c (winPop s.compat c))

/-- hcopy, as if through a temporary buffer -/
def hcopyOp (s : Iss) (c : TF) (d : Dev) : Flow1 :=
  let n := bits s.w 15 10 + 1
  let ds := bits s.w 9 8
  let ss := bits s.w 7 6
  let dst := (bits s.w 31 24 + c.x.getG (fS1 s.w)) % 2 ^ 32
  let org := (bits s.w 23 16 + c.x.getG (fS2 s.w)) % 2 ^ 32
  seqStep c d (if ds = 3 ∨ ss = 3 then .error 2
    else wrote (spaceWrite s.compat c ds dst (fitLen n (slice (spaceBytes s.compat c.x c.f ss) org n))))

/-! ## Control (R103, R110) -/

/-- A taken transfer to a word index, unless it passes the Bedrock bound (R80) or the image's end. -/
def transfer (c : TF) (pc : Nat) (d : Dev) : Flow1 :=
  if c.x.bedrock && decide (160 < c.x.slots + 2) then .stop 8
  else if (d.prog c.x.slot).words.length ≤ pc then .stop 3
  else .goto c pc true d

/-- br -/
def brOp (s : Iss) (c : TF) (d : Dev) : Flow1 :=
  if condTrue c.x (fCs s.w) then transfer c (fTarget s.w) d else .goto c (c.x.pc + 1) false d

/-- jmp -/
def jmpOp (s : Iss) (c : TF) (d : Dev) : Flow1 :=
  transfer c (if bit (fSub s.w) 0 then c.x.getG (fS1 s.w) % 2 ^ 14 else fTarget s.w) d

/-- call -/
def callOp (s : Iss) (c : TF) (d : Dev) : Flow1 :=
  if c.x.bedrock && decide (160 < c.x.slots + 2) then .stop 8
  else if 4 ≤ c.x.stack.length then .stop 4
  else transfer { c with x := { c.x with stack := (c.x.pc + 1) % 2 ^ 14 :: c.x.stack } } (fTarget s.w) d

/-- ret. A return to the image's end (a call was its last word) runs on past the image as a sequential fall does: cause 3, at
the ret (DESIGN CHOICE, assumption 99). -/
def retOp (_ : Iss) (c : TF) (d : Dev) : Flow1 :=
  if c.x.bedrock && decide (160 < c.x.slots + 2) then .stop 8
  else
    match c.x.stack with
    | [] => .stop 5
    | pc :: r => transfer { c with x := { c.x with stack := r } } pc d

/-- end -/
def endOp (_ : Iss) (c : TF) (d : Dev) : Flow1 := .done c d

/-! ## Meanings -/

/-- ADD -/
def execAdd (t : ThreadId) (s : State) : Host.Outcome State Fault Refusal :=
  .next { s with dev := gristoOp s.env t 0x01 (aluOp addX) s.dev }
/-- SUB -/
def execSub (t : ThreadId) (s : State) : Host.Outcome State Fault Refusal :=
  .next { s with dev := gristoOp s.env t 0x02 (aluOp subX) s.dev }
/-- AND -/
def execAnd (t : ThreadId) (s : State) : Host.Outcome State Fault Refusal :=
  .next { s with dev := gristoOp s.env t 0x03 (aluOp andX) s.dev }
/-- OR -/
def execOr (t : ThreadId) (s : State) : Host.Outcome State Fault Refusal :=
  .next { s with dev := gristoOp s.env t 0x04 (aluOp orX) s.dev }
/-- XOR -/
def execXor (t : ThreadId) (s : State) : Host.Outcome State Fault Refusal :=
  .next { s with dev := gristoOp s.env t 0x05 (aluOp xorX) s.dev }
/-- SHL -/
def execShl (t : ThreadId) (s : State) : Host.Outcome State Fault Refusal :=
  .next { s with dev := gristoOp s.env t 0x06 (aluOp shlX) s.dev }
/-- SHR -/
def execShr (t : ThreadId) (s : State) : Host.Outcome State Fault Refusal :=
  .next { s with dev := gristoOp s.env t 0x07 (aluOp shrX) s.dev }
/-- MIN -/
def execMin (t : ThreadId) (s : State) : Host.Outcome State Fault Refusal :=
  .next { s with dev := gristoOp s.env t 0x08 (aluOp minX) s.dev }
/-- MAX -/
def execMax (t : ThreadId) (s : State) : Host.Outcome State Fault Refusal :=
  .next { s with dev := gristoOp s.env t 0x09 (aluOp maxX) s.dev }
/-- MOV -/
def execMov (t : ThreadId) (s : State) : Host.Outcome State Fault Refusal :=
  .next { s with dev := gristoOp s.env t 0x0A (aluOp movX) s.dev }
/-- MOVI -/
def execMovi (t : ThreadId) (s : State) : Host.Outcome State Fault Refusal :=
  .next { s with dev := gristoOp s.env t 0x0B (aluOp moviX) s.dev }
/-- CMP -/
def execCmp (t : ThreadId) (s : State) : Host.Outcome State Fault Refusal :=
  .next { s with dev := gristoOp s.env t 0x0C (aluOp cmpX) s.dev }
/-- SEL -/
def execSel (t : ThreadId) (s : State) : Host.Outcome State Fault Refusal :=
  .next { s with dev := gristoOp s.env t 0x0D (aluOp selX) s.dev }
/-- EXT -/
def execExt (t : ThreadId) (s : State) : Host.Outcome State Fault Refusal :=
  .next { s with dev := gristoOp s.env t 0x10 extOp s.dev }
/-- INS -/
def execIns (t : ThreadId) (s : State) : Host.Outcome State Fault Refusal :=
  .next { s with dev := gristoOp s.env t 0x11 insOp s.dev }
/-- EXTM -/
def execExtm (t : ThreadId) (s : State) : Host.Outcome State Fault Refusal :=
  .next { s with dev := gristoOp s.env t 0x12 extmOp s.dev }
/-- INSM -/
def execInsm (t : ThreadId) (s : State) : Host.Outcome State Fault Refusal :=
  .next { s with dev := gristoOp s.env t 0x13 insmOp s.dev }
/-- HPUSH -/
def execHpush (t : ThreadId) (s : State) : Host.Outcome State Fault Refusal :=
  .next { s with dev := gristoOp s.env t 0x20 hpushOp s.dev }
/-- HPOP -/
def execHpop (t : ThreadId) (s : State) : Host.Outcome State Fault Refusal :=
  .next { s with dev := gristoOp s.env t 0x21 hpopOp s.dev }
/-- HCOPY -/
def execHcopy (t : ThreadId) (s : State) : Host.Outcome State Fault Refusal :=
  .next { s with dev := gristoOp s.env t 0x22 hcopyOp s.dev }
/-- BR -/
def execBr (t : ThreadId) (s : State) : Host.Outcome State Fault Refusal :=
  .next { s with dev := gristoOp s.env t 0x30 brOp s.dev }
/-- JMP -/
def execJmp (t : ThreadId) (s : State) : Host.Outcome State Fault Refusal :=
  .next { s with dev := gristoOp s.env t 0x31 jmpOp s.dev }
/-- CALL -/
def execCall (t : ThreadId) (s : State) : Host.Outcome State Fault Refusal :=
  .next { s with dev := gristoOp s.env t 0x32 callOp s.dev }
/-- RET -/
def execRet (t : ThreadId) (s : State) : Host.Outcome State Fault Refusal :=
  .next { s with dev := gristoOp s.env t 0x33 retOp s.dev }
/-- END -/
def execEndPass (t : ThreadId) (s : State) : Host.Outcome State Fault Refusal :=
  .next { s with dev := gristoOp s.env t 0x34 endOp s.dev }

end Sys2Proof.Machine
end

