-- ==== Sys2Proof/Machine/FlowCtr.lean ====
section
/-! DEFINITION. Flow counters (R123, R335, R336): accumulation, spills, and the commands that read and set them. -/
namespace Sys2Proof.Machine

/-- Full range of the frame and the byte accumulator. -/
def accMaxF : Nat := 2 ^ 20 - 1
def accMaxB : Nat := 2 ^ 32 - 1

/-- Flow counter i. -/
def Dev.flow (d : Dev) (i : Nat) : Flow := tget { lost := d.slate.flowLost } d.slate.flows i
/-- Flow counter i replaced. -/
def Dev.setFlow (d : Dev) (i : Nat) (x : Flow) : Dev :=
  { d with slate := { d.slate with flows := tset { lost := d.slate.flowLost } d.slate.flows i x } }

/-- One frame and n bytes added; an accumulator at its full range holds there and sets sat. -/
def Flow.add (x : Flow) (n : Nat) : Flow :=
  { x with
    accF := min accMaxF (x.accF + 1)
    accB := min accMaxB (x.accB + n)
    sat := x.sat || decide (accMaxF ≤ x.accF + 1) || decide (accMaxB ≤ x.accB + n) }

/-- The update a cnt posts. -/
def flowAdd (e : Env) (i n : Nat) (d : Dev) : Dev := twinMark e 9 i (d.setFlow i ((d.flow i).add n))

/-- An accumulator whose top bit is set is added to its total and cleared (R335). -/
def Flow.spill (x : Flow) : Flow :=
  let x := if bit x.accF 19 then { x with frames := (x.frames + x.accF) % 2 ^ 64, accF := 0 } else x
  if bit x.accB 31 then { x with bytes := (x.bytes + x.accB) % 2 ^ 64, accB := 0 } else x

/-- ACCUMULATOR_SPILL: nothing is written while Loft is not in service. -/
def spillOp (i : Nat) (d : Dev) : Dev := if loftServes d then d.setFlow i (d.flow i).spill else d

/-- Value of a flow counter: Loft totals plus accumulators. -/
def Flow.frameTotal (x : Flow) : Nat := (x.frames + x.accF) % 2 ^ 64
def Flow.byteTotal (x : Flow) : Nat := (x.bytes + x.accB) % 2 ^ 64

/-- The 16 bytes FLOW_READ writes of a counter. -/
def flowBytes (x : Flow) : List Byte :=
  natLE 8 (x.frameTotal % 2 ^ 62 + flagAt x.lost 62 + flagAt x.sat 63) ++ natLE 8 x.byteTotal

/-- The arguments name counters that exist. -/
def flowArgsOk (d : Dev) (k : Nat) : Bool :=
  let n := argWord d k 5
  decide (1 ≤ n) && decide (n ≤ 65536) && decide (argWord d k 4 + n ≤ 524288)

/-- FLOW_READ -/
def flowReadOp (k : Nat) (s : State) : State :=
  let d := s.dev
  if !(canStart d k 0x32) then s
  else if !(flowArgsOk d k) || !(loftServes d) then { s with dev := cmdFinish s.env k stRejected [] d }
  else
    let l := (List.range (argWord d k 5)).flatMap (fun i => flowBytes (d.flow (argWord d k 4 + i)))
    { s with host := mwrite s.host (argAddr d k 6) l, dev := cmdFinish s.env k stOk [] d }

/-- FLOW_SET -/
def flowSetOp (e : Env) (k : Nat) (d : Dev) : Dev :=
  if !(canStart d k 0x33) then d
  else if !(flowArgsOk d k) || !(loftServes d) then cmdFinish e k stRejected [] d
  else
    let x : Flow := { frames := argAddr d k 6, bytes := argAddr d k 8 }
    let first := argWord d k 4
    cmdFinish e k stOk [] ((List.range (argWord d k 5)).foldl
      (fun d i => twinMark e 9 (first + i) (d.setFlow (first + i) x)) d)

/-- LOFT_RESTART discards every total and sets lost on every counter (R335). -/
def flowLose (e : Env) (d : Dev) : Dev :=
  let l := d.slate.flows.map (fun r => (r.1, { r.2 with frames := 0, bytes := 0, lost := true }))
  raiseEv e 134 3 { d with slate := { d.slate with
    flows := l.filter (fun r => decide (r.2 ≠ { lost := true })), flowLost := true } }

/-- ACCUMULATOR_SPILL -/
def execAccumulatorSpill (i : Fin 524288) (s : State) : Host.Outcome State Fault Refusal :=
  .next { s with dev := spillOp i.val s.dev }
/-- FLOW_READ -/
def execFlowRead (slot : Fin 4096) (s : State) : Host.Outcome State Fault Refusal := .next (flowReadOp slot.val s)
/-- FLOW_SET -/
def execFlowSet (slot : Fin 4096) (s : State) : Host.Outcome State Fault Refusal :=
  .next { s with dev := flowSetOp s.env slot.val s.dev }

end Sys2Proof.Machine
end

