-- ==== Sys2Proof/Machine/Meters.lean ====
section
/-! DEFINITION. Meters (R117, R118) and sequence generation and recovery (R119-R121). Buckets are kept in
1/24,000,000 byte: a rate of r kb/s adds r of them in a third of a nanosecond. -/
namespace Sys2Proof.Machine

/-- Words of a table of the BAR2 window from an offset. -/
def rawWords (t : Tbl Word) (off n : Nat) : List Word := (List.range n).map (fun i => tget 0 t (off / 4 + i))

/-! ## Policer profiles (R117) -/

/-- A policer profile as the meter unit uses it: two rates or one, rates in kb/s, burst sizes in bytes. -/
structure Profile where
  two : Bool
  cir : Nat
  pir : Nat
  cbs : Nat
  ebs : Nat
deriving DecidableEq, Repr

/-- A rate field in 64 kb/s: 0 acts as the smallest, above 400 Gb/s as the largest. -/
def rateOf (n : Nat) : Nat := 64 * clamp 1 6250000 n
/-- A burst field in bytes: 0 acts as 64, above 16 MiB as 16 MiB. -/
def burstOf (n : Nat) : Nat := clamp 64 16777216 n

/-- The profile its words stand for; a profile all zero, as after reset, has every rate and burst 0 (R117). -/
def profileOf (l : List Word) : Profile :=
  let z := l.all (· == 0)
  let v := fun (x : Word) => if z then 0 else x.toNat
  { two := Config.policerTwoRate l, cir := rateOf (v (Config.policerCir l)), pir := rateOf (v (Config.policerPir l)),
    cbs := burstOf (v (Config.policerCbs l)), ebs := burstOf (v (Config.policerEbs l)) }

/-- The profile that meter m names, as active. -/
def meterProfile (d : Dev) (m : Nat) : Profile :=
  let p := (Config.meterProfile (rawWords d.slate.raw (0x4800000 + 16 * m) 4)).toNat
  profileOf (rawWords d.slate.rawActive (0x4C00000 + 32 * p) 8)

/-! ## The markers of RFC 2697 and RFC 2698 -/

/-- Bucket units in a byte. -/
def tok : Nat := 24000000

/-- The buckets brought up to a time; a burst that became smaller cuts them first (R118). Tokens for the time before a swap of
profiles are added at the new profile's rates: DESIGN CHOICE, assumption 99. -/
def meterFill (p : Profile) (m : Meter) (now : Nat) : Nat × Nat :=
  let dt := now - m.at3
  let cb := p.cbs * tok
  let eb := p.ebs * tok
  let tc := min (m.tc.getD cb) cb
  let te := min (m.te.getD eb) eb
  if p.two then (min cb (tc + p.cir * dt), min eb (te + p.pir * dt))
  else
    let t := tc + p.cir * dt
    (min cb t, min eb (te + (t - cb)))

/-- Colour of a packet of n bytes and the buckets after it: 0 green, 1 yellow, 2 red; pre-colour 0 when colour-blind. -/
def meterMark (two : Bool) (pre n : Nat) (tc te : Nat) : Nat × Nat × Nat :=
  let b := n * tok
  if two then
    if pre = 2 ∨ te < b then (2, tc, te)
    else if pre = 1 ∨ tc < b then (1, tc, te - b)
    else (0, tc - b, te - b)
  else
    if pre = 0 ∧ b ≤ tc then (0, tc - b, te)
    else if pre ≤ 1 ∧ b ≤ te then (1, tc, te - b)
    else (2, tc, te)

/-- An update of meter m by n bytes at a time: its colour, and the buckets stored. -/
def meterRun (e : Env) (now m n : Nat) (pre : Nat) (d : Dev) : Nat × Dev :=
  let p := meterProfile d m
  let x := tget {} d.slate.meters m
  let t := meterFill p x now
  let r := meterMark p.two (min 2 pre) n t.1 t.2
  let y : Meter := { tc := some r.2.1, te := some r.2.2, at3 := now }
  (r.1, twinMark e 7 m { d with slate := { d.slate with meters := tput d.slate.meters m y } })

/-! ## Sequence generation and recovery -/

/-- Generation counter st set. -/
def setGen (st v : Nat) (d : Dev) : Dev :=
  { d with slate := { d.slate with gen := tset d.slate.genDef d.slate.gen st (v % 65536) } }

/-- seqg: the next number of a generation stream (R119). -/
def genNext (e : Env) (st : Nat) (d : Dev) : Nat × Dev :=
  let n := tget d.slate.genDef d.slate.gen st
  (n, twinMark e 4 (2 * st) (setGen st (n + 1) d))

/-- History length of a recovery stream, 1-32 (R120). -/
def recovLen (d : Dev) (st : Nat) : Nat := clamp 1 32 (Config.recovHistory (rawWords d.slate.raw (0x5000000 + 16 * st) 4)).toNat

/-- A recovery stream whose reset timeout has passed without an accepted frame starts afresh (IEEE 802.1CB). -/
def recovFresh (now : Nat) (d : Dev) (st : Nat) : Recov :=
  let x := tget {} d.slate.recov st
  let t := (Config.recovReset (rawWords d.slate.raw (0x5000000 + 16 * st) 4)).toNat
  if !x.takeAny ∧ x.last + ns t ≤ now then { x with takeAny := true, hist := 0, seq := 65535 } else x

/-- The vector recovery function of IEEE 802.1CB: 0 pass, 1 duplicate, 2 rogue. A rogue advances the rogue count and no
other: DESIGN CHOICE, assumption 99. -/
def recovStep (now len n : Nat) (x : Recov) : Nat × Recov :=
  let acc : Recov := { x with passed := x.passed + 1, last := now, takeAny := false }
  if x.takeAny then (0, { acc with seq := n, hist := 1 })
  else
    let delta := toSigned 16 (n + 65536 - x.seq)
    if (len : Int) ≤ delta ∨ delta ≤ -(len : Int) then (2, { x with rogue := x.rogue + 1 })
    else if delta ≤ 0 then
      if bit x.hist delta.natAbs then (1, { x with discarded := x.discarded + 1 })
      else (0, { acc with hist := setBits x.hist delta.natAbs delta.natAbs 1 })
    else (0, { acc with seq := n, hist := (x.hist * 2 ^ delta.natAbs + 1) % 2 ^ len })

/-- seqr: the decision at a time for a frame of a recovery stream (R120). -/
def recovRun (e : Env) (now st n : Nat) (d : Dev) : Nat × Dev :=
  let r := recovStep now (recovLen d st) n (recovFresh now d st)
  (r.1, twinMark e 4 (2 * st + 1) { d with slate := { d.slate with recov := tput d.slate.recov st r.2 } })

/-! ## Order within a cycle (R118, R121) -/

/-- The requests taken so far in this core cycle. -/
def unitOps (e : Env) (d : Dev) : List UnitOp := if d.slate.opsAt = e.cycle then d.slate.ops else []

/-- A request put into the cycle's list, which ascends by engine. -/
def unitIns (o : UnitOp) (l : List UnitOp) : List UnitOp :=
  l.filter (fun p => decide (p.eng < o.eng)) ++ o :: l.filter (fun p => decide (o.eng < p.eng))

/-- A request applied to its meter or stream as that stands: the answer, and the request noted with what it found. -/
def unitOne (e : Env) (o : UnitOp) (d : Dev) : Answer × Dev :=
  let i := o.item / 2
  let note : UnitOp := { o with meter := tget {} d.slate.meters i, recov := tget {} d.slate.recov i }
  let d := { d with slate := { d.slate with ops := unitIns note (unitOps e d), opsAt := e.cycle } }
  if o.item % 2 = 0 then
    let r := meterRun e o.at3 i o.arg o.pre d
    ({ value := r.1, z := r.1 == 0, colour := some r.1 }, r.2)
  else
    let r := recovRun e o.at3 i o.arg d
    ({ value := r.1, z := r.1 == 0, seq := some (o.arg * 65536 + i) }, r.2)

/-- The meter or stream of a noted request put back as the request found it. -/
def unitBack (o : UnitOp) (d : Dev) : Dev :=
  if o.item % 2 = 0 then { d with slate := { d.slate with meters := tput d.slate.meters (o.item / 2) o.meter } }
  else { d with slate := { d.slate with recov := tput d.slate.recov (o.item / 2) o.recov } }

/-- A request of the cycle applied again: its waiting answer becomes the new one. -/
def unitAgain (e : Env) (o : UnitOp) (d : Dev) : Dev :=
  let r := unitOne e o d
  match tfind r.2.slate.reqs o.req with
  | none => r.2
  | some q => { r.2 with slate := { r.2.slate with reqs := tput r.2.slate.reqs o.req { q with kind := .done r.1 } } }

/-- A request taken by its unit: before the requests of the same item and cycle that come from a later cluster, or from a
later engine of the same cluster, and after all others (R118, R121). The commands of a cycle may come in any order: the
later ones already applied are taken back and applied again after it (DESIGN CHOICE, assumption 100). -/
def unitRun (e : Env) (o : UnitOp) (d : Dev) : Answer × Dev :=
  let late := (unitOps e d).filter (fun p => p.item == o.item && decide (o.eng < p.eng))
  let d := match late.head? with
    | none => d
    | some p => unitBack p d
  let r := unitOne e o d
  (r.1, late.foldl (fun d p => unitAgain e p d) r.2)

end Sys2Proof.Machine
end

