-- ==== Sys2Proof/Machine/SlatePort.lean ====
section
/-! DEFINITION. Slate's lookup ports (R175), the answers of lookups (R112-R114), and the learning engine and the ager in
their order with lookups (R180, R187-R189). -/
namespace Sys2Proof.Machine

/-! ## Answers (R112-R115) -/

/-- An answer of a table lookup: value, miss, parity miss. -/
def lkAnswer (r : (Nat × Bool × Bool) × Dev) : Answer × Dev :=
  ({ value := r.1.1, z := r.1.2.1, c := r.1.2.2 }, r.2)

/-- The answer a request gets from the tables as they stand (R114). -/
def answerOf (e : Env) (k : LkKind) (d : Dev) : Answer × Dev :=
  match k with
  | .x profile key => lkAnswer (xLookup e profile key d)
  | .p v6 addr vrf => lkAnswer (pLookup e v6 addr vrf d)
  | .t wide key ver => lkAnswer (tLookup e wide key ver d)
  | .d table index => lkAnswer (dLookup e table index d)
  | .done a => (a, d)

/-! ## The ports (R175) -/

/-- The request waits for its cluster's lookup port. -/
def LkKind.waits : LkKind → Bool
  | .done _ => false
  | _ => true

/-- The request comes from a reserved engine. -/
def reqReserved (d : Dev) (q : LkReq) : Bool := bit (d.blk (q.thread / 128)).reserved (q.thread / 4 % 32)

/-- The request that the port of cluster c takes next: of a reserved engine ahead of all others, the oldest first. -/
def portNext (d : Dev) (c : Nat) : Option Nat :=
  let l := d.slate.reqs.filter (fun r => r.2.kind.waits && r.2.thread / 128 == c)
  ((l.find? (fun r => reqReserved d r.2)).or l.head?).map (·.1)

/-- Request n is taken: its answer is read from the tables as they stand. -/
def reqTake (e : Env) (n : Nat) (d : Dev) : Dev :=
  match tfind d.slate.reqs n with
  | none => d
  | some q =>
    let r := answerOf e q.kind d
    { r.2 with slate := { r.2.slate with reqs := tput r.2.slate.reqs n { q with kind := .done r.1 } } }

/-- Requests that the port of cluster c has taken in this core cycle. -/
def portTaken (e : Env) (d : Dev) (c : Nat) : Nat := if d.slate.tookAt = e.cycle then tget 0 d.slate.took c else 0

/-- One request taken by the port of cluster c, if it has taken fewer than two in this core cycle. -/
def portOne (e : Env) (c : Nat) (d : Dev) : Dev :=
  if 2 ≤ portTaken e d c then d else
    match portNext d c with
    | none => d
    | some n =>
      let base := if d.slate.tookAt = e.cycle then d.slate.took else []
      let d := { d with slate := { d.slate with took := tset 0 base c (tget 0 base c + 1), tookAt := e.cycle } }
      cycAdd e c 4 1 (reqTake e n d)

/-- Every port takes what it still can in this core cycle. -/
def portsTake (e : Env) (d : Dev) : Dev := (List.range 16).foldl (fun d c => portOne e c (portOne e c d)) d

/-! ## The learning engine and the ager -/

/-- A LEARN waits until its thread's earlier lookups have been taken: they never see it (R187). -/
def learnWaits (d : Dev) (r : LearnReq) : Bool :=
  d.slate.reqs.any (fun q => decide (q.1 < r.after) && q.2.thread == r.thread && q.2.kind.waits)

/-- LEARN_REQUEST_SERVE, behind the lookups of its core cycle. -/
def learnServeOp (e : Env) (d : Dev) : Dev :=
  let d := portsTake e d
  match learnNext d with
  | none => d
  | some q =>
    let next := { d with slate := { d.slate with learnRr := (q + 1) % 17 } }
    if q = 16 then
      match d.slate.hostQ with
      | [] => d
      | r :: rest => learnServe e none r { next with slate := { next.slate with hostQ := rest } }
    else
      match (d.blk q).learnQ with
      | [] => d
      | r :: rest =>
        if learnWaits d r then d else learnServe e (some q) r (next.onBlk q (fun x => { x with learnQ := rest }))

/-- AGER_BUCKET_READ: the next bucket of the sweep, behind the hits of its core cycle (R189). A device that has become a
standby ages nothing more (R371). -/
def agerOp (e : Env) (d : Dev) : Dev :=
  match d.slate.sweep with
  | none => d
  | some b => if isStandby e then { d with slate := { d.slate with sweep := none } } else
    let d := (xSlots 0 b).foldl (ageSlot e) (portsTake e d)
    { d with slate := { d.slate with sweep := if b + 1 < 262144 then some (b + 1) else none } }

/-! ## Meanings -/

/-- LEARN_REQUEST_SERVE -/
def execLearnRequestServe (s : State) : Host.Outcome State Fault Refusal :=
  .next { s with dev := learnServeOp s.env s.dev }
/-- AGER_BUCKET_READ -/
def execAgerBucketRead (s : State) : Host.Outcome State Fault Refusal := .next { s with dev := agerOp s.env s.dev }

end Sys2Proof.Machine
end

