-- ==== Sys2Proof/Machine/GristoLk.lean ====
section
/-! DEFINITION. The meanings of Gristo's tagged operations, hash, counter and learning instructions (R111-R124), and the
arrival of an answer. -/
namespace Sys2Proof.Machine

/-! ## Requests (R111) -/

/-- A request entered under the next number: the number and the device. -/
def postReq (q : LkReq) (d : Dev) : Dev :=
  let n := d.slate.nextReq
  { d with slate := { d.slate with reqs := tput d.slate.reqs n q, nextReq := n + 1 } }

/-- A tagged operation: its encoding is checked, then the Bedrock limit (R80), then its tag; it sends its request and
goes on. -/
def tagOp (s : Iss) (c : TF) (enc : Bool) (send : Dev → LkKind × Dev) (d : Dev) : Flow1 :=
  let t := fCs s.w
  if !enc || decide (tagCnt s.compat ≤ t) then .stop 2
  else if c.x.bedrock && decide (3 ≤ c.x.lookups) then .stop 8
  else if (c.x.tag t).req.isSome then .stop 7
  else
    let r := send d
    let x := c.x.setTag t { req := some r.2.slate.nextReq }
    .goto { c with x := { x with lookups := c.x.lookups + 1 } } (c.x.pc + 1) false
      (postReq { thread := s.k, tag := t, kind := r.1, since := s.e.third } r.2)

/-- A lookup waits for the cluster's Slate port (R175). -/
def lookupSend (k : LkKind) (d : Dev) : LkKind × Dev := (k, d)

/-- lkx -/
def lkxOp (s : Iss) (c : TF) (d : Dev) : Flow1 :=
  tagOp s c (decide (fS1 s.w ≤ 28)) (lookupSend (.x (bits (fSub s.w) 3 0) (c.x.key (fS1 s.w)))) d

/-- lkp -/
def lkpOp (s : Iss) (c : TF) (d : Dev) : Flow1 :=
  let v6 := bit (fSub s.w) 0
  tagOp s c (!v6 || decide (fS1 s.w ≤ 28))
    (lookupSend (.p v6 (if v6 then c.x.key (fS1 s.w) else c.x.getG (fS1 s.w)) (c.x.getG (fS2 s.w) % 4096))) d

/-- lkt: the key is built from the window and md as they stand (R114, R149). -/
def lktOp (s : Iss) (c : TF) (d : Dev) : Flow1 :=
  let win := spaceBytes s.compat c.x c.f 0
  let key := buildKey d c.f.ver (bits (fSub s.w) 3 0) win c.f.hidx c.f.md (c.x.getG (fS1 s.w))
  tagOp s c true (lookupSend (.t key.1 key.2 c.f.ver)) d

/-- lkd -/
def lkdOp (s : Iss) (c : TF) (d : Dev) : Flow1 :=
  tagOp s c true (lookupSend (.d (fSub s.w) ((c.x.getG (fS1 s.w) + bits (fImm s.w) 23 0) % 2 ^ 32))) d

/-- The thread's engine as the meter and recovery units order it. -/
def thUnit (s : Iss) : Nat := 32 * thCl s.k + thEng s.k

/-- A request to the meter or the recovery unit, whose answer waits for its LOOKUP_ANSWER (R118, R121). -/
def unitSend (s : Iss) (item arg pre : Nat) (d : Dev) : LkKind × Dev :=
  let r := unitRun s.e { eng := thUnit s, req := d.slate.nextReq, item := item, arg := arg, pre := pre, at3 := s.e.third } d
  (.done r.1, r.2)

/-- mtr -/
def mtrOp (s : Iss) (c : TF) (d : Dev) : Flow1 :=
  tagOp s c true (unitSend s (2 * (c.x.getG (fS1 s.w) % 2 ^ 18)) (lenOperand c.f c.x s.w)
    (if bit (fSub s.w) 0 then mdGet c.f.md 0 12 11 else 0)) d

/-- seqg -/
def seqgOp (s : Iss) (c : TF) (d : Dev) : Flow1 :=
  tagOp s c true (fun d =>
    let st := c.x.getG (fS1 s.w) % 65536
    let r := genNext s.e st d
    (.done { value := r.1, seq := some (r.1 * 65536 + st) }, r.2)) d

/-- seqr -/
def seqrOp (s : Iss) (c : TF) (d : Dev) : Flow1 :=
  tagOp s c true (unitSend s (2 * (c.x.getG (fS1 s.w) % 65536) + 1) (c.x.getG (fS2 s.w) % 65536) 0) d

/-! ## Answers (R112-R114, R116) -/

/-- LOOKUP_ANSWER: the answer to a request that has been taken arrives at its thread's tag, or is discarded (R111, R113); the
ports take first what they still can in this core cycle (R175). -/
def lookupAnswerOp (e : Env) (n : Nat) (d : Dev) : Dev :=
  let d := portsTake e d
  match tfind d.slate.reqs n with
  | some { thread := k, tag := t, kind := .done a, dropped := dropped, since := _ } =>
    let d := { d with slate := { d.slate with reqs := tdel d.slate.reqs n } }
    if dropped then d else d.setThread k ((d.thread k).setTag t { req := some n, ans := some a })
  | _ => d

/-- What lkw writes to md (R117, R119, R120). -/
def answerMd (a : Answer) (md : BitVec 512) : BitVec 512 :=
  let md := match a.colour with
    | some v => mdSet md 0 12 11 v
    | none => md
  match a.seq with
  | some v => mdSet md 5 31 0 v
  | none => md

/-- The thread and frame with an answer collected into g[d] and g[d+1] (R112). -/
def collect (s : Iss) (c : TF) (a : Answer) : TF :=
  let x := c.x.setTag (fCs s.w) {}
  let x := if fD s.w = 0 then x else
    (x.setG s.compat (fD s.w) (a.value % 2 ^ 32)).setG s.compat (fD s.w + 1) (a.value / 2 ^ 32)
  { x := { x with z := a.z, c := a.c, n := false, v := false }, f := { c.f with md := answerMd a c.f.md } }

/-- lkw: it issues only once its answer has come (R103), so a tag without one has nothing outstanding. -/
def lkwOp (s : Iss) (c : TF) (d : Dev) : Flow1 :=
  if fD s.w = 31 ∨ tagCnt s.compat ≤ fCs s.w then .stop 2
  else
    match (c.x.tag (fCs s.w)).ans with
    | none => .stop 7
    | some a => seqStep c d (.ok (collect s c a))

/-- lkc: the request on a tag is cancelled and its answer will be discarded (R116). -/
def lkcOp (s : Iss) (c : TF) (d : Dev) : Flow1 :=
  if tagCnt s.compat ≤ fCs s.w then .stop 2
  else
    let d := match (c.x.tag (fCs s.w)).req with
      | none => d
      | some n => match tfind d.slate.reqs n with
        | some q => { d with slate := { d.slate with reqs := tput d.slate.reqs n { q with dropped := true } } }
        | none => d
    .goto { c with x := c.x.setTag (fCs s.w) {} } (c.x.pc + 1) false d

/-! ## Hash, counters and learning (R122-R124) -/

/-- Bytes of n registers from g[i], most significant byte first. -/
def regBytes (x : Thread) (i n : Nat) : List Byte := (List.range n).flatMap (fun j => natBE 4 (x.getG (i + j)))

/-- Toeplitz hash: key bits, input bits left, input bits taken. -/
def toeplitz (key : Nat) : List Bool → Nat → Nat
  | [], _ => 0
  | b :: r, i => (if b then key / 2 ^ (288 - i) % 2 ^ 32 else 0) ^^^ toeplitz key r (i + 1)

/-- The bits of bytes, most significant first. -/
def msbBits (l : List Byte) : List Bool := l.flatMap (fun b => (List.range 8).map (fun i => bit b.toNat (7 - i)))

/-- The hash of hsh. -/
def hashOf (d : Dev) (f : Frame) (x : Thread) (w : Nat) : Nat :=
  let l := regBytes x (fS1 w) (fCs w + 1)
  if bits (fSub w) 1 0 = 0 then
    (l.foldl (crcByte 0x82F63B78) (0xFFFFFFFF ^^^ x.getG (fS2 w))) ^^^ 0xFFFFFFFF
  else toeplitz (beNat (bankBytes d f.ver 0 40)) (msbBits l) 0

/-- hsh -/
def hshOp (s : Iss) (c : TF) (d : Dev) : Flow1 :=
  let fn := bits (fSub s.w) 1 0
  let n := fCs s.w + 1
  if 32 < fS1 s.w + n ∨ 2 ≤ fn ∨ (fn = 1 ∧ 9 < n) then .stop 2
  else
    let h := hashOf d c.f c.x s.w
    let f := if bit (fSub s.w) 2 then { c.f with md := mdSet c.f.md 10 31 0 h } else c.f
    seqStep c d (.ok { x := c.x.setG s.compat (fD s.w) h, f := f })

/-- cnt -/
def cntOp (s : Iss) (c : TF) (d : Dev) : Flow1 :=
  seqDev c (.ok (c, flowAdd s.e (c.x.getG (fS1 s.w) % 2 ^ 19) (lenOperand c.f c.x s.w) d))

/-- learn: to the queue of the block whose engine issues it -/
def learnOp (s : Iss) (c : TF) (d : Dev) : Flow1 :=
  if 28 < fS1 s.w ∨ 30 < fS2 s.w then .stop 2
  else
    let r : LearnReq := { profile := bits (fSub s.w) 3 0, key := c.x.key (fS1 s.w),
                          result := c.x.getG (fS2 s.w) + c.x.getG (fS2 s.w + 1) * 2 ^ 32, op := 0,
                          thread := s.k, after := d.slate.nextReq }
    seqDev c (.ok (c, learnPost s.e (thCl s.k) r d))

/-! ## Meanings -/

/-- LOOKUP_ANSWER -/
def execLookupAnswer (req : Nat) (s : State) : Host.Outcome State Fault Refusal :=
  .next { s with dev := lookupAnswerOp s.env req s.dev }
/-- LKX -/
def execLkx (t : ThreadId) (s : State) : Host.Outcome State Fault Refusal :=
  .next { s with dev := gristoOp s.env t 0x40 lkxOp s.dev }
/-- LKP -/
def execLkp (t : ThreadId) (s : State) : Host.Outcome State Fault Refusal :=
  .next { s with dev := gristoOp s.env t 0x41 lkpOp s.dev }
/-- LKT -/
def execLkt (t : ThreadId) (s : State) : Host.Outcome State Fault Refusal :=
  .next { s with dev := gristoOp s.env t 0x42 lktOp s.dev }
/-- LKD -/
def execLkd (t : ThreadId) (s : State) : Host.Outcome State Fault Refusal :=
  .next { s with dev := gristoOp s.env t 0x43 lkdOp s.dev }
/-- LKW -/
def execLkw (t : ThreadId) (s : State) : Host.Outcome State Fault Refusal :=
  .next { s with dev := gristoOp s.env t 0x44 lkwOp s.dev }
/-- LKC -/
def execLkc (t : ThreadId) (s : State) : Host.Outcome State Fault Refusal :=
  .next { s with dev := gristoOp s.env t 0x4F lkcOp s.dev }
/-- HSH -/
def execHsh (t : ThreadId) (s : State) : Host.Outcome State Fault Refusal :=
  .next { s with dev := gristoOp s.env t 0x50 hshOp s.dev }
/-- MTR -/
def execMtr (t : ThreadId) (s : State) : Host.Outcome State Fault Refusal :=
  .next { s with dev := gristoOp s.env t 0x51 mtrOp s.dev }
/-- CNT -/
def execCnt (t : ThreadId) (s : State) : Host.Outcome State Fault Refusal :=
  .next { s with dev := gristoOp s.env t 0x52 cntOp s.dev }
/-- LEARN -/
def execLearn (t : ThreadId) (s : State) : Host.Outcome State Fault Refusal :=
  .next { s with dev := gristoOp s.env t 0x53 learnOp s.dev }
/-- SEQG -/
def execSeqg (t : ThreadId) (s : State) : Host.Outcome State Fault Refusal :=
  .next { s with dev := gristoOp s.env t 0x67 seqgOp s.dev }
/-- SEQR -/
def execSeqr (t : ThreadId) (s : State) : Host.Outcome State Fault Refusal :=
  .next { s with dev := gristoOp s.env t 0x68 seqrOp s.dev }

end Sys2Proof.Machine
end

