-- ==== Sys2Proof/Machine/GristoAct.lean ====
section
/-! DEFINITION. The meanings of Gristo's actions (R125, R126). -/
namespace Sys2Proof.Machine

/-- md with a destination (R125). -/
def mdDst (md : BitVec 512) (kind value : Nat) : BitVec 512 := mdSet (mdSet md 2 31 28 kind) 2 27 0 value

/-- An action that changes only md. -/
def mdOp (h : Iss → TF → BitVec 512) (s : Iss) (c : TF) (d : Dev) : Flow1 :=
  seqStep c d (.ok { c with f := { c.f with md := h s c } })

/-- fwd -/
def fwdMd (s : Iss) (c : TF) : BitVec 512 :=
  let p := operand c.x s.w % 128
  if p < 96 then mdDst c.f.md 1 p else mdDrop c.f.md 0x8201
/-- mcast -/
def mcastMd (s : Iss) (c : TF) : BitVec 512 :=
  if bit (fSub s.w) 0 then mdDst c.f.md 3 (operand c.x s.w % 4096) else mdDst c.f.md 2 (operand c.x s.w % 65536)
/-- drop -/
def dropMd (s : Iss) (c : TF) : BitVec 512 := mdDrop c.f.md (bits (fImm s.w) 14 0)
/-- mirr -/
def mirrMd (s : Iss) (c : TF) : BitVec 512 :=
  let i := 16 + operand c.x s.w % 16
  mdSet c.f.md 3 i i (if bit (fSub s.w) 0 then 0 else 1)
/-- host -/
def hostMd (s : Iss) (c : TF) : BitVec 512 := mdDst c.f.md 4 (operand c.x s.w % 64)
/-- recirc: through the recirculation port of the frame's input block -/
def recircMd (_ : Iss) (c : TF) : BitVec 512 := mdDst c.f.md 5 (97 + c.f.blk)

/-- scan: mode set and done cleared in md.scan_verdict; the request replaces an earlier one (R126). -/
def scanOp (s : Iss) (c : TF) (d : Dev) : Flow1 :=
  let enf := bit (fSub s.w) 0
  let depth := (bits (fImm s.w) 15 0 + c.x.getG (fS1 s.w)) % 2 ^ 32
  let md := mdSet (mdSet c.f.md 4 27 26 (if enf then 2 else 1)) 4 31 31 0
  seqStep c d (.ok { c with f := { c.f with md := md, scan := some (enf, depth) } })

/-- Base and offset of a request's address (R126): cause 2 for a space other than the window, 6 for an invalid hN. -/
def reqAddr (s : Iss) (c : TF) : Except Nat (Nat × Nat) :=
  if fSpace s.w ≠ 0 then .error 2
  else if badBase c.f s.w then .error 6
  else .ok (if fRel s.w then fN s.w + 1 else 0, (fOff s.w + c.x.getG (fX s.w)) % 2 ^ 32)

/-- stamp: 0 cancels, its address checked as for the other kinds (R126, R128; DEDUCED, assumption 99) -/
def stampOp (s : Iss) (c : TF) (d : Dev) : Flow1 :=
  let kind := bits (fSub s.w) 1 0
  match reqAddr s c with
  | .error cause => .stop cause
  | .ok (base, off) =>
    let r : StampReq := { kind := kind, dom := fCs s.w % 4, base := base, off := off }
    seqStep c d (.ok { c with f := { c.f with stamp := if kind = 0 then none else some r } })

/-- csum: kinds 0 IPv4 header, 1 L4 incremental, 2 L4 full -/
def csumOp (s : Iss) (c : TF) (d : Dev) : Flow1 :=
  let kind := bits (fSub s.w) 1 0
  if kind = 3 then .stop 2
  else
    match reqAddr s c with
    | .error cause => .stop cause
    | .ok a => seqStep c d (.ok { c with f := { c.f with csum := tput c.f.csum kind a } })

/-! ## Meanings -/

/-- FWD -/
def execFwd (t : ThreadId) (s : State) : Host.Outcome State Fault Refusal :=
  .next { s with dev := gristoOp s.env t 0x60 (mdOp fwdMd) s.dev }
/-- MCAST -/
def execMcast (t : ThreadId) (s : State) : Host.Outcome State Fault Refusal :=
  .next { s with dev := gristoOp s.env t 0x61 (mdOp mcastMd) s.dev }
/-- DROP -/
def execDrop (t : ThreadId) (s : State) : Host.Outcome State Fault Refusal :=
  .next { s with dev := gristoOp s.env t 0x62 (mdOp dropMd) s.dev }
/-- MIRR -/
def execMirr (t : ThreadId) (s : State) : Host.Outcome State Fault Refusal :=
  .next { s with dev := gristoOp s.env t 0x63 (mdOp mirrMd) s.dev }
/-- HOST -/
def execHost (t : ThreadId) (s : State) : Host.Outcome State Fault Refusal :=
  .next { s with dev := gristoOp s.env t 0x64 (mdOp hostMd) s.dev }
/-- RECIRC -/
def execRecirc (t : ThreadId) (s : State) : Host.Outcome State Fault Refusal :=
  .next { s with dev := gristoOp s.env t 0x65 (mdOp recircMd) s.dev }
/-- SCAN -/
def execScan (t : ThreadId) (s : State) : Host.Outcome State Fault Refusal :=
  .next { s with dev := gristoOp s.env t 0x66 scanOp s.dev }
/-- STAMP -/
def execStamp (t : ThreadId) (s : State) : Host.Outcome State Fault Refusal :=
  .next { s with dev := gristoOp s.env t 0x69 stampOp s.dev }
/-- CSUM -/
def execCsum (t : ThreadId) (s : State) : Host.Outcome State Fault Refusal :=
  .next { s with dev := gristoOp s.env t 0x6A csumOp s.dev }

end Sys2Proof.Machine
end

