-- ==== Sys2Proof/Machine/GutterRing.lean ====
section
/-! DEFINITION. The Gutter rings (R313-R318): draining of records, consumption, the switch between the rings, and
export (R327). -/
namespace Sys2Proof.Machine

/-! ## The ring in use -/

/-- Units of the ring in use (R313, R314). -/
def gutUnits (d : Dev) : Nat := if d.gut.fallback then 32768 else 524288 * 2 ^ min 8 d.gut.size

/-- Units between GUT_RD and GUT_WR. -/
def gutUsed (d : Dev) : Nat :=
  if d.gut.recs.isEmpty then 0
  else
    let n := gutUnits d
    let u := (d.gut.wr + n - d.gut.rd) % n
    if u = 0 then n else u

/-- Bytes written into the ring in use. -/
def gutPut (unit : Nat) (l : List Byte) (g : GutSt) : GutSt :=
  if g.fallback then { g with fall := mwrite g.fall (32 * unit) l } else { g with ring := mwrite g.ring (32 * unit) l }

/-- `n` bytes of the ring in use from a unit. -/
def gutGet (g : GutSt) (unit n : Nat) : List Byte := mread (if g.fallback then g.fall else g.ring) (32 * unit) n

/-- The header of a pad record of n bytes (R318). -/
def padHeader (n : Nat) : List Byte := natLE 4 (15 * 2 ^ 28) ++ natLE 4 (127 * 2 ^ 25 + 127 * 2 ^ 18 + n) ++ zeros 24

/-- A pad record with its units. -/
def padBytes (n : Nat) : List Byte := fitLen n (padHeader n)

/-- Records wanted for k units from GUT_RD on, and those left. -/
def gutTake : Nat → List RingRec → List RingRec × List RingRec
  | _, [] => ([], [])
  | k, r :: l =>
    if k = 0 then ([], r :: l)
    else
      let t := gutTake (k - r.units) l
      (r :: t.1, t.2)

/-- Units of the first record already behind GUT_RD. -/
def gutPart (d : Dev) : Nat := d.gut.recs.foldl (fun a r => a + r.units) 0 - gutUsed d

/-- Records, pads not among them. -/
def gutReal (l : List RingRec) : Nat := (l.filter (fun r => !r.pad)).length

/-- The ring as it stood before the host writes of GUT_RD in the present core cycle (R315). -/
def gutBefore (e : Env) (d : Dev) : Dev :=
  match d.gut.rdWas with
  | some (c, rd, l) =>
    if c = e.cycle + 1 then { d with gut := { d.gut with rd := rd, recs := l ++ d.gut.recs, rdWas := none } } else d
  | none => d

/-- Units of pad that k units need before them. -/
def gutPad (d : Dev) (k : Nat) : Nat := if gutUnits d < d.gut.wr + k then gutUnits d - d.gut.wr else 0

/-- Units that k units, with their pad, lack. -/
def gutShort (d : Dev) (k : Nat) : Nat := gutUsed d + gutPad d k + k - gutUnits d

/-- A record of whole units goes into the ring: over the oldest records in overwrite mode, discarded in stop mode when
it does not fit; before it a pad where it would cross the ring's end (R315, R316). An overwrite overrules the host's write of
GUT_RD in the same cycle. -/
def gutWrite (e : Env) (l : List Byte) (d : Dev) : Dev :=
  let k := l.length / 32
  let d := if e.b 0xC00000 30 && decide (0 < gutShort (gutBefore e d) k) then gutBefore e d else d
  let n := gutUnits d
  let g := d.gut
  let pad := gutPad d k
  let short := gutShort d k
  if 0 < short ∧ !(e.b 0xC00000 30) then
    let d := bumpDev e 13 1 none d
    if g.full then d else raiseEv e 134 0 { d with gut := { d.gut with full := true } }
  else
    let t := gutTake (if 0 < short then short + gutPart d else 0) g.recs
    let d := bumpDev e 13 (gutReal t.1) none d
    let g := if pad = 0 then g else gutPut g.wr (padBytes (32 * pad)) g
    let at_ := if pad = 0 then g.wr else 0
    let l := splice l 28 (natLE 4 g.seq)
    let recs := t.2 ++ (if pad = 0 then [] else [{ unit := g.wr, units := pad, pad := true, at_ := e.third }]) ++
      [{ unit := at_, units := k, at_ := e.third }]
    let g := gutPut at_ l g
    let wr := (at_ + k) % n
    bumpDev e 12 1 none { d with gut := { g with
      wr := wr
      rd := if 0 < short then (match recs with
        | r :: _ => r.unit
        | [] => wr) else g.rd
      overAt := if 0 < short then e.cycle + 1 else g.overAt
      seq := (g.seq + 1) % 2 ^ 32
      full := false
      recs := recs } }

/-- RECORD_DRAIN: the oldest staged record goes to the ring; the snap of a tile whose check fails reads zero (R240,
R317). -/
def drainOp (e : Env) (tileErr : Bool) (d : Dev) : Dev :=
  match d.gut.staging with
  | [] => d
  | r :: rest =>
    if !(e.b 0xC00000 31) then d else
      let d := { d with gut := { d.gut with staging := rest } }
      match tileErr, r.tile with
      | true, some (b, t) => gutWrite e (fitLen r.bytes.length (r.bytes.take 32)) (tileFail e 4 b t d)
      | _, _ => gutWrite e r.bytes d

/-- Records wholly before k units from the read position are consumed. -/
def gutConsume : Nat → List RingRec → List RingRec
  | _, [] => []
  | k, r :: l => if r.units ≤ k then gutConsume (k - r.units) l else r :: l

/-- A host write of GUT_RD (R316, R327); one in the cycle of an overwrite is overruled (R315). -/
def gutRdOp (e : Env) (v : Nat) (d : Dev) : Dev :=
  if e.b 0xC02000 31 || d.gut.overAt == e.cycle + 1 then d else
    let n := gutUnits d
    let u := v % 2 ^ 27
    let k := (u + n - d.gut.rd) % n
    let inside := decide (u < n) && decide (k ≤ gutUsed d)
    let k := if inside then k else gutUsed d
    let rest := gutConsume (k + gutPart d) d.gut.recs
    let was := (gutBefore e d).gut
    { d with gut := { d.gut with
        rd := if inside then u else d.gut.wr
        recs := rest
        rdWas := some (e.cycle + 1, was.rd, was.recs.take (was.recs.length - rest.length)) } }

/-- The ring in use changes (R314). -/
def gutSwitch (e : Env) (fallback : Bool) (d : Dev) : Dev :=
  if d.gut.fallback = fallback then d else
    raiseEv e 134 1 { d with gut := { d.gut with
      fallback := fallback, wr := 0, rd := 0, recs := [], overAt := 0, rdWas := none
      fall := if fallback then [] else d.gut.fall
      ring := if fallback then d.gut.ring else [] } }

/-! ## Export (R327) -/

/-- Segment size of the exporter. -/
def expMss (e : Env) : Nat := e.f 0xC02000 15 0 / 32 * 32

/-- Largest send in bytes. -/
def expMax (e : Env) : Nat := clamp 1 256 (e.f 0xC02004 8 0) * 1024

/-- The header template. -/
def expHeader (e : Env) : List Byte :=
  ((List.range 64).flatMap (fun w => natBE 4 (e.reg (0xC02100 + 4 * w)))).take (min 256 (e.f 0xC02000 24 16))

/-- Payload, records and whether the send is full: whole records in ring order, as many as the room takes, each
segment beginning at a record. -/
def expGather (g : GutSt) (mss room : Nat) : List RingRec → List Byte → Nat → List Byte × Nat × Bool
  | [], l, n => (l, n, false)
  | r :: rest, l, n =>
    let len := 32 * r.units
    let used := if mss = 0 then 0 else l.length % mss
    let pad := if used ≠ 0 ∧ mss < used + len then mss - used else 0
    if room < l.length + pad + len then (l, n, true)
    else expGather g mss room rest (l ++ (if pad = 0 then [] else padBytes pad) ++ gutGet g r.unit len) (n + 1)

/-- EXPORT_SEND: the exporter closes a send that is full or whose first record has waited, and hands it to the host
transmit ring's slice. -/
def exportOp (e : Env) (d : Dev) : Dev :=
  let hdr := expHeader e
  let x := expGather d.gut (expMss e) (expMax e - hdr.length) d.gut.recs [] 0
  let waited := match d.gut.recs with
    | r :: _ => decide (r.at_ + us (max 1 (e.f 0xC02004 31 16)) ≤ e.third)
    | [] => false
  if !(e.b 0xC02000 31) || x.2.1 = 0 || !(x.2.2 || waited || decide (expMax e ≤ hdr.length + x.1.length)) then d
  else
    let taken := d.gut.recs.take x.2.1
    let rest := d.gut.recs.drop x.2.1
    let l := hdr ++ x.1
    let ok := tsoOk l hdr.length (expMss e)
    let d := { d with gut := { d.gut with
      recs := rest
      rd := match rest with
        | r :: _ => r.unit
        | [] => d.gut.wr } }
    let d := tsoEnter e (e.f 0xC02000 30 25 % 16) l hdr.length (expMss e) false 0 d
    if ok then bumpDev e 14 1 none d
    else bumpDev e 13 (gutReal taken) none (bumpDev e 15 1 none d)

/-! ## Meanings -/

/-- RECORD_DRAIN -/
def execRecordDrain (tileErr : Bool) (s : State) : Host.Outcome State Fault Refusal :=
  .next { s with dev := drainOp s.env tileErr s.dev }
/-- GUT_RD_WRITE -/
def execGutRdWrite (value : Word) (s : State) : Host.Outcome State Fault Refusal :=
  .next { s with dev := gutRdOp s.env value.toNat s.dev }
/-- EXPORT_SEND -/
def execExportSend (s : State) : Host.Outcome State Fault Refusal := .next { s with dev := exportOp s.env s.dev }

end Sys2Proof.Machine
end

