-- ==== Sys2Proof/Machine/Stats.lean ====
section
/-! DEFINITION. Snapshots of the counters (R333, R334), the overflow of performance counters (R339, R340), the
bandwidth monitors (R342), and what performance counters add in a core cycle (R338). -/
namespace Sys2Proof.Machine

/-! ## Snapshots -/

/-- SNAPSHOT: its instant is settled, from its acceptance on (R333). -/
def snapshotOp (e : Env) (k : Nat) (d : Dev) : Dev :=
  if !(gnsStart d k 0x31) then d else
    let w := argWord d k 4
    let t := argTime d k 5
    let first := (d.slot k).acceptAt + 1000 * max 2 (e.f 0xC80000 7 0)
    let want := if t = 0 then 0 else e.toLt (bits w 6 5) t
    let prev := (d.stat.snaps.getLast?.map (·.lt)).getD 0
    let late := decide (t ≠ 0) && decide (want < first)
    cmdRun k { d with stat := { d.stat with
      snaps := d.stat.snaps ++ [{ lt := max (max want first) prev, groups := bits w 4 0, late := late, slot := k }] } }

/-- PMU_RELOAD of counter i. -/
def pmuReload (e : Env) (i : Nat) : Nat := e.reg (0xD01500 + 8 * i) + 2 ^ 32 * e.f (0xD01504 + 8 * i) 15 0

/-- What performance counter i holds when its adds have come to v: past 2^48 - 1 the excess, on top of the reload value where
that is enabled (R339). -/
def pmuHolds (e : Env) (i v : Nat) : Nat :=
  if v < 2 ^ 48 then v else (if e.b (0xD01104 + 16 * i) 30 then pmuReload e i else 0) + (v - 2 ^ 48)

/-- The core cycle of the copy edge of a snapshot: the first edge after its instant (R25). -/
def snapEdge (e : Env) (lt : Nat) : Nat := match e.ltBase with
  | none => e.cycle
  | some b => (b + 3 * lt) / 2 + 1

/-- The copy of the selected groups, each counter as it stood at its domain's copy edge (R25, R333). -/
def snapCopy (e : Env) (q : SnapReq) (d : Dev) : Dev :=
  let groups := q.groups
  let held := (d.stat.live.filter (fun kv => bit groups (statGroup kv.1))).foldl (fun t kv => tput t kv.1 kv.2)
    (d.stat.held.filter (fun kv => !(bit groups (statGroup kv.1))))
  let held := q.saved.foldl (fun t kv => tset 0 t kv.1 kv.2) held
  let gen := (d.stat.gen + 1) % 2 ^ 32
  let gens := (List.range 5).foldl (fun t g => if bit groups g then tset 0 t g gen else t) d.stat.gens
  let hold := if bit groups 4 then
      let t := (List.range 64).foldl (fun t i =>
        tset 0 t i (pmuHolds e i (tget (tget 0 d.pmu.ctr i) d.pmu.saved (64 * q.slot + i)) % 2 ^ 48)) []
      tset 0 (tset 0 t 64 (snapEdge e q.lt % 2 ^ 64)) 65 (q.lt % 2 ^ 64)
    else d.pmu.hold
  { d with
    stat := { d.stat with held := held, gen := gen, gens := gens }
    pmu := { d.pmu with hold := hold, saved := d.pmu.saved.filter (fun kv => kv.1 / 64 != q.slot) } }

/-- SNAPSHOT_INSTANT: the oldest snapshot's instant has come. -/
def snapInstantOp (e : Env) (d : Dev) : Dev :=
  match d.stat.snaps with
  | [] => d
  | q :: rest =>
    if e.ltNs < q.lt ∨ d.gns.dead then d else
      let d := snapCopy e q { d with stat := { d.stat with snaps := rest, snapLt := q.lt } }
      cmdFinish e q.slot stOk [d.stat.gen, q.lt % 2 ^ 32, q.lt / 2 ^ 32 % 2 ^ 32, flagAt q.late 0] d

/-! ## Performance counters -/

/-- The four words of a sample entry (R340). -/
def smpWords (e : Env) (i : Nat) (ctx : FrCtx) : List Nat :=
  let w2 := match ctx with
    | some (p, v, q) => p % 128 * 2 ^ 25 + v % 16 * 2 ^ 21 + q % 16 * 2 ^ 17 + 2 ^ 16
    | none => 0
  [e.ltNs % 2 ^ 32, e.ltNs / 2 ^ 32 % 65536 * 65536 + i, w2, e.reg (0xD01100 + 16 * i)]

/-- PMU_OVERFLOW: counter i has passed 2^48 - 1 (R339). -/
def pmuOverflowOp (e : Env) (i : Nat) (d : Dev) : Dev :=
  let v := tget 0 d.pmu.ctr i
  if v < 2 ^ 48 then d else
    let n := (d.evCnt 134 4).toNat % 64
    let w := smpWords e i (tget none d.pmu.ctx i)
    let smp := (List.range 4).foldl (fun t j => tset 0 t (4 * n + j) (w.getD j 0)) d.pmu.smp
    let d := { d with pmu := { d.pmu with ctr := tset 0 d.pmu.ctr i (pmuHolds e i v), smp := smp } }
    let d := raiseEv e 134 4 d
    if e.b 0xD01000 30 then { d with pmu := { d.pmu with freeze := true } } else d

/-- A word written to PMU_CTR_HI with the low word staged before it: both take effect. What the counter has added in the
same cycle is added to the written value, and an overflow of that cycle is none; one of an earlier cycle has happened (R339). -/
def pmuCtrPut (e : Env) (i lo hi : Nat) (d : Dev) : Dev :=
  let n := pmuNow e d i
  let d := if 2 ^ 48 ≤ tget 0 d.pmu.ctr i - n then pmuOverflowOp e i d else d
  let d := pmuSave e i d
  { d with pmu := { d.pmu with ctr := tset 0 d.pmu.ctr i (hi % 65536 * 2 ^ 32 + lo + n) } }

/-! ## Bandwidth monitors (R342) -/

/-- Window of the bandwidth monitors in microseconds. -/
def bwWindow (e : Env) : Nat := clamp 1 1000000 (e.f 0xD02000 19 0)

/-- BW_WINDOW_END: both monitors of port n end their window. -/
def bwEndOp (e : Env) (n : Nat) (d : Dev) : Dev :=
  let p := d.pmu
  if e.third < tget 0 p.bwStart n + us (bwWindow e) then d else
    let last := fun dir => tget 0 p.bwBytes (2 * n + dir) * 8000 / bwWindow e % 2 ^ 32
    let upd := fun (t : Tbl Nat) (f : Nat → Nat) => tset 0 (tset 0 t (2 * n) (f 0)) (2 * n + 1) (f 1)
    { d with pmu := { p with
        bwBytes := upd p.bwBytes (fun _ => 0)
        bwLast := upd p.bwLast last
        bwPeak := upd p.bwPeak (fun dir => max (tget 0 p.bwPeak (2 * n + dir)) (last dir))
        bwStart := tset 0 p.bwStart n e.third } }

/-- PMU_BW_CTL.clr written 1: every peak is 0; where a window has ended in the same cycle, the clear came first (R342). -/
def bwClear (e : Env) (d : Dev) : Dev :=
  let p := d.pmu
  { d with pmu := { p with bwPeak := p.bwLast.filter (fun kv =>
      decide (0 < tget 0 p.bwStart (kv.1 / 2)) && tget 0 p.bwStart (kv.1 / 2) / 2 == e.cycle) } }

/-! ## Cycle events (R338) -/

/-- Threads of cluster b that wait in lkw. -/
def lkwWaiting (d : Dev) (b : Nat) : Nat :=
  ((List.range 128).filter (fun t => (d.thread (128 * b + t)).frame.isSome && waitsLkw d (d.thread (128 * b + t)))).length

/-- Engines of cluster b with no ready thread in the present core cycle; one that has issued in it had one. -/
def idleEngines (e : Env) (d : Dev) (b : Nat) : Nat :=
  ((List.range 32).filter (fun g => tget 0 (d.blk b).issuedAt g != e.cycle + 1 &&
    (List.range 4).all (fun t => !(thReady e d (thNum b g t))))).length

/-- What cycle event i of block b adds in the present core cycle. -/
def cycleEvent (e : Env) (d : Dev) (b i : Nat) : Nat :=
  let x := d.blk b
  let counted := if d.pmu.cycAt = e.cycle then tget 0 d.pmu.cyc (13 * b + i) else 0
  match i with
  | 1 => lkwWaiting d b
  | 2 => idleEngines e d b
  | 5 => if x.sent1 = e.cycle + 1 then 0 else 1
  | 6 => if x.sent2 = e.cycle + 1 then 0 else 1
  | 7 => x.sieve.length
  | 8 => x.lanes.length
  | 9 => if 64 ≤ x.scanQ.length then 1 else 0
  | 10 => x.learnQ.length
  | _ => counted

/-- The cycle events that enabled counters select, added as a core cycle ends. -/
def cycleAdds (e : Env) (d : Dev) : Dev :=
  if d.pmu.freeze then d else
    (pmuEnabled e).foldl (fun d c =>
      let w := e.reg (0xD01100 + 16 * c)
      if bits w 31 29 = 4 ∧ bits w 28 20 ≤ 12 ∧ bits w 19 8 < 16 then
        pmuPlus e c (cycleEvent e d (bits w 19 8) (bits w 28 20)) none d
      else d) d

/-! ## Meanings -/

/-- SNAPSHOT -/
def execSnapshot (slot : Fin 4096) (s : State) : Host.Outcome State Fault Refusal :=
  .next { s with dev := snapshotOp s.env slot.val s.dev }
/-- SNAPSHOT_INSTANT -/
def execSnapshotInstant (s : State) : Host.Outcome State Fault Refusal :=
  .next { s with dev := snapInstantOp s.env s.dev }
/-- PMU_OVERFLOW -/
def execPmuOverflow (i : Fin 64) (s : State) : Host.Outcome State Fault Refusal :=
  .next { s with dev := pmuOverflowOp s.env i.val s.dev }
/-- BW_WINDOW_END -/
def execBwWindowEnd (port : Fin 96) (s : State) : Host.Outcome State Fault Refusal :=
  .next { s with dev := bwEndOp s.env port.val s.dev }

end Sys2Proof.Machine
end

