-- ==== Sys2Proof/Machine/Clock.lean ====
section
/-! DEFINITION. The tick: what passes when no command waits (R23, R138, R175, R192, R200, R338). -/
namespace Sys2Proof.Machine

/-- One core cycle passes (two thirds of a nanosecond): the lookup ports take what waits (R175), the cycle events are added
(R338), and a retirement walk, a route update and a flush go on (R138, R192, R200). -/
def tick (s : State) : State :=
  let e := { s.env with third := s.env.third + 2 }
  { s with env := e, dev := walkTick e (pTick e (flushTick e (cycleAdds s.env (portsTake s.env s.dev)))) }

end Sys2Proof.Machine
end

