-- ==== Sys2Proof/Machine/ThatchLoft.lean ====
section
/-! DEFINITION. Deep queues in Loft (R238, R239) and the Drip audit (R244, R245). -/
namespace Sys2Proof.Machine

/-! ## Spilling and read-back (R238-R240) -/

/-- Loft address of the checksum of Loft tile u: bytes 4i to 4i + 3 of the page of group g, for u = 1,024g + i (R225). Where
the pages lie is not the manual's: region 35 of `regionUnit`. -/
def csumPlace (d : Dev) (u : Nat) : Nat := 256 * regionUnit d 35 0 + 4 * u

/-- Loft tile u passes its checksum (R18, R225). -/
def loftTileOk (d : Dev) (m : Memory) (u : Nat) : Bool :=
  leNat (mread m (csumPlace d u) 4) == crc32c (mread m (256 * u) 256)

/-- The checksums of the Loft tiles that hold a frame's bytes, written to their pages (R225). -/
def csumPut (d : Dev) (m : Memory) (bytes : List Byte) : Nat → List Nat → Memory
  | _, [] => m
  | i, u :: r => csumPut d (mwrite m (csumPlace d u) (natLE 4 (crc32c (fitLen 256 (slice bytes (256 * i) 256))))) bytes (i + 1) r

/-- Frame bytes written to Loft units, 256 bytes each. -/
def loftPut (m : Memory) (bytes : List Byte) : Nat → List Nat → Memory
  | _, [] => m
  | i, u :: r => loftPut (mwrite m (256 * u) (fitLen 256 (slice bytes (256 * i) 256))) bytes (i + 1) r

/-- SPILL_WRITE_DONE: the oldest copy of the queue being spilled stands whole in Loft with its tiles' checksums, and its
output charge is returned (R225, R238). A copy that proved longer than its Loft tiles takes more, or is dropped as an
output-pool refusal where Loft or the queue's limit has no room. -/
def spillDoneOp (n q : Nat) (s : State) : State :=
  let e := s.env
  let d := s.dev
  match (d.queue n q).find? (fun c => (d.copy c).spilling && (d.copyAsm c).whole && !(d.copyAsm c).dead) with
  | none => s
  | some c =>
    let k := d.copy c
    let a := d.asm k.asm
    let extra := ceilDiv a.len 256 - k.loft.length
    match (if extra = 0 ∨ loftRoom e d n q extra then loftTake extra d else none) with
    | none => { s with dev := decide_ e n (dropCopy e c 0x8502 (bumpBlk e (blkOf n) k.pool 1 (a.ctx q)) d) }
    | some (more, d) =>
      let units := k.loft ++ more
      let d := (releasePool (blkOf n) k.pool k.charge d).setCopy c
        { k with loft := units, spilled := true, spilling := false, charge := 0 }
      { s with loft := loftPut (csumPut d s.loft a.bytes 0 units) a.bytes 0 units, dev := asmSettle e k.asm d }

/-- Deep buffering is turned off (R355): no queue spills, and a copy whose spill is under way stays on chip. -/
def unspill (e : Env) (d : Dev) : Dev :=
  d.copies.foldl (fun d kv =>
    let k := d.copy kv.1
    if k.spilling then
      let d := (k.loft.foldl (freeLoftTile e) d).setCopy kv.1 { k with spilling := false, loft := [] }
      decide_ e k.port (spillSettle k.port k.queue d)
    else d) d

/-- The copy of queue q of port n that is read back next: one that has started while it comes back, else the oldest of the
queue. -/
def backNext (d : Dev) (n q : Nat) : Option Nat :=
  let p := d.port n
  let held := ((p.tx.toList ++ p.preempted.toList).filter (fun t => t.flow.isNone && t.queue == q)).map (·.copy)
  (held ++ d.queue n q).find? (fun c => (d.copy c).inLoft)

/-- The tiles that one LOFT_READ_BACK reads of a copy: all that are left, or, where the copy may be sent by cut-through
(R42, R351), the next (DEDUCED, assumption 91). -/
def backTiles (e : Env) (d : Dev) (n : Nat) (k : Copy) : List Nat :=
  if k.started || ctAllowed e d n { k with readBack := true } (d.asm k.asm) then k.loft.take 1 else k.loft

/-- LOFT_READ_BACK: the oldest spilled copy of the queue comes back to output tiles while the queue's charge is below
refill. A tile on a channel that is offline loses the copy (R239); a tile that fails its checksum discards it, or stomps it
where it has started (R240). -/
def readBackOp (n q : Nat) (tileErr : Bool) (s : State) : State :=
  let e := s.env
  let d := s.dev
  match backNext d n q with
  | none => s
  | some c =>
    let k := d.copy c
    let a := d.asm k.asm
    let b := blkOf n
    let need := ceilDiv a.len 256
    let now := backTiles e d n k
    let wrong := now.filter (fun u => !(loftTileOk d s.loft u))
    let fails := if tileErr && wrong.isEmpty then now.take 1 else wrong
    let dev :=
      if k.spilled && decide (bits (qLoft e n q) 31 16 ≤ queueCharge d n q) then d
      else if now.any (fun u => !(unitServed d u)) then
        decide_ e n (badCopy e 0x8505 c (bumpQ e n q 4 1 (a.ctx q) d))
      else if !fails.isEmpty then
        decide_ e n (badCopy e 0x8504 c (fails.foldl (fun d u => loftTileFail e 1 u d) d))
      else if k.spilled && !(poolGrants e d b k.pool need) then d
      else
        let d := if k.spilled then chargePool b k.pool need d else d
        let t := if a.tiles = [] then allocTiles e b need d else (a.tiles, d)
        let d := t.2.setAsm k.asm { a with tiles := t.1 }
        let d := d.setCopy c { k with spilled := false, readBack := true, charge := need,
                                      loft := k.loft.drop now.length, back := k.back + now.length }
        decide_ e n (spillSettle n q (now.foldl (freeLoftTile e) d))
    { s with dev := dev }

/-- LOFT_RESTART discards every spilled copy, counts it and offers it to drop capture (R231, R239); a copy still on chip
stays there. -/
def spillsLost (e : Env) (d : Dev) : Dev :=
  let d := d.copies.foldl (fun d kv =>
    let c := kv.1
    let k := kv.2
    if k.inLoft then badCopy e 0x8505 c (bumpQ e k.port k.queue 4 1 ((d.asm k.asm).ctx k.queue) d)
    else if k.spilling then d.setCopy c { d.copy c with spilling := false, loft := [] }
    else d) d
  { d with ports := d.ports.map (fun kv => (kv.1, { kv.2 with spill := [] })) }

/-! ## The Drip audit (R244, R245) -/

/-- The allocation map of a region: a block, or Loft at 16. -/
def dripMap (d : Dev) (r : Nat) : List Nat := if r < 16 then (d.blk r).alloc else d.loft.alloc

/-- DRIP_AUDIT starts: the touched map is cleared and the region's bitmap copied. -/
def dripStart (e : Env) (k : Nat) (d : Dev) : Dev :=
  if !(gnsStart d k 0x40) || d.loft.drip.isSome then d else
    let w := argWord d k 4
    let r := bits w 4 0
    if 16 < r then cmdFinish e k stRejected [] d else
      let d := cmdRun k d
      let d := if r < 16 then d.onBlk r (fun x => { x with touched := [] }) else d
      { d with loft := { d.loft with
        touched := if r = 16 then [] else d.loft.touched
        drip := some (k, r, bit w 5, dripMap d r) } }

/-- A chain holds tile t of region r. -/
def dripReached (d : Dev) (r t : Nat) : Bool :=
  if r < 16 then
    d.frames.any (fun f => f.2.blk == r && f.2.tiles.contains t) ||
    d.asms.any (fun a => a.2.out == r && a.2.tiles.contains t) ||
    d.ports.any (fun p => blkOf p.1 == r && (p.2.reasm.any (fun x => x.tiles.contains t))) ||
    thas (d.blk r).midTiles t || (d.blk r).suspect.contains t
  else d.copies.any (fun c => c.2.loft.contains t) || d.loft.suspect.contains t

/-- The tile's touched bit. -/
def dripTouched (d : Dev) (r t : Nat) : Bool :=
  if r < 16 then (d.blk r).touched.contains t else d.loft.touched.contains t

/-- The tile is quarantined. -/
def dripQuar (d : Dev) (r t : Nat) : Bool := if r < 16 then (d.blk r).quar.contains t else d.loft.quar.contains t

/-- A leaked tile reclaimed. -/
def dripFree (e : Env) (r : Nat) (d : Dev) (t : Nat) : Dev :=
  if r < 16 then freeTile e r t d else freeLoftTile e d t

/-- THA_DRIP_LOG: the first 16 leaked tiles. -/
def dripLog (r : Nat) (l : List Nat) : Tbl Nat :=
  (List.range 16).foldl (fun a i => match l[i]? with
    | some t => tset 0 a i (if r < 16 then r * 32768 + t else 2 ^ 31 + t)
    | none => a) []

/-- The leaked count added to THA_DRIP_CNT or THA_LDRIP_CNT, the event raised once for each. -/
def dripCount (e : Env) (r : Nat) (l : List Nat) (d : Dev) : Dev :=
  l.foldl (fun d _ => if r < 16 then raiseEv e (112 + r) 5 d else raiseEv e 131 2 d) d

/-- DRIP_AUDIT_END: candidates, leaks, reclaim and the completion. -/
def dripEnd (e : Env) (d : Dev) : Dev :=
  match d.loft.drip with
  | none => d
  | some (k, r, reclaim, snap) =>
    if d.gns.dead then d else
      let cand := snap.filter (fun t => !(dripReached d r t) && !(dripTouched d r t) && !(dripQuar d r t))
      let old := if r < 16 then (d.blk r).dripOld else d.loft.dripOld
      let leaked := cand.filter (fun t => old.contains t)
      let keep := cand.take 4096
      let d := if reclaim then leaked.foldl (dripFree e r) d else d
      let d := if r < 16 then d.onBlk r (fun x => { x with dripOld := keep }) else d
      let d := { d with loft := { d.loft with
        drip := none
        dripOld := if r = 16 then keep else d.loft.dripOld
        dripLog := if leaked = [] then d.loft.dripLog else dripLog r leaked } }
      cmdFinish e k stOk [leaked.length, if reclaim then leaked.length else 0,
        keep.length + flagAt (decide (4096 < cand.length)) 31] (dripCount e r leaked d)

/-! ## Meanings -/

/-- SPILL_WRITE_DONE -/
def execSpillWriteDone (port : Fin 96) (queue : Fin 15) (s : State) : Host.Outcome State Fault Refusal :=
  .next (spillDoneOp port.val queue.val s)
/-- LOFT_READ_BACK -/
def execLoftReadBack (port : Fin 96) (queue : Fin 15) (tileErr : Bool) (s : State) :
    Host.Outcome State Fault Refusal :=
  .next (readBackOp port.val queue.val tileErr s)
/-- DRIP_AUDIT -/
def execDripAudit (slot : Fin 4096) (s : State) : Host.Outcome State Fault Refusal :=
  .next { s with dev := dripStart s.env slot.val s.dev }
/-- DRIP_AUDIT_END -/
def execDripAuditEnd (s : State) : Host.Outcome State Fault Refusal := .next { s with dev := dripEnd s.env s.dev }

end Sys2Proof.Machine
end

