-- ==== Sys2Proof/Machine/LoftCh.lean ====
section
/-! DEFINITION. Loft channels (R345-R357): access order, refresh, row disturbance, training and restart. -/
namespace Sys2Proof.Machine

/-- A channel register. -/
def lftReg (c r : Nat) : Nat := 0xE01000 + 0x100 * c + r

/-! ## Access order (R347, R348) -/

/-- A refresh or RFM window holds the bank (R347). -/
def bankHeld (e : Env) (x : ChSt) (b : Nat) : Bool := decide (e.third < tget 0 x.window b)

/-- The access would open its row. -/
def activates (x : ChSt) (a : Access) : Bool := tfind x.openRow a.bank != some a.row

/-- A throttled requester may not activate yet (R353). -/
def throttledNow (e : Env) (x : ChSt) (req : Nat) : Bool := match tfind x.thr req with
  | some (stop, last) => decide (e.third < stop) && decide (e.third < last + ns (e.f 0xE00014 31 16))
  | none => false

/-- The access may issue now. -/
def mayIssue (e : Env) (x : ChSt) (a : Access) : Bool :=
  !(bankHeld e x a.bank) && !(activates x a && throttledNow e x a.req)

/-- The access belongs to a real-time burst in progress. -/
def inBurst (x : ChSt) (a : Access) : Bool := x.burst.contains (a.req, a.since)

/-- The next access by the four rules of R347: a burst in progress, those older than 2 us, row hits, the oldest. -/
def nextAccess (e : Env) (x : ChSt) : Option Access :=
  let l := x.queue.filter (mayIssue e x)
  ((((l.find? (inBurst x)).or (l.find? (fun a => decide (a.since + us 2 < e.third)))).or
    (l.find? (fun a => !(activates x a)))).or l.head?)

/-! ## Row disturbance (R352, R353) -/

/-- The index of the entry with the smallest count, the lowest on a tie. -/
def smallestAggr : List Aggr → Nat → Nat × Nat → Nat
  | [], _, best => best.1
  | a :: r, i, best => smallestAggr r (i + 1) (if a.count < best.2 then (i, a.count) else best)

/-- An activation by requester r of a row of group g in an aggressor table: the table, and the entry's index. -/
def aggrTouch (l : List Aggr) (g r : Nat) : List Aggr × Nat :=
  match l.findIdx? (fun a => a.group == g) with
  | some i =>
    let a : Aggr := l.getD i { group := g, count := 0, lead := r, vote := 0 }
    let a := { a with count := a.count + 1 }
    let a := if a.lead = r then { a with vote := a.vote + 1 }
      else if a.vote = 0 then { a with lead := r, vote := 1 } else { a with vote := a.vote - 1 }
    (l.set i a, i)
  | none =>
    if l.length < 16 then (l ++ [{ group := g, count := 1, lead := r, vote := 1 }], l.length)
    else
      let i := smallestAggr l 0 (0, (l.headD { group := 0, count := 0, lead := 0, vote := 0 }).count)
      let n := (l.getD i { group := 0, count := 0, lead := 0, vote := 0 }).count
      (l.set i { group := g, count := n + 1, lead := r, vote := 1 }, i)

/-- The record of a trigger in LFT_RH_LOG entry (n - 1) mod 16. -/
def rhLogPut (e : Env) (c bank group req : Nat) (d : Dev) : Dev :=
  let i := (d.evCnt 135 1).toNat % 16
  let w := c * 2 ^ 27 + bank * 2 ^ 23 + group * 2 ^ 10 + req * 2 ^ 4
  raiseEv e 135 1 { d with loft := { d.loft with
    rhLog := tset 0 (tset 0 d.loft.rhLog (2 * i) w) (2 * i + 1) (e.ltNs % 2 ^ 32) } }

/-- An activation of a row counted; past the threshold the bank is due an RFM and the lead is throttled (R353). -/
def activate (e : Env) (c : Nat) (a : Access) (d : Dev) : Dev :=
  let x := d.chan c
  let g := a.row / 8
  let t := aggrTouch (tget [] x.aggr a.bank) g a.req
  let en : Aggr := t.1.getD t.2 { group := g, count := 0, lead := a.req, vote := 0 }
  let tooMany := decide (max 1 (e.f 0xE00010 31 16) < en.count)
  let thr := match tfind x.thr a.req with
    | some (stop, _) => tput x.thr a.req (stop, e.third)
    | none => x.thr
  let x := { x with openRow := tput x.openRow a.bank a.row, thr := thr }
  if !tooMany then d.setChan c { x with aggr := tput x.aggr a.bank t.1 }
  else
    let period := e.f 0xE00014 15 0
    let last := match tfind x.thr en.lead with
      | some (_, l) => l
      | none => if en.lead = a.req then e.third else 0
    let x := { x with
      aggr := tput x.aggr a.bank (t.1.set t.2 { en with count := 0 })
      rfm := if x.rfm.contains a.bank then x.rfm else x.rfm ++ [a.bank]
      thr := if period = 0 then x.thr else tput x.thr en.lead (e.third + us period, last) }
    rhLogPut e c a.bank g en.lead (d.setChan c x)

/-- A test window runs on channel c (R354). -/
def windowOn (e : Env) (d : Dev) (c : Nat) : Bool := match d.loft.train with
  | some t => t.ch == c && t.windowTo.any (fun w => decide (e.third < w))
  | none => false

/-- LOFT_ACCESS_ISSUE: the channel's controller issues its next access, and an access that waits for an entry takes the
one left (R347). A test window holds every access (R354). -/
def accessOp (e : Env) (c : Nat) (d : Dev) : Dev :=
  let x := d.chan c
  if x.state ≠ 2 ∨ windowOn e d c then d else
    match nextAccess e x with
    | none => d
    | some a =>
      let rest := x.queue.erase a ++ x.feed.take 1
      let more := (x.queue.erase a ++ x.feed).any (fun r => r.req == a.req && r.since == a.since)
      let burst := if 16 ≤ a.req ∧ a.req < 32 then (if more then (if inBurst x a then x.burst else
          x.burst ++ [(a.req, a.since)]) else x.burst.filter (fun k => k != (a.req, a.since))) else x.burst
      let d := d.setChan c { x with queue := rest, feed := x.feed.drop 1, burst := burst }
      if activates x a then activate e c a d else d

/-! ## Refresh (R349, R350) -/

/-- tREFIpb in eighths of a third of a nanosecond. -/
def trefi (x : ChSt) : Nat := if x.hot then 2925 else 5850

/-- tRFCpb in thirds of a nanosecond, rounded up (R349). -/
def trfc (e : Env) (c : Nat) : Nat := ceilDiv (clamp 160 255 (e.f (lftReg c 4) 7 0) * 45) 16

/-- A refresh or RFM window opens at a bank. -/
def openWindow (e : Env) (c b : Nat) (x : ChSt) : ChSt := { x with window := tput x.window b (e.third + trfc e c) }

/-- Some queued access is for the bank. -/
def bankQueued (x : ChSt) (b : Nat) : Bool := x.queue.any (fun a => a.bank == b)

/-- Accesses left of the bursts in progress. -/
def burstLeft (x : ChSt) : Nat := ((x.queue ++ x.feed).filter (inBurst x)).length

/-- The time the refresh of bank b next falls due after the one of bank `now`, in eighths of a third. -/
def nextDue (x : ChSt) (now b : Nat) : Nat :=
  let k := (b + 16 - now) % 16
  x.dueAt + trefi x * (if k = 0 then 16 else k)

/-- The other banks with p = 8 whose next due falls before the burst's undisturbed end plus tRFCpb are refreshed at
the same boundary. -/
def forceOthers (e : Env) (c now : Nat) (x : ChSt) : ChSt :=
  if x.burst.isEmpty then x else
    let stop := 8 * (e.third + trfc e c) + 90 * burstLeft x
    (List.range 16).foldl (fun y b =>
      if b ≠ now ∧ tget 0 y.post b = 8 ∧ nextDue x now b < stop then
        openWindow e c b { y with post := tset 0 y.post b 7 }
      else y) x

/-- REFRESH_DUE: the refresh of the next bank in rotation falls due and is issued, postponed or forced. -/
def refreshOp (e : Env) (c : Nat) (d : Dev) : Dev :=
  let x := d.chan c
  if x.state ≠ 2 ∨ 8 * e.third < x.dueAt + trefi x then d else
    let b := x.dueBank
    let x := { x with dueAt := x.dueAt + trefi x, dueBank := (b + 1) % 16 }
    let p := tget 0 x.post b
    d.setChan c (
      if !(bankQueued x b) then openWindow e c b x
      else if p < 8 then { x with post := tset 0 x.post b (p + 1) }
      else forceOthers e c b (openWindow e c b x))

/-- POSTPONED_REFRESH: the bank has no queued access and no burst runs. -/
def postponedOp (e : Env) (c b : Nat) (d : Dev) : Dev :=
  let x := d.chan c
  let p := tget 0 x.post b
  if x.state ≠ 2 ∨ p = 0 ∨ bankQueued x b ∨ !x.burst.isEmpty ∨ bankHeld e x b then d
  else d.setChan c (openWindow e c b { x with post := tset 0 x.post b (p - 1) })

/-- TEMP_REPORT_READ of package k. -/
def tempReportOp (k : Nat) (above : Bool) (d : Dev) : Dev :=
  (List.range 4).foldl (fun d i => d.setChan (4 * k + i) { d.chan (4 * k + i) with hot := above }) d

/-- RFM: issued to the bank at a boundary with no burst running (R353). -/
def rfmOp (e : Env) (c b : Nat) (d : Dev) : Dev :=
  let x := d.chan c
  if x.state ≠ 2 ∨ !(x.rfm.contains b) ∨ !x.burst.isEmpty ∨ bankHeld e x b then d
  else d.setChan c (openWindow e c b { x with rfm := x.rfm.erase b })

/-- AGGRESSOR_TABLE_CLEAR every window_ms (R352). -/
def aggrClearOp (e : Env) (d : Dev) : Dev :=
  if e.third < d.loft.aggrAt + ms (max 1 (e.f 0xE00010 15 8)) then d else
    { d with loft := { d.loft with
      aggrAt := e.third, chans := d.loft.chans.map (fun kv => (kv.1, { kv.2 with aggr := [] })) } }

/-- THROTTLE_END: a throttle's period has run out (R353). -/
def throttleEndOp (e : Env) (c req : Nat) (d : Dev) : Dev :=
  let x := d.chan c
  match tfind x.thr req with
  | some (stop, _) => if e.third < stop then d else d.setChan c { x with thr := tdel x.thr req }
  | none => d

/-! ## Training (R354, R355) and the power of packages (R456) -/

/-- A power change of Loft package p is requested; its unit is 130 + p (R455). -/
def pkgPower (e : Env) (up : Bool) (d : Dev) (p : Nat) : Dev := powerRequest e (130 + p) up d

/-- Package p is powered and serves. -/
def pkgServes (d : Dev) (p : Nat) : Bool := unitOn d (130 + p)

/-- Some channel of package p is online. -/
def pkgOnline (d : Dev) (p : Nat) : Bool := [0, 1, 2, 3].any (fun i => decide ((d.chan (4 * p + i)).state = 2))

/-- The lane exists for the item (R354). -/
def laneOk (item lane : Nat) : Bool :=
  decide (lane < [2, 2, 16, 8, 1, 1].getD item 0)

/-- LOFT_TRAIN: a sweep begins, the host's pattern read if the command names one (R354). -/
def trainStart (k : Nat) (s : State) : State :=
  let e := s.env
  let d := s.dev
  if !(gnsStart d k 0x41) then s else
    let w4 := argWord d k 4
    let w5 := argWord d k 5
    let item := bits w4 7 5
    let lane := bits w4 12 8
    let first := bits w5 7 0
    let last := bits w5 15 8
    let stride := bits w5 23 16
    if d.loft.train.isSome || d.loft.restart.isSome || !(laneOk item lane) || decide (last < first) || stride == 0
    then { s with dev := cmdFinish e k stRejected [] d }
    else
      let t : TrainSt := {
        slot := k, ch := bits w4 4 0, item := item, lane := lane, last := last, stride := stride,
        mapAddr := argAddr d k 9, next := first, passed := [], wasOnline := chanOn d (bits w4 4 0),
        pattern := if bit (argWord d k 6) 0 then some (mread s.host (argAddr d k 7) 64) else none
        windows := 0, windowTo := none }
      let d := pkgPower e true (cmdRun k d) (t.ch / 4)
      { s with dev := { d with loft := { d.loft with train := some t } } }

/-- The length of a test window (R354). -/
def windowLen (n : Nat) : Nat := min (us 1) (Config.testWindow n).toNat

/-- The sweep is between windows: an online channel has served traffic for gap_us since the last (R354). -/
def windowOver (e : Env) (t : TrainSt) (gap : Nat) : Bool := t.windowTo.all (fun w => decide (w + gap ≤ e.third))

/-- TEST_WINDOW: the window of the next setting begins, and its outcome is what the compare engine will find. What the
window writes of row and setting it restores (R354). The package must serve (R456). -/
def testWindowOp (e : Env) (passed : Bool) (d : Dev) : Dev :=
  match d.loft.train with
  | none => d
  | some t =>
    let gap := if t.wasOnline then us (max 1 (e.f 0xE00004 7 0)) else 0
    if !(windowOver e t gap) || decide (t.last < t.next) || !(pkgServes d (t.ch / 4)) || d.gns.dead then d else
      { d with loft := { d.loft with train := some { t with
        next := t.next + t.stride, passed := if passed then t.passed ++ [t.next] else t.passed,
        windows := t.windows + 1, windowTo := some (e.third + windowLen t.windows) } } }

/-- The longest run of swept settings that passed, the first of equals: best so far as length, first and last, the run
in hand likewise. -/
def passRun (stride : Nat) : List Nat → Nat × Nat × Nat → Nat × Nat × Nat → Nat × Nat × Nat
  | [], best, cur => if best.1 < cur.1 then cur else best
  | s :: r, best, cur =>
    if cur.1 ≠ 0 ∧ cur.2.2 + stride = s then passRun stride r best (cur.1 + 1, cur.2.1, s)
    else passRun stride r (if best.1 < cur.1 then cur else best) (1, s, s)

/-- A channel goes offline with NO_EYE (R355): deep buffering ends, and Gutter moves to its fallback ring.
The last channel of a package takes its power with it (R456). -/
def goOffline (e : Env) (c : Nat) (d : Dev) : Dev :=
  let d := raiseEv e 135 0 (d.setChan c { d.chan c with state := 0, queue := [], feed := [], burst := [] })
  let d := if pkgOnline d (c / 4) then d else pkgPower e false d (c / 4)
  gutSwitch e true (unspill e { d with loft := { d.loft with deepOff := true, lostEye := true } })

/-- LOFT_TRAIN_END -/
def trainEndOp (s : State) : State :=
  let e := s.env
  match s.dev.loft.train with
  | none => s
  | some t =>
    if t.next ≤ t.last ∨ !(windowOver e t 0) ∨ s.dev.gns.dead then s else
      let d := { s.dev with loft := { s.dev.loft with train := none } }
      let d := d.setChan t.ch { d.chan t.ch with noEye := t.passed.isEmpty }
      let r := passRun t.stride t.passed (0, 0, 0) (0, 0, 0)
      let d := if t.passed.isEmpty && chanOn d t.ch then goOffline e t.ch d else d
      { s with
        host := mwrite s.host t.mapAddr (natLE 32 (t.passed.foldl (fun a p => a + 2 ^ p) 0))
        dev := if t.passed.isEmpty then cmdFinish e t.slot stNoEye [] d
          else cmdFinish e t.slot stOk [r.2.1 + r.2.2 * 256] d }

/-! ## Restart (R356) -/

/-- Channels of a mask. -/
def maskChans (m : Nat) : List Nat := (List.range 32).filter (fun c => bit m c)

/-- Packages with a channel in a mask. -/
def maskPkgs (m : Nat) : List Nat := (List.range 8).filter (fun p => [0, 1, 2, 3].any (fun i => bit m (4 * p + i)))

/-- LOFT_RESTART: the packages of its channels are woken (R456). -/
def restartStart (e : Env) (k : Nat) (d : Dev) : Dev :=
  if !(gnsStart d k 0x42) || d.loft.train.isSome || d.loft.restart.isSome then d else
    let m := argWord d k 4
    if (maskChans m).any (fun c => (d.chan c).noEye) then cmdFinish e k stRejected [] d
    else
      let d := (maskPkgs m).foldl (pkgPower e true) (flowLose e (spillsLost e (cmdRun k d)))
      gutSwitch e true { d with loft := { d.loft with restart := some (k, m) } }

/-- The channels as the rebuild leaves them. -/
def restartChan (e : Env) (m : Nat) (d : Dev) (c : Nat) : Dev :=
  let x := d.chan c
  if bit m c then
    d.setChan c { x with state := 2, queue := [], feed := [], burst := [], openRow := [], post := [], window := [], rfm := [],
                         dueBank := 0, dueAt := 8 * e.third }
  else if x.state = 2 then d.setChan c { x with state := 0, queue := [], feed := [], burst := [] } else d

/-- LOFT_RESTART_END, not before the packages of the mask serve; a package that loses its last channel is powered
down (R456). -/
def restartEndOp (e : Env) (d : Dev) : Dev :=
  match d.loft.restart with
  | none => d
  | some (k, m) =>
    if d.gns.dead || !((maskPkgs m).all (pkgServes d)) then d else
      let gone := (List.range 8).filter (fun p => pkgOnline d p && !((maskPkgs m).contains p))
      let on := maskChans m
      let n := on.length
      let size := min 8 (e.f 0xC00000 3 0)
      let d := gone.foldl (pkgPower e false) ((List.range 32).foldl (restartChan e m) d)
      let d := { d with
        loft := { d.loft with
          restart := none, inter := on, up := true, lostEye := false, deepOff := n == 0, alloc := [], failed := [],
          doomed := [], asks := d.loft.asks.filter (fun a => a.place.atSlate), reserved := (Config.loftReserved n size).toNat }
        gut := { d.gut with size := size }
        sets := d.sets.map (fun kv => (kv.1, if kv.2.valid && !kv.2.resident then { kv.2 with lost := true } else kv.2)) }
      cmdFinish e k stOk [n] (gutSwitch e (n == 0) d)

/-! ## Meanings -/

/-- LOFT_ACCESS_ISSUE -/
def execLoftAccessIssue (ch : Fin 32) (s : State) : Host.Outcome State Fault Refusal :=
  .next { s with dev := accessOp s.env ch.val s.dev }
/-- REFRESH_DUE -/
def execRefreshDue (ch : Fin 32) (s : State) : Host.Outcome State Fault Refusal :=
  .next { s with dev := refreshOp s.env ch.val s.dev }
/-- POSTPONED_REFRESH -/
def execPostponedRefresh (ch : Fin 32) (bank : Fin 16) (s : State) : Host.Outcome State Fault Refusal :=
  .next { s with dev := postponedOp s.env ch.val bank.val s.dev }
/-- TEMP_REPORT_READ -/
def execTempReportRead (pkg : Fin 8) (above85 : Bool) (s : State) : Host.Outcome State Fault Refusal :=
  .next { s with dev := tempReportOp pkg.val above85 s.dev }
/-- RFM -/
def execRfm (ch : Fin 32) (bank : Fin 16) (s : State) : Host.Outcome State Fault Refusal :=
  .next { s with dev := rfmOp s.env ch.val bank.val s.dev }
/-- AGGRESSOR_TABLE_CLEAR -/
def execAggressorTableClear (s : State) : Host.Outcome State Fault Refusal :=
  .next { s with dev := aggrClearOp s.env s.dev }
/-- THROTTLE_END -/
def execThrottleEnd (ch : Fin 32) (req : Fin 64) (s : State) : Host.Outcome State Fault Refusal :=
  .next { s with dev := throttleEndOp s.env ch.val req.val s.dev }
/-- LOFT_TRAIN -/
def execLoftTrain (slot : Fin 4096) (s : State) : Host.Outcome State Fault Refusal :=
  .next (trainStart slot.val s)
/-- TEST_WINDOW -/
def execTestWindow (passed : Bool) (s : State) : Host.Outcome State Fault Refusal :=
  .next { s with dev := testWindowOp s.env passed s.dev }
/-- LOFT_TRAIN_END -/
def execLoftTrainEnd (s : State) : Host.Outcome State Fault Refusal := .next (trainEndOp s)
/-- LOFT_RESTART -/
def execLoftRestart (slot : Fin 4096) (s : State) : Host.Outcome State Fault Refusal :=
  .next { s with dev := restartStart s.env slot.val s.dev }
/-- LOFT_RESTART_END -/
def execLoftRestartEnd (s : State) : Host.Outcome State Fault Refusal :=
  .next { s with dev := restartEndOp s.env s.dev }

end Sys2Proof.Machine
end

