-- ==== Sys2Proof/Machine/Purlin.lean ====
section
/-! DEFINITION. The Purlin arbiters (R358-R366). A requester's requests are read off the state: what it still has to
do at Loft or at a Slate host port. A grant puts its accesses into the channel's queue; the work itself is the command
that ends it. -/
namespace Sys2Proof.Machine

/-- Arbiter a: 0-15 PA, 16 and 17 SA. -/
def Dev.arb (d : Dev) (a : Nat) : ArbSt := tget {} d.loft.arbs a
/-- Arbiter a replaced. -/
def Dev.setArb (d : Dev) (a : Nat) (x : ArbSt) : Dev := { d with loft := { d.loft with arbs := tput d.loft.arbs a x } }

/-- PUR_PRIO of a requester. -/
def purPrio (e : Env) (id : Nat) : Nat := e.f (0xE40100 + 4 * id) 2 0

/-- The requester's kind is parked (R359). -/
def isParked (id : Nat) : Bool := [33, 34, 35, 36, 37].contains id

/-- The mode that R358 asks for: pipelined before datapath enable, in test mode and in recovery. -/
def pipeWanted (e : Env) (d : Dev) : Bool :=
  !(e.b 0x1200004 0) || e.b 0xE40000 1 || d.cmd.rebuilding || d.loft.restart.isSome || d.loft.lostEye

/-! ## Requests (R359) -/

/-- Units as accesses on channel c: four of a unit, each with its bank and row. -/
def unitAcc (d : Dev) (us_ : List Nat) : List (Nat × Nat) :=
  us_.flatMap (fun u => List.replicate 4 (unitBank d u, unitRow d u))

/-- A request of requester id on channel c for units that lie there. -/
def unitReq (d : Dev) (id c : Nat) (odd : Bool) (key : Nat) (us_ : List Nat) : List PurReq :=
  let l := us_.filter (fun u => unitChan d u == some c)
  if l = [] then [] else [{ id := id, odd := odd, key := key, acc := unitAcc d l }]

/-- A list cut into pieces of eight: fuel. -/
def eights : Nat → List Nat → List (List Nat)
  | 0, _ => []
  | _ + 1, [] => []
  | n + 1, l => l.take 8 :: eights n (l.drop 8)

/-- Deep writers: the tiles of copies being spilled. -/
def writerReqs (d : Dev) (c : Nat) (odd : Bool) : List PurReq :=
  d.copies.flatMap (fun k => if k.2.spilling then
    k.2.loft.flatMap (fun u => unitReq d (blkOf k.2.port) c odd u [u]) else [])

/-- Deep readers: the copy each queue reads back next, in bursts of up to eight tiles of a channel (R348). -/
def readerReqs (e : Env) (d : Dev) (c : Nat) (odd : Bool) : List PurReq :=
  d.copies.flatMap (fun k =>
    let n := k.2.port
    let q := k.2.queue
    if k.2.inLoft && backNext d n q == some k.1 &&
        (!k.2.spilled || decide (queueCharge d n q < bits (qLoft e n q) 31 16)) then
      let l := k.2.loft.filter (fun u => unitChan d u == some c)
      (eights l.length l).map (fun b => { id := 16 + blkOf n, odd := odd, key := b.headD 0, acc := unitAcc d b })
    else [])

/-- A command that has not started and is of one of some opcodes, with the Loft units it would move first. -/
def cmdReqs (d : Dev) (id c : Nat) (odd : Bool) (ops : List Nat) : List PurReq :=
  d.cmd.slots.flatMap (fun kv =>
    if ops.any (canStart d kv.1) then unitReq d id c odd kv.1 [regionUnit d 33 (16 * argWord d kv.1 4)] else [])

/-- The place of a request as a Loft unit; none at a Slate port. -/
def askUnit (d : Dev) : AskAt → Option Nat
  | .unit u => some u
  | .leaf i => some (regionUnit d 34 (256 * i))
  | .port _ => none

/-- Requests raised by accesses that were made: BAR2 accesses of the Loft aperture and bitmap leaves. -/
def askReqs (d : Dev) (c : Nat) (odd : Bool) : List PurReq :=
  d.loft.asks.flatMap (fun a => match askUnit d a.place with
    | some u => unitReq d a.id c odd a.key [u]
    | none => [])

/-- The requests that a channel's requesters make now, lowest ID first where it matters. Table DMA moves a Mica image into
its slot (R159; DEDUCED, assumption 66). -/
def chanReqs (e : Env) (d : Dev) (c : Nat) (odd : Bool) : List PurReq :=
  writerReqs d c odd ++ readerReqs e d c odd ++
  (if d.gut.staging = [] || d.gut.fallback then [] else unitReq d 32 c odd d.gut.seq [regionUnit d 0 (32 * d.gut.wr)]) ++
  cmdReqs d 33 c odd [0x32, 0x33] ++ askReqs d c odd ++
  (d.cmd.slots.flatMap (fun kv => if canStart d kv.1 0x11 then
    unitReq d 34 c odd kv.1 [regionUnit d (1 + bits (argWord d kv.1 4) 3 0) 0] else [])) ++
  (d.slate.flows.flatMap (fun f => if bit f.2.accF 19 || bit f.2.accB 31 then
    unitReq d 35 c odd f.1 [regionUnit d 33 (16 * f.1)] else [])) ++
  (d.gns.reqs.zipIdx.flatMap (fun r => if r.1.1 = 2 then unitReq d 36 c odd r.2 [r.1.2.2.1 / 256] else [])) ++
  (match d.loft.train with
    | some t => if t.ch = c ∧ t.next ≤ t.last then [{ id := 37, odd := odd, key := t.next, acc := [] }] else []
    | none => []) ++
  (d.blks.flatMap (fun b => b.2.lanes.flatMap (fun l =>
    if (d.set l.2.req.set).resident || l.2.fetched then []
    else unitReq d 38 c odd (16 * b.1 + l.1) [regionUnit d (1 + l.2.req.set) 0])))

/-- A request at a Slate host port. -/
def slateReq (id key : Nat) : PurReq := { id := id, odd := false, key := key, acc := [] }

/-- A table DMA command on a region of one of the Slate ports. -/
def tblReqs (d : Dev) (regions : List Nat) : List PurReq :=
  d.cmd.slots.filterMap (fun kv =>
    if (canStart d kv.1 0x24 || canStart d kv.1 0x25) && regions.contains (bits (argWord d kv.1 4) 3 0)
    then some (slateReq 34 kv.1) else none)

/-- BAR2 accesses that wait for a Slate host port. -/
def portReqs (d : Dev) (a : Nat) : List PurReq :=
  d.loft.asks.filterMap (fun x => if x.place == .port a then some (slateReq x.id x.key) else none)

/-- Requests at SA0 (Slate-X and Slate-T) and SA1 (Slate-P, Slate-D and the parameter banks). -/
def slateReqs (d : Dev) (a : Nat) : List PurReq :=
  let gns := d.gns.reqs.zipIdx.filterMap (fun r => if r.1.1 = 1 then some (slateReq 36 r.2) else none)
  if a = 16 then
    portReqs d 16 ++ tblReqs d [0, 1] ++ gns ++
    ((d.blks.flatMap (fun b => b.2.learnQ)) ++ d.slate.hostQ).map (fun r => slateReq 48 (16 * r.key + r.profile)) ++
    (match d.slate.sweep with
      | some b => [slateReq 49 b]
      | none => []) ++
    (if d.slate.scrubAt < 1048576 then [slateReq 50 d.slate.scrubAt] else [])
  else
    portReqs d 17 ++ tblReqs d [2, 3, 4, 5, 6, 12] ++ gns ++
    (if d.slate.scrubAt < 1048576 then [] else [slateReq 50 d.slate.scrubAt])

/-- Every request that wants arbiter a on the even or odd channel. -/
def wants (e : Env) (d : Dev) (a : Nat) (odd : Bool) : List PurReq :=
  if a < 16 then chanReqs e d (2 * a + odd.toNat) odd else if odd then [] else slateReqs d a

/-! ## Masks (R362, R363) -/

/-- Masked by quota at an arbiter (R362). -/
def quotaMasked (e : Env) (x : ArbSt) (id : Nat) : Bool :=
  decide (6 ≤ purPrio e id) && decide (e.f 0xE40008 15 0 ≤ tget 0 x.wins id)

/-- The sideband reports reset: the host's requester while the PCIe link is down. Entering it, `pcieDown` discards the
pending queue, as does a fault epoch (R363, R446). -/
def sideReset (d : Dev) (id : Nat) : Bool := id == 33 && !d.pwr.pcieUp

/-- Masked for reset or power-down (R363): of the units that R455 powers, only Mica's scanners are a requester's. -/
def sideMasked (d : Dev) (id : Nat) : Bool :=
  sideReset d id || (id == 38 && !((List.range 16).any (fun s => unitOn d (16 + s))))

/-- The target takes the request: the channel serves and its queue has a free entry, or it is a Slate port (R360). A test
window of the pattern-compare engine needs no channel online. -/
def accepts (d : Dev) (a : Nat) (r : PurReq) : Bool :=
  if 16 ≤ a ∨ r.id = 37 then true
  else
    let c := 2 * a + r.odd.toNat
    chanOn d c && decide ((d.chan c).queue.length < 32)

/-! ## Decisions (R360, R361) -/

/-- Entries of a requester's pending queue, over all arbiters. -/
def pendCount (d : Dev) (id : Nat) : Nat :=
  d.loft.arbs.foldl (fun n a => n + (a.2.pend.filter (fun r => r.id == id)).length) 0

/-- Marks of requests still wanted; the rest are forgotten. -/
def keepServed (l : List PurReq) (odd : Bool) (x : ArbSt) : List (Nat × Nat × Bool) :=
  x.served.filter (fun m => m.2.2 != odd || l.any (fun r => r.id == m.1 && r.key == m.2.1))

/-- The request each requester competes with: the oldest of its pending queue, else the first it asserts. -/
def contenders (x : ArbSt) (odd : Bool) (l : List PurReq) : List PurReq :=
  (List.range 64).filterMap (fun id =>
    (x.pend.find? (fun r => r.id == id && r.odd == odd)).or (l.find? (fun r => r.id == id)))

/-- The first ID at or after a pointer, in turn. -/
def rrFirst (ptr : Nat) (l : List PurReq) : Option PurReq := (l.find? (fun r => decide (ptr ≤ r.id))).or l.head?

/-- The winner: the highest priority, round robin among equals. -/
def purWinner (e : Env) (x : ArbSt) (l : List PurReq) : Option PurReq :=
  let top := l.foldl (fun a r => max a (purPrio e r.id)) 0
  rrFirst (tget 0 x.ptr top) (l.filter (fun r => purPrio e r.id == top))

/-- A parked requester's fresh request that did not win enters its pending queue, or finds it full (R361). -/
def parkLoser (d0 : Dev) (won : PurReq) (x : ArbSt) (r : PurReq) : ArbSt :=
  if !(isParked r.id) || r == won then x
  else if pendCount d0 r.id < 16 then
    { x with pend := x.pend ++ [r], served := x.served ++ [(r.id, r.key, r.odd)] }
  else { x with pendFull := min 65535 (x.pendFull + 1) }

/-- The arbiter's cycle of a time in thirds of a nanosecond: a controller cycle of 15/16 ns at a channel pair, a core cycle
at a Slate port (R345, R358). -/
def arbCycle (a t : Nat) : Nat := if a < 16 then t * 16 / 45 else t / 2

/-- Cycles of the slot of a grant: four beats an access (R345); at a Slate port one (DESIGN CHOICE, assumption 66). -/
def slotLen (a : Nat) (w : PurReq) : Nat := if a < 16 then 4 * max 1 w.acc.length else 1

/-- A granted request is asked no more. -/
def askDone (w : PurReq) (d : Dev) : Dev :=
  { d with loft := { d.loft with asks := d.loft.asks.filter (fun x => !(x.id == w.id && x.key == w.key)) } }

/-- Accesses put into a channel's queue, those that find no free entry behind it (R347, R360). -/
def feedChan (l : List Access) (x : ChSt) : ChSt :=
  { x with queue := x.queue ++ l.take (32 - x.queue.length), feed := x.feed ++ l.drop (32 - x.queue.length) }

/-- ARBITER_DECISION for the even or the odd channel of a pair, or at a Slate port. -/
def decisionOp (e : Env) (a : Nat) (odd : Bool) (d : Dev) : Dev :=
  if e.b 0xE40000 0 || decide (arbCycle a e.third < tget 0 (d.arb a).nextAt odd.toNat) then d else
    let x := d.arb a
    let all := wants e d a odd
    let x := { x with pipelined := pipeWanted e d, served := keepServed all odd x }
    let fresh := all.filter (fun r => !(x.served.contains (r.id, r.key, odd)))
    let open_ := fun (r : PurReq) => !(quotaMasked e x r.id) && !(sideMasked d r.id) && accepts d a r
    match purWinner e x ((contenders x odd fresh).filter open_) with
    | none => d.setArb a x
    | some w =>
      let top := purPrio e w.id
      let pend := x.pend.contains w
      let y := { x with
        pend := x.pend.erase w
        served := if pend then x.served else x.served ++ [(w.id, w.key, odd)]
        ptr := tset 0 x.ptr top ((w.id + 1) % 64)
        wins := tset 0 x.wins w.id (tget 0 x.wins w.id + 1)
        grant := tput x.grant odd.toNat (w, e.third) }
      let firsts := (List.range 64).filterMap (fun id => (fresh.filter open_).find? (fun r => r.id == id))
      let y := firsts.foldl (parkLoser d w) y
      let d := askDone w (d.setArb a y)
      if 16 ≤ a then d else
        let c := 2 * a + odd.toNat
        let q : List Access := w.acc.map (fun p => { req := w.id, bank := p.1, row := p.2, since := e.third })
        d.setChan c (feedChan q (d.chan c))

/-! ## Withdrawal (R364, R365) -/

/-- Not an access of the grant made at time t to requester `id`. -/
def notOf (id t : Nat) (q : Access) : Bool := q.req != id || q.since != t

/-- The accesses of a request granted at time t taken out of the channel's queue again: none has issued. -/
def ungrant (a : Nat) (odd : Bool) (w : PurReq) (t dead : Nat) (d : Dev) : Dev :=
  let x := d.arb a
  let d := d.setArb a { x with grant := tdel x.grant odd.toNat, dead := min 65535 (x.dead + dead) }
  if 16 ≤ a then d else
    let c := 2 * a + odd.toNat
    let x := d.chan c
    d.setChan c { x with queue := x.queue.filter (notOf w.id t), feed := x.feed.filter (notOf w.id t) }

/-- Accesses of the grant made at time t to a requester that have not issued. -/
def grantLeft (d : Dev) (a : Nat) (odd : Bool) (id t : Nat) : Nat :=
  let x := d.chan (2 * a + odd.toNat)
  ((x.queue ++ x.feed).filter (fun q => !(notOf id t q))).length

/-- The slot of the grant made at time t has not begun its transfer: its accesses all wait still, or, where it has none in
the queue, the cycle after the decision has not passed. -/
def untouched (e : Env) (d : Dev) (a : Nat) (odd : Bool) (w : PurReq) (t : Nat) : Bool :=
  if 16 ≤ a ∨ w.acc = [] then decide (arbCycle a e.third ≤ arbCycle a t + 1)
  else decide (grantLeft d a odd w.id t = w.acc.length)

/-- The next decision falls in a given cycle of the arbiter, one before the end of the empty slot (R365). -/
def emptySlot (a : Nat) (odd : Bool) (cyc : Nat) (d : Dev) : Dev :=
  d.setArb a { d.arb a with nextAt := tput (d.arb a).nextAt odd.toNat cyc }

/-- A request that has not been granted is withdrawn. -/
def withdrawFresh (e : Env) (a : Nat) (odd : Bool) (id : Nat) (d : Dev) : Dev :=
  let x := d.arb a
  match (wants e d a odd).find? (fun r => r.id == id && !(x.served.contains (r.id, r.key, odd))) with
  | some r => askDone r (d.setArb a { x with served := x.served ++ [(id, r.key, odd)] })
  | none => match x.pend.find? (fun r => r.id == id && r.odd == odd) with
    | some r => askDone r (d.setArb a { x with pend := x.pend.erase r })
    | none => d

/-- REQUEST_WITHDRAW: after a grant by a compatible requester, one dead cycle and a new decision; in the cycle after a
pipelined decision, an empty slot of its whole length; before a grant, nothing but the request goes. -/
def withdrawOp (e : Env) (a : Nat) (odd : Bool) (id : Nat) (d : Dev) : Dev :=
  let x := d.arb a
  match tfind x.grant odd.toNat with
  | some (w, t) =>
    if w.id ≠ id ∨ !(untouched e d a odd w t) then withdrawFresh e a odd id d
    else if (id = 33 ∨ id = 34) ∧ e.b (0xE40100 + 4 * id) 8 then decisionOp e a odd (ungrant a odd w t 1 d)
    else if x.pipelined ∧ arbCycle a e.third ≤ arbCycle a t + 1 then emptySlot a odd (arbCycle a t + slotLen a w)
      (ungrant a odd w t (slotLen a w) d)
    else withdrawFresh e a odd id d
  | none => withdrawFresh e a odd id d

/-! ## Quota windows (R362) -/

/-- Length of a quota window at an arbiter in thirds of a nanosecond: controller cycles at a channel pair, core cycles
at a Slate port. -/
def quotaLen (e : Env) (a : Nat) : Nat :=
  let n := max 1 (e.f 0xE40008 31 16)
  if a < 16 then ceilDiv (n * 45) 16 else 2 * n

/-- QUOTA_WINDOW_END -/
def quotaEndOp (e : Env) (a : Nat) (d : Dev) : Dev :=
  let x := d.arb a
  if e.third < x.winStart + quotaLen e a then d else d.setArb a { x with wins := [], winStart := e.third }

/-- PUR_STAT.drained: frozen, and no transfer in progress at any arbiter (R366). -/
def purDrained (e : Env) (d : Dev) : Bool := e.b 0xE40000 0 && d.loft.chans.all (fun c => c.2.queue.isEmpty && c.2.feed.isEmpty)

/-! ## Meanings -/

/-- ARBITER_DECISION -/
def execArbiterDecision (arb : Fin 18) (odd : Bool) (s : State) : Host.Outcome State Fault Refusal :=
  .next { s with dev := decisionOp s.env arb.val odd s.dev }
/-- REQUEST_WITHDRAW -/
def execRequestWithdraw (arb : Fin 18) (odd : Bool) (req : Fin 64) (s : State) : Host.Outcome State Fault Refusal :=
  .next { s with dev := withdrawOp s.env arb.val odd req.val s.dev }
/-- QUOTA_WINDOW_END -/
def execQuotaWindowEnd (arb : Fin 18) (s : State) : Host.Outcome State Fault Refusal :=
  .next { s with dev := quotaEndOp s.env arb.val s.dev }

end Sys2Proof.Machine
end

