-- ==== Sys2Proof/Machine/Twin.lean ====
section
/-! DEFINITION. The twin pair (chapter 15): role exchange, the twin cycle and its state delta, heartbeats, takeover,
fencing and planned switchover. -/
namespace Sys2Proof.Machine

/-! ## Registers -/

/-- TWN_CFG.enable. -/
def twinOn (e : Env) : Bool := e.b 0x1100000 31
/-- TWN_ROLE.role is standby. -/
def roleStandby (e : Env) : Bool := e.b 0x1100004 0
/-- TWN_CFG.fence_wired. -/
def fenceWired (e : Env) : Bool := e.b 0x1100000 30
/-- The device takes part in a pair: syncing or paired. -/
def inPair (e : Env) (d : Dev) : Bool := twinOn e && (d.twin.state == 2 || d.twin.state == 3)
/-- The twin cycle time, 31,250 to 10,000,000 ns. -/
def twinCyc (e : Env) : Nat := clamp 31250 10000000 (e.f 0x1100010 23 0)
/-- Number of the twin cycle that the domain stands in (R370), modulo 2^32. -/
def twinK (e : Env) : Nat :=
  let base := timeNs (e.reg 0x1100014) (e.reg 0x1100018) (e.reg 0x110001C)
  ((((e.domN (e.f 0x1100010 25 24) : Int) - (base * 65536 : Nat)) / ((twinCyc e * 65536 : Nat) : Int)) % (2 ^ 32 : Int)).toNat

/-! ## Items and records of the delta (R371) -/

/-- Bytes of a record of each order. -/
def recBytes (o : Nat) : Nat := [0, 32, 96, 32, 8, 32, 24, 16, 8, 16].getD o 0

/-- Bytes of a list of items. -/
def itemBytes (l : List (Nat × Nat)) : Nat := l.foldl (fun a i => a + recBytes i.1) 0

/-- A version as a record names it. -/
def verFin (v : Option Nat) : Option (Fin 16) := v.map (fun n => Fin.ofNat 16 n)

/-- The active window-set selector of every port. -/
def setBits96 (d : Dev) : BitVec 96 :=
  BitVec.ofNat 96 ((List.range 96).foldl (fun a n => if (d.port n).setB then a + 2 ^ n else a) 0)

/-- The record of a changed item in its latest value; none when the item is gone. -/
def recOf (e : Env) (d : Dev) (i : Nat × Nat) : Option DeltaRec :=
  let k := i.2
  match i.1 with
  | 3 => some (.identifiers (verFin d.rs.active) (verFin d.rs.retiring) (setBits96 d))
  | 4 =>
    let st := k / 2
    if k % 2 = 0 then some (.frerGen (BitVec.ofNat 16 st) (BitVec.ofNat 16 (tget d.slate.genDef d.slate.gen st)))
    else
      let x := tget {} d.slate.recov st
      some (.frerRecovery (BitVec.ofNat 16 st) (BitVec.ofNat 64 (x.hist + x.seq * 2 ^ 32 + flagAt x.takeAny 48)))
  | 5 => match xFind e d (k / 2 ^ 128) (k % 2 ^ 128) with
    | some s =>
      let x := d.xSlot s
      if x.static then none
      else some (.learn (Fin.ofNat 16 x.profile) (BitVec.ofNat 128 x.key) (BitVec.ofNat 64 x.result))
    | none => none
  | 6 => some (.ageOut (Fin.ofNat 16 (k / 2 ^ 128)) (BitVec.ofNat 128 k))
  | 7 =>
    let x := tget {} d.slate.meters k
    let t := meterFill (meterProfile d k) x e.third
    some (.meter (BitVec.ofNat 18 k) t.1 t.2)
  | 8 => some (.shaper (Fin.ofNat 96 (k / 17)) (if k % 17 < 15 then some (Fin.ofNat 15 (k % 17)) else none)
      (bktNow e d (k / 17) (k % 17)))
  | 9 =>
    let x := d.flow k
    let p := tget (0, 0) d.twin.flowSent k
    some (.flow (BitVec.ofNat 19 k) ((x.frameTotal + 2 ^ 64 - p.1) % 2 ^ 64) ((x.byteTotal + 2 ^ 64 - p.2) % 2 ^ 64))
  | _ => none

/-- The items of a full copy (R372). -/
def fullItems (d : Dev) : List (Nat × Nat) :=
  [(3, 0)] ++ (List.range 131072).map (fun k => (4, k)) ++
  d.slate.x.filterMap (fun kv =>
    if kv.2.valid && !kv.2.static then some (5, kv.2.profile * 2 ^ 128 + kv.2.key) else none) ++
  (List.range 262144).map (fun k => (7, k)) ++
  ((List.range 1632).filter (fun k => k % 17 != 15)).map (fun k => (8, k)) ++
  (List.range 524288).map (fun k => (9, k))

/-- Items by order; within one order those carried over stand first. A carried record of a thing that has changed again gives
way to the newer (R371, R373). -/
def mergeItems (carried new : List (Nat × Nat)) : List (Nat × Nat) :=
  let carried := carried.filter (fun i => (i.1 != 5 && i.1 != 6) || !(new.contains (twinTwin i)))
  let new := new.filter (fun i => !(carried.contains i))
  [3, 4, 5, 6, 7, 8, 9].flatMap (fun o => carried.filter (fun i => i.1 == o) ++ new.filter (fun i => i.1 == o))

/-! ## Pairing (R368) -/

/-- Nothing of a pair is left: no copy, no counting. -/
def twinClear (t : TwinSt) : TwinSt :=
  { t with eligible := false, lagging := false, timeLocked := false, lockN := 0, mismatch := false, lag := 0,
           missHb := 0, missAck := 0, changed := [], toSend := [], full := false, copyLeft := none, copyDue := false,
           counting := false, enabledAt := none }

/-- A TWIN_SWITCH that can no longer take place completes REJECTED. -/
def dropHandover (e : Env) (d : Dev) : Dev :=
  match d.twin.handover with
  | some (k, _) => cmdFinish e k stRejected [] { d with twin := { d.twin with handover := none } }
  | none => d

/-- Pairing begins: the exchange of roles is awaited. -/
def startPairing (e : Env) (d : Dev) : Dev :=
  let d := dropHandover e d
  { d with twin := { twinClear d.twin with state := 1, enabledAt := some e.third } }

/-- TWN_CFG has landed; `old` is its value before. The Flashing lanes are powered with enable (R456). -/
def twinCfgLanded (old : Nat) (e : Env) (d : Dev) : Dev :=
  let was := bit old 31
  let d := if was == twinOn e then d else powerRequest e 129 (twinOn e) (powerRequest e 128 (twinOn e) d)
  if twinOn e then
    if !was || d.twin.state = 5 || d.twin.state = 0 then (if d.twin.state = 4 then d else startPairing e d) else d
  else if was && d.twin.state ≠ 4 then
    let d := dropHandover e d
    { d with twin := { twinClear d.twin with state := 0 } }
  else d

/-- The Flashing link can have trained: both of its lanes are powered (R368, R456). -/
def flashOn (d : Dev) : Bool := unitOn d 128 && unitOn d 129

/-- ROLE_EXCHANGE. A partner that is a standby drives its fence output low. -/
def roleExchangeOp (e : Env) (partner : Option Bool) (d : Dev) : Dev :=
  if !(twinOn e) || d.twin.state ≠ 1 || d.twin.enabledAt.isNone || !(e.b 0x1200004 0) || !(flashOn d) then d else
    match partner with
    | none => d
    | some r =>
      if r == roleStandby e then raiseEv e 136 4 { d with twin := { twinClear d.twin with state := 5 } }
      else
        let t := { twinClear d.twin with state := 2, fenceIn := d.twin.fenceIn && !r }
        if roleStandby e then { d with twin := t }
        else { d with twin := { t with full := true, toSend := fullItems d, flowSent := [] } }

/-! ## Takeover and fence (R375, R377) -/

/-- Pause state, preemption and watchdogs begin as at link up. -/
def portsAfresh (e : Env) (d : Dev) : Dev :=
  d.ports.foldl (fun d kv => if kv.2.link then preStart e kv.1 (clearPause kv.1 d) else d) d

/-- The start of the ageing epoch in progress, so that the ager starts at the next one (R375 step 4). -/
def epochNow (e : Env) (d : Dev) : Nat :=
  let p := ms (max 10 (e.f 0x700100 31 16))
  d.slate.epochStart + (e.third - d.slate.epochStart) / p * p

/-- The standby takes over. With no partner known it goes on as an active that awaits one. -/
def takeover (s : State) : State :=
  let e := s.env.setReg 0x1100004 0
  let d := s.dev
  let skip := e.f 0x1100000 15 0
  let d := { d with
    twin := { twinClear d.twin with state := 1, enabledAt := some e.third, fenceOut := true }
    slate := { d.slate with
      gen := d.slate.gen.map (fun kv => (kv.1, (kv.2 + skip) % 65536))
      genDef := (d.slate.genDef + skip) % 65536
      epochStart := epochNow e d } }
  { s with env := e, dev := raiseEv e 136 0 (portsAfresh e d) }

/-- The device fences itself: it stops forwarding, and every copy in its queues and on its transmitters goes. -/
def fenceSelf (e : Env) (d : Dev) : Dev :=
  let d := { d with twin := { twinClear d.twin with state := 4, fenceOut := false } }
  let d := d.ports.foldl (fun d kv => flushPort e kv.1 (abandonTx e kv.1 d)) d
  raiseEv e 136 1 d

/-- FENCE_IN_RISE -/
def fenceInOp (e : Env) (d : Dev) : Dev :=
  let d := { d with twin := { d.twin with fenceIn := true } }
  if twinOn e && fenceWired e && !(roleStandby e) && (d.twin.state == 1 || inPair e d) then
    fenceSelf e (dropHandover e d)
  else d

/-- TWN_CTL.unfence: the device becomes an unpaired standby. -/
def unfenceOp (s : State) : State :=
  if s.dev.twin.state ≠ 4 then s
  else { s with env := s.env.setReg 0x1100004 1, dev := { s.dev with twin := { s.dev.twin with state := 0 } } }

/-! ## The twin cycle (R370-R373) -/

/-- The Quartz record at this LT. -/
def quartzRec (e : Env) : DeltaRec :=
  .quartz ((List.range 4).map (fun k => BitVec.ofInt 40 (e.dom k).adj)) ((List.range 4).map (fun k => BitVec.ofNat 96 (e.domN k)))

/-- The active closes its delta at boundary k: what was not sent carries over, ahead of the new items. -/
def closeDelta (e : Env) (k : Nat) (d : Dev) : Dev :=
  let t := d.twin
  let left := t.toSend
  let lagging := left != []
  let late := lagging && !t.lagging
  let d := { d with twin := { t with
    sentHb := some ⟨k, e.ltNs, false, false⟩, sentRecs := [quartzRec e], counting := true, copyDue := true,
    toSend := mergeItems left t.changed, changed := [],
    lag := min 0xFFFFFFFF (itemBytes left), lagging := lagging } }
  if late then raiseEv e 136 2 d else d

/-- TWIN_CYCLE_BOUNDARY: the domain has reached another cycle. -/
def boundaryOp (e : Env) (d : Dev) : Dev :=
  let k := twinK e
  if !(twinOn e) || d.twin.state = 4 || d.twin.k = k then d else
    let d := { d with twin := { d.twin with k := k, kAt := e.third } }
    if !(inPair e d) then dropHandover e d
    else if roleStandby e then { d with twin := { d.twin with counting := true } }
    else
      let due := match d.twin.handover with
        | some (_, dom, ns_) => decide (ns_ ≤ e.domNs dom)
        | none => false
      if !due then closeDelta e k d
      else
        let slot := match d.twin.handover with
          | some (s, _) => s
          | none => 0
        let d := fenceSelf e d
        { d with twin := { d.twin with
          handover := none, handed := some (slot, k), sentHb := some ⟨k, e.ltNs, true, false⟩, sentRecs := [quartzRec e] } }

/-- Items sent within a number of bytes, and those left. -/
def sendItems : Nat → List (Nat × Nat) → List (Nat × Nat) × List (Nat × Nat)
  | _, [] => ([], [])
  | n, i :: l =>
    if n < recBytes i.1 then ([], i :: l)
    else
      let r := sendItems (n - recBytes i.1) l
      (i :: r.1, r.2)

/-- STATE_COPY: Gneiss sends the delta's records as far as one cycle of the link carries them (R373). -/
def stateCopyOp (e : Env) (d : Dev) : Dev :=
  if !(inPair e d) || roleStandby e || !d.twin.copyDue || d.gns.dead then d else
    let r := sendItems (twinCyc e * 265 / 10 - 128) d.twin.toSend
    let recs := r.1.filterMap (recOf e d)
    let sent := r.1.foldl (fun t i => if i.1 = 9 then tset (0, 0) t i.2 ((d.flow i.2).frameTotal, (d.flow i.2).byteTotal) else t)
      d.twin.flowSent
    let ends := d.twin.full && r.2.isEmpty
    { d with twin := { d.twin with
      toSend := r.2, copyDue := false, flowSent := sent, full := d.twin.full && !ends,
      sentRecs := d.twin.sentRecs ++ recs ++ (if ends then [.fullCopyEnd] else []),
      state := if ends then 3 else d.twin.state } }

/-! ## Records at the standby (R371, R376) -/

/-- Phase error of domain k against a record's count, corrected by TWN_DELAY, in 2^-16 ns. -/
def phaseErr (e : Env) (d : Dev) (k : Nat) (n : BitVec 96) : Int :=
  let x := (n.toNat + d.twin.delay * 65536 : Int) - e.domN k
  toSigned 96 (ofSigned 96 x)

/-- The Quartz record disciplines the domains: each takes the ratio and slews the remaining error at its own rate. -/
def discipline (adj : List (BitVec 40)) (cnt : List (BitVec 96)) (s0 : State) : State :=
  let s := (List.range 4).foldl (fun s k => domOpApply k s) s0
  let e := s.env
  let errs := (List.range 4).map (fun k => phaseErr e s.dev k (cnt.getD k 0))
  let steer := fun (x : Env) (k : Nat) =>
    let m := (x.dom k).now x.lt3
    let err := errs.getD k 0
    let o : DomOp := { op := 3, val := err, atNs := 0, rate := max 1 (x.reg (0xB00100 + 0x40 * k + 0x1C)) }
    x.setDom k ({ m with adj := (adj.getD k 0).toInt }.apply o)
  let near := errs.all (fun x => decide (x.natAbs ≤ 10 * 65536))
  let n := if near then min 8 (s.dev.twin.lockN + 1) else 0
  { s with
    env := (List.range 4).foldl steer e
    dev := { s.dev with twin := { s.dev.twin with lockN := n, timeLocked := n == 8 } } }

/-- A twin insert or delete joins the host queue. -/
def twinLearn (op profile key result : Nat) (d : Dev) : Dev :=
  { d with slate := { d.slate with hostQ := d.slate.hostQ ++
      [{ profile := profile, key := key, result := result, op := op }] } }

/-- A record applied to the device. -/
def applyRec (e : Env) (r : DeltaRec) (d : Dev) : Dev :=
  match r with
  | .quartz _ _ => d
  | .identifiers a t sets =>
    let differs := a != verFin d.rs.active || t != verFin d.rs.retiring || sets != setBits96 d
    let d := { d with twin := { d.twin with mismatch := differs } }
    if differs then raiseEv e 136 3 d else d
  | .frerGen st n => setGen st.toNat n.toNat d
  | .frerRecovery st h =>
    let x := tget {} d.slate.recov st.toNat
    let h := h.toNat
    let x := { x with hist := bits h 31 0, seq := bits h 47 32, takeAny := bit h 48, last := e.third }
    { d with slate := { d.slate with recov := tput d.slate.recov st.toNat x } }
  | .learn p key res => twinLearn 3 p.val key.toNat res.toNat d
  | .ageOut p key => twinLearn 4 p.val key.toNat 0 d
  | .meter i tc te =>
    { d with slate := { d.slate with meters := tput d.slate.meters i.toNat { tc := some tc, te := some te, at3 := e.third } } }
  | .shaper port q b => setBkt e port.val (match q with
      | some k => k.val
      | none => 16) b d
  | .flow i fr by_ =>
    let x := d.flow i.toNat
    d.setFlow i.toNat { x with frames := (x.frames + fr) % 2 ^ 64, bytes := (x.bytes + by_) % 2 ^ 64 }
  | .fullCopyEnd => copySettle { d with twin := { d.twin with copyLeft := some ((d.slate.hostQ.filter (fun r => decide (3 ≤ r.op))).length) } }

/-- DELTA_RECORD_RECEIVE -/
def deltaOp (r : DeltaRec) (s : State) : State :=
  if !(inPair s.env s.dev) || !(roleStandby s.env) then s
  else match r with
    | .quartz adj cnt => if s.env.b 0x1100000 29 then discipline adj cnt s else s
    | r => { s with dev := applyRec s.env r s.dev }

/-! ## Heartbeats and acknowledgements (R374-R377) -/

/-- HEARTBEAT_RECEIVE: acknowledged at once; handover or fault makes an eligible standby take over. The round trip is the
active's to measure, so what TWN_DELAY holds at a standby is a free value (R374, assumption 67). -/
def heartbeatOp (k : Nat) (handover fault : Bool) (s : State) : State :=
  let e := s.env
  let d := s.dev
  if !(inPair e d) || !(roleStandby e) then s else
    let t := d.twin
    let s := { s with dev := { d with twin := { t with
      hbK := k, sentAck := some k, missHb := if t.hbJudged = k then t.missHb else 0 } } }
    if (handover || fault) && t.eligible then takeover s
    else
      let v := s.dev.takeFree
      { s with dev := { v.2 with twin := { v.2.twin with delay := v.1 % 65536 } } }

/-- HEARTBEAT_MISS: the heartbeat of the last boundary has not come within 1 us; the second in a row makes an eligible
standby take over. -/
def heartbeatMissOp (s : State) : State :=
  let e := s.env
  let t := s.dev.twin
  if !(inPair e s.dev) || !(roleStandby e) || !t.counting || t.hbK == t.k || t.hbJudged == t.k ||
      decide (e.third < t.kAt + us 1) then s
  else
    let s := { s with dev := raiseEv e 136 5 { s.dev with twin := { t with hbJudged := t.k, missHb := t.missHb + 1 } } }
    if 2 ≤ t.missHb + 1 ∧ t.eligible then takeover s else s

/-- HEARTBEAT_ACK_RECEIVE: the delay is half the round trip less the standby's turnaround; the acknowledgement of a
handover completes its TWIN_SWITCH. -/
def ackOp (e : Env) (k turnaround : Nat) (d : Dev) : Dev :=
  let t := d.twin
  let rtt := (e.third - t.kAt) / 3
  match t.handed with
  | some (slot, h) =>
    if h = k then cmdFinish e slot stOk [] { d with twin := { t with handed := none, ackK := k } } else d
  | none =>
    if !(inPair e d) || roleStandby e then d else
      { d with twin := { t with
        ackK := k
        delay := if k = t.k then min 65535 ((rtt - turnaround) / 2) else t.delay
        missAck := if t.ackJudged = k then t.missAck else 0 } }

/-- ACK_MISS: the acknowledgement of the last boundary's heartbeat has not come within 3 us; the third in a row fences
the active, unless the wired fence input shows that the partner does not forward. -/
def ackMissOp (e : Env) (d : Dev) : Dev :=
  let t := d.twin
  if !(inPair e d) || roleStandby e || !t.counting || t.ackK == t.k || t.ackJudged == t.k ||
      decide (e.third < t.kAt + us 3) then d
  else
    let d := raiseEv e 136 5 { d with twin := { t with ackJudged := t.k, missAck := t.missAck + 1 } }
    if 3 ≤ t.missAck + 1 ∧ !(fenceWired e && !t.fenceIn) then fenceSelf e (dropHandover e d) else d

/-- WITHDRAW_NOTICE_RECEIVE: the standby is rebuilding; the active awaits it (R380). -/
def withdrawNoticeOp (e : Env) (d : Dev) : Dev :=
  if inPair e d && !(roleStandby e) then startPairing e d else d

/-- TWIN_SWITCH (R379): one at a time. -/
def twinSwitchOp (e : Env) (k : Nat) (d : Dev) : Dev :=
  if !(canStart d k 0x50) || d.twin.handover.isSome then d
  else if !(twinOn e) || roleStandby e || d.twin.state ≠ 3 then cmdFinish e k stRejected [] d
  else
    let d := cmdRun k d
    { d with twin := { d.twin with handover := some (k, bits (argWord d k 4) 1 0, argTime d k 5) } }

/-! ## Meanings -/

/-- ROLE_EXCHANGE -/
def execRoleExchange (partner : Option Bool) (s : State) : Host.Outcome State Fault Refusal :=
  .next { s with dev := roleExchangeOp s.env partner s.dev }
/-- TWIN_CYCLE_BOUNDARY -/
def execTwinCycleBoundary (s : State) : Host.Outcome State Fault Refusal :=
  .next { s with dev := boundaryOp s.env s.dev }
/-- STATE_COPY -/
def execStateCopy (s : State) : Host.Outcome State Fault Refusal := .next { s with dev := stateCopyOp s.env s.dev }
/-- DELTA_RECORD_RECEIVE -/
def execDeltaRecordReceive (record : DeltaRec) (s : State) : Host.Outcome State Fault Refusal :=
  .next (deltaOp record s)
/-- HEARTBEAT_RECEIVE -/
def execHeartbeatReceive (k : Nat) (handover fault : Bool) (s : State) : Host.Outcome State Fault Refusal :=
  .next (heartbeatOp k handover fault s)
/-- HEARTBEAT_ACK_RECEIVE -/
def execHeartbeatAckReceive (k turnaround : Nat) (s : State) : Host.Outcome State Fault Refusal :=
  .next { s with dev := ackOp s.env k turnaround s.dev }
/-- HEARTBEAT_MISS -/
def execHeartbeatMiss (s : State) : Host.Outcome State Fault Refusal := .next (heartbeatMissOp s)
/-- ACK_MISS -/
def execAckMiss (s : State) : Host.Outcome State Fault Refusal := .next { s with dev := ackMissOp s.env s.dev }
/-- FENCE_IN_RISE -/
def execFenceInRise (s : State) : Host.Outcome State Fault Refusal := .next { s with dev := fenceInOp s.env s.dev }
/-- WITHDRAW_NOTICE_RECEIVE -/
def execWithdrawNoticeReceive (s : State) : Host.Outcome State Fault Refusal :=
  .next { s with dev := withdrawNoticeOp s.env s.dev }
/-- UNFENCE -/
def execUnfence (s : State) : Host.Outcome State Fault Refusal := .next (unfenceOp s)
/-- TWIN_SWITCH -/
def execTwinSwitch (slot : Fin 4096) (s : State) : Host.Outcome State Fault Refusal :=
  .next { s with dev := twinSwitchOp s.env slot.val s.dev }

end Sys2Proof.Machine
end

