-- ==== Sys2Proof/Machine/Epoch.lean ====
section
/-! DEFINITION. Fault epochs (R398-R401, R380, R408): the fault, the rebuild's end, and the small register commands of
chapter 16 that go with them. -/
namespace Sys2Proof.Machine

/-! ## The fault -/

/-- A preempted frame ends stomped where it stands (R34, R399). -/
def stompPreempted (e : Env) (n : Nat) (d : Dev) : Dev :=
  match (d.port n).preempted with
  | none => d
  | some t =>
    let ctx := (d.copyAsm t.copy).ctx t.queue
    let out := stompBytes (t.bytes.take t.sentBefore)
    let d := bumpPort e n 55 1 ctx (txCount e n out ctx (d.onPort n (fun p => { p with preempted := none })))
    bumpQ e n t.queue 1 out.length ctx (bumpQ e n t.queue 0 1 ctx d)

/-- The transmissions of port n stomped (R399). -/
def faultStomp (e : Env) (n : Nat) (d : Dev) : Dev :=
  match (d.port n).tx with
  | some t => stompPreempted e n (stompTx e n (if t.flow.isSome then none else (d.copyAsm t.copy).ctx t.queue) d)
  | none => stompPreempted e n d

/-- XOFFs that the partner may hold: those sent, a queued pause time of zero not yet being sent. -/
def xoffHeld (e : Env) (p : PortSt) : Tbl Nat :=
  p.flowQ.foldl (fun t f => if f.2 = 0 then tset 0 t f.1 (e.third + 1) else t) p.xoff

/-- A port at a fault: its queues, scheduling and WRED state are lost; a frame being received is given up (R399, R400). -/
def faultPort (e : Env) (p : PortSt) : PortSt :=
  { p with
    rx := p.rx.map (fun r => { r with frame := none, ovf := true })
    reasm := none, reasmDead := p.reasm.isSome || p.reasmDead
    xoff := xoffHeld e p, flowQ := [], swap := none, queues := [], vtime := 0, fprev := [], avg := [], spill := [] }

/-- Every tile of block b that is not quarantined is freed. -/
def faultTiles (e : Env) (d : Dev) (b : Nat) : Dev :=
  let x := d.blk b
  freeTiles e b (x.alloc.filter (fun t => !(x.quar.contains t))) d

/-- A port block at a fault: what is kept is named; everything else is as at reset (R400). -/
def faultBlk (x : BlkSt) : BlkSt :=
  { trunkMode := x.trunkMode, modePending := x.modePending, alloc := x.alloc, quar := x.quar, suspect := x.suspect,
    arrivals := x.arrivals, overcommit := x.overcommit, excLog := x.excLog, reserved := x.reserved,
    rr := x.rr, issuedAt := x.issuedAt, stealLost := x.stealLost,
    handGen := x.handGen, handBr := x.handBr, sent1 := x.sent1, sent2 := x.sent2, hwm := x.hwm,
    noMember := x.noMember, edits := x.edits }

/-- Commands at a fault (R399, R408): every outstanding one is void, a member's copy of a head's command included. -/
def faultCmds (cause : Nat) (d : Dev) : Dev :=
  let c := d.cmd
  let void := c.slots.filterMap (fun kv => if kv.2.used && !kv.2.finished && !kv.2.forHead then some kv.1 else none)
  let heads := c.slots.filterMap (fun kv => if kv.2.used && !kv.2.finished && kv.2.forHead then some kv.1 else none)
  let d := void.foldl (fun d k => d.setSlot k { d.slot k with running := false, finished := true })
    (freeSlots heads d)
  { d with cmd := { d.cmd with
    epoch := (c.epoch + 1) % 65536
    cause := cause
    rebuilding := true
    voided := c.voided ++ void
    accepted := c.accepted.map (fun kv => (kv.1, if kv.2.body.isNone then { kv.2 with slot := 4096 } else kv.2))
    memb := c.memb.map (fun kv => (kv.1, { kv.2 with out := [], queue := [] })) } }

/-- What the links of a pair carry and keep of a fault (R380). -/
def faultTwin (e : Env) (d : Dev) : Dev :=
  let t := { d.twin with handover := none, handed := none }
  let t := if !(inPair e d) then t
    else if roleStandby e then { twinClear t with state := 1, sentWithdraw := t.sentWithdraw + 1 }
    else { twinClear t with state := 4, fenceOut := false, sentHb := some ⟨t.k, e.ltNs, false, true⟩ }
  { d with twin := t }

/-- Commits end; a version committed and not switched is free again, its slot empty (R139). -/
def faultRules (d : Dev) : Dev :=
  { d with rs := { d.rs with
    committed := [], commits := [], walk := none, walkAt := 0
    slots := d.rs.slots.map (fun s => if s.state = 1 then {} else s) } }

/-- Loft at a fault: spilled frames, audits, training and restarts end (R245, R357), and the requesters enter reset, which
discards their pending queues (R363, R399). -/
def faultLoft (e : Env) (d : Dev) : Dev :=
  let d := (d.loft.alloc.filter (fun u => !(d.loft.quar.contains u))).foldl (freeLoftTile e) d
  { d with loft := { d.loft with
    train := none, restart := none, drip := none, touched := [], dripOld := []
    asks := [], arbs := d.loft.arbs.map (fun kv => (kv.1, { kv.2 with pend := [], served := [] })) } }

/-- A device fault (R398, R399, R400). -/
def deviceFault (e : Env) (cause : Nat) (d : Dev) : Dev :=
  let d := d.ports.foldl (fun d kv => faultStomp e kv.1 d) d
  let d := faultCmds cause (faultTwin e (faultRules (faultLoft e d)))
  let d := (List.range 16).foldl (faultTiles e) d
  let d := { d with
    ports := d.ports.map (fun kv => (kv.1, faultPort e kv.2))
    blks := d.blks.map (fun kv => (kv.1, faultBlk kv.2))
    frames := [], sends := [], asms := [], copies := [], threads := []
    wredSwap := none, policerSwap := none, swapRes := []
    stat := { d.stat with snaps := [] }
    pmu := { d.pmu with saved := [] }
    slate := { d.slate with hostQ := [], reqs := [], pJob := none, flush := none }
    gns := { d.gns with run := none, susp := [], aborts := [], reqs := [], reply := [], since := 0 } }
  let d := (List.range 16).foldl (fun d b => ovcUpdate e b d) d
  d.ports.foldl (fun d kv => dogsUpdate e kv.1 d) d

/-! ## The end of the rebuild -/

/-- A port sends a pause time of zero for each XOFF it had sent (R400). -/
def releaseXoffs (e : Env) (n : Nat) (d : Dev) : Dev :=
  let ks := (d.port n).xoff.map (·.1)
  let d := d.onPort n (fun p => { p with xoff := [] })
  ks.foldl (fun d k => if flowOn e n k && txAllowed e d n then pushFlow e n k 0 d else d) d

/-- The version in force is reinstated, a retiring one made free (R139, R400). -/
def rebuildRules (e : Env) (d : Dev) : Dev :=
  let d := match d.rs.retiring with
    | some u => retireVersion u { d with rs := { d.rs with walkAt := 0 } }
    | none => d
  { d with rs := { d.rs with before := d.rs.active, switchLt := e.ltNs } }

/-- REBUILD_END: the epoch completion joins those to be posted, a member tells its head, and forwarding resumes
except on a former active (R380, R399, R408). A Gneiss that has stopped never ends the rebuild (R413). -/
def rebuildEnd (e : Env) (d : Dev) : Dev :=
  if !d.cmd.rebuilding || d.gns.dead then d else
    let d := rebuildRules e d
    let d := { d with cmd := { d.cmd with
      rebuilding := false, voided := []
      cpls := d.cmd.cpls ++ [epochCpl (devId e) d.cmd.cause d.cmd.voided] } }
    let d := if twinOn e && d.twin.state == 1 && d.twin.enabledAt.isNone then startPairing e d else d
    let d := d.ports.foldl (fun d kv => releaseXoffs e kv.1 d) d
    if !(isHead e) && d.cmd.lastHead != 0 then battenReply e 4 0 [] d else d

/-! ## Register commands of chapter 16 -/

/-- CMD_KEY word w of member m written; word 3 makes the key valid (R405). -/
def keyPut (m w : Nat) (v : Word) (d : Dev) : Dev :=
  { d with cmd := { d.cmd with
    keys := tset 0 d.cmd.keys (4 * m + w) v
    keyValid := if w = 3 then d.cmd.keyValid ||| 2 ^ m else d.cmd.keyValid } }

/-- CMD_CPL_HEAD written. -/
def cplHeadPut (v : Nat) (s : State) : State :=
  let old := s.env.f 0x200060 12 0
  let e := s.env.setReg 0x200060 (v % 8192)
  { s with env := e, dev := cplHeadMoved old e s.dev }

/-! ## Meanings -/

/-- FORCE_EPOCH -/
def execForceEpoch (s : State) : Host.Outcome State Fault Refusal := .next { s with dev := deviceFault s.env 4 s.dev }
/-- DEVICE_FAULT: causes 1 to 3 of R398. -/
def execDeviceFault (cause : Fin 3) (s : State) : Host.Outcome State Fault Refusal :=
  .next { s with dev := deviceFault s.env (cause.val + 1) s.dev }
/-- REBUILD_END -/
def execRebuildEnd (s : State) : Host.Outcome State Fault Refusal := .next { s with dev := rebuildEnd s.env s.dev }
/-- KEY_WRITE: word 3 of CMD_KEY of a member. -/
def execKeyWrite (member : Fin 64) (value : Word) (s : State) : Host.Outcome State Fault Refusal :=
  .next { s with dev := keyPut member.val 3 value s.dev }
/-- CPL_HEAD_WRITE -/
def execCplHeadWrite (value : Word) (s : State) : Host.Outcome State Fault Refusal :=
  .next (cplHeadPut value.toNat s)

end Sys2Proof.Machine
end

