-- ==== Sys2Proof/Machine/Gneiss.lean ====
section
/-! DEFINITION. Gneiss (chapter 17): routines and their priorities, fetching and carrying out a microword, traps,
safe points and attention, aborts, and PATCH_LOAD. -/
namespace Sys2Proof.Machine

/-! ## Routines (R418, R420) -/

/-- Priority of a routine (R420). -/
def RoutineKind.prio : RoutineKind → Nat
  | .rebuild => 3
  | .stateCopy => 2
  | .rsCopy | .walk | .snapshot | .swap | .pUpdate | .loftRestart | .patchLoad => 1
  | .xFlush | .dripAudit | .loftTrain => 0

/-- The contexts that exist: the running one and the suspended ones. -/
def gnsCtxs (d : Dev) : List Ctx := d.gns.run.toList ++ d.gns.susp

/-- A context runs command slot k. -/
def hasCtx (d : Dev) (k : Nat) : Bool := (gnsCtxs d).any (fun c => c.rt.slot == some k)

/-- The routine of a command slot that waits for Gneiss, if any. A commit's copy and its walk are routines of their
own; a command whose effect waits for an instant has no routine. -/
def slotKind (d : Dev) (k : Nat) (x : CmdSlot) : Option RoutineKind :=
  if !x.used || x.finished || x.member.isSome then none
  else if x.op = 0x10 then
    match d.rs.commits.find? (fun c => c.slot == k) with
    | some c => if c.step = 3 then some .rsCopy else if c.step = 8 then some .walk else none
    | none => some .rsCopy
  else if x.op = 0x23 then some .pUpdate
  else if x.op = 0x30 then (if x.running then none else some .swap)
  else if x.op = 0x31 then (if x.running then none else some .snapshot)
  else if x.op = 0x42 then some .loftRestart
  else if x.op = 0x60 then some .patchLoad
  else if x.op = 0x22 then some .xFlush
  else if x.op = 0x40 then some .dripAudit
  else if x.op = 0x41 then some .loftTrain
  else none

/-- The state copy of the last boundary has not started (R418), and no rebuild keeps it from running (R420). -/
def copyWaits (d : Dev) : Bool :=
  d.twin.copyDue && !d.cmd.rebuilding && !((gnsCtxs d).any (fun c => c.rt.kind == .stateCopy))

/-- The commands whose routines wait to start, oldest first. -/
def slotsReady (d : Dev) : List (Nat × Routine) :=
  d.cmd.slots.filterMap (fun kv => match slotKind d kv.1 kv.2 with
    | some r => if hasCtx d kv.1 then none else some (kv.2.order, { kind := r, slot := some kv.1 })
    | none => none)

/-- The routine of least order among those of priority p. -/
def firstOf (p : Nat) (l : List (Nat × Routine)) : Option Routine :=
  ((l.filter (fun r => r.2.kind.prio == p)).foldl (fun (a : Option (Nat × Routine)) r => match a with
    | some b => if r.1 < b.1 then some r else a
    | none => some r) none).map (·.2)

/-- The routine that would start next (R420). -/
def gnsNext (d : Dev) : Option Routine :=
  if d.cmd.rebuilding && !((gnsCtxs d).any (fun c => c.rt.kind == .rebuild)) then some { kind := .rebuild, slot := none }
  else if copyWaits d then some { kind := .stateCopy, slot := none }
  else (firstOf 1 (slotsReady d)).or (firstOf 0 (slotsReady d))

/-- ROM entry of a routine. -/
def gnsEntryOf (k : RoutineKind) : Nat :=
  (Config.gnsEntry (match k with
    | .rebuild => 0 | .stateCopy => 1 | .rsCopy => 2 | .walk => 3 | .snapshot => 4 | .swap => 5 | .pUpdate => 6
    | .loftRestart => 7 | .patchLoad => 8 | .xFlush => 9 | .dripAudit => 10 | .loftTrain => 11)).toNat

/-- ROUTINE_START: with no routine running, the suspended context of highest priority resumes unless a routine of a
higher priority waits, which then starts from its ROM entry. -/
def routineStartOp (d : Dev) : Dev :=
  if d.gns.run.isSome || d.gns.dead then d else
    let fresh := fun r : Routine =>
      { d with gns := { d.gns with run := some { rt := r, upc := gnsEntryOf r.kind }, since := 0 } }
    match gnsNext d, d.gns.susp with
    | none, [] => d
    | some r, [] => fresh r
    | none, c :: rest => { d with gns := { d.gns with run := some c, susp := rest, since := 0 } }
    | some r, c :: rest =>
      if c.rt.kind.prio < r.kind.prio then fresh r
      else { d with gns := { d.gns with run := some c, susp := rest, since := 0 } }

/-! ## The end of a routine -/

/-- What a Gneiss command that ends early leaves of its operation: nothing under way, and of a commit that has not
switched, its version free and its program slot empty. -/
def dropOp (k : Nat) (d : Dev) : Dev :=
  let mine := d.rs.commits.filter (fun c => c.slot == k && decide (c.step ≤ 5))
  let l := d.loft
  { d with
    slate := { d.slate with
      pJob := if d.slate.pJob.any (fun t => t.slot == k) then none else d.slate.pJob
      flush := if d.slate.flush.any (fun t => t.slot == k) then none else d.slate.flush }
    loft := { l with
      train := if l.train.any (fun t => t.slot == k) then none else l.train
      drip := if l.drip.any (fun t => t.1 == k) then none else l.drip
      restart := if l.restart.any (fun t => t.1 == k) then none else l.restart }
    stat := { d.stat with snaps := d.stat.snaps.filter (fun x => x.slot != k) }
    pmu := { d.pmu with saved := d.pmu.saved.filter (fun kv => kv.1 / 64 != k) }
    wredSwap := if d.wredSwap.any (fun t => t.2 == k) then none else d.wredSwap
    policerSwap := if d.policerSwap.any (fun t => t.2 == k) then none else d.policerSwap
    swapRes := tdel d.swapRes k
    ports := d.ports.map (fun kv => (kv.1, if kv.2.swap.any (fun t => t.2 == k) then { kv.2 with swap := none } else kv.2))
    rs := { d.rs with
      commits := d.rs.commits.filter (fun c => !(c.slot == k && decide (c.step ≤ 5)))
      committed := d.rs.committed.filter (fun v => !(mine.any (fun c => c.version == v)))
      slots := d.rs.slots.map (fun s =>
        if s.state = 1 && mine.any (fun c => decide (3 ≤ c.step) && c.version == s.version) then {} else s) } }

/-- The running routine ends. -/
def endRun (d : Dev) : Dev := { d with gns := { d.gns with run := none, since := 0 } }

/-- A microcode trap (R421): `cause` 1 to 3, at the word's own place. -/
def gnsTrap (e : Env) (cause : Nat) (c : Ctx) (d : Dev) : Dev :=
  let d := raiseEv e 138 0 { d with gns := { d.gns with
    trapLog0 := w32 (cause * 2 ^ 28 + flagAt c.space 16 + c.upc), trapLog1 := w32 (e.ltNs % 2 ^ 32) } }
  if c.rt.kind == .rebuild || c.rt.kind == .stateCopy then deviceFault e 2 d
  else match c.rt.slot with
    | some k => cmdFinish e k stRejected [0, 0, 0, 0, c.upc] (dropOp k (endRun d))
    | none => endRun d

/-! ## Aborts (R420, R422) -/

/-- The command of slot k ends PARTIAL; an X_FLUSH gives the count invalidated so far, a LOFT_TRAIN the map of the settings
tested so far. -/
def abortEnd (k : Nat) (s : State) : State :=
  let host := match s.dev.loft.train with
    | some t => if t.slot = k then mwrite s.host t.mapAddr (natLE 32 (t.passed.foldl (fun a p => a + 2 ^ p) 0)) else s.host
    | none => s.host
  let d := s.dev
  let d := { d with gns := { d.gns with
    run := if d.gns.run.any (fun c => c.rt.slot == some k) then none else d.gns.run
    susp := d.gns.susp.filter (fun c => c.rt.slot != some k)
    aborts := d.gns.aborts.erase k } }
  let n := match d.slate.flush with
    | some f => if f.slot = k then f.count else 0
    | none => 0
  { s with host := host, dev := cmdFinish s.env k stPartial [n] (dropOp k d) }

/-- A handle written to GNS_ABORT: a command being stepped word by word is flagged for its next safe point; any
other ends at once. -/
def gnsAbortOp (h : Nat) (s : State) : State :=
  let d := s.dev
  let k := h % 4096
  let x := d.slot k
  if !x.used || x.finished || x.forHead || x.member.isSome || handleOf d k != h % 65536 || gnsPrio x.op != some 0 ||
      d.gns.dead then s
  else if hasCtx d k then
    { s with dev := { d with gns := { d.gns with aborts := if d.gns.aborts.contains k then d.gns.aborts else d.gns.aborts ++ [k] } } }
  else abortEnd k s

/-! ## Fetch (R411-R413) -/

/-- The lowest enabled match register that names a ROM address. -/
def gnsMatch (d : Dev) (a : Nat) : Option Nat :=
  ((List.range 64).find? (fun k =>
    let w := (tget 0 d.gns.matchRegs k).toNat
    bit w 31 && bits w 15 0 == a)).map (fun k => bits (tget 0 d.gns.matchRegs k).toNat 26 16)

/-- The context as its word is fetched: a matched ROM address continues in patch RAM; whether it matched. -/
def gnsPlace (d : Dev) (c : Ctx) : Ctx × Bool :=
  if c.space then (c, false) else match gnsMatch d c.upc with
    | some w => ({ c with space := true, upc := w }, true)
    | none => (c, false)

/-- The word at a place. -/
def gnsWord (d : Dev) (c : Ctx) : BitVec 128 := if c.space then tget 0 d.gns.patch c.upc else Config.gnsRom c.upc

/-- A double-bit error (R413): a device fault with cause 2; a patch goes out of force, and in ROM during a rebuild Gneiss
stops for good. -/
def gnsDouble (e : Env) (c : Ctx) (d : Dev) : Dev :=
  if c.space then
    let m := d.gns.matchRegs.map (fun kv => (kv.1, kv.2 &&& 0x7FFFFFFF#32))
    deviceFault e 2 { d with gns := { d.gns with matchRegs := m, loaded := false } }
  else if d.cmd.rebuilding then { d with gns := { d.gns with run := none, dead := true } }
  else deviceFault e 2 d

/-! ## Carrying out a word (R414-R417) -/

/-- Field hi..lo of a microword. -/
def gf (w : BitVec 128) (hi lo : Nat) : Nat := bits w.toNat hi lo

/-- Register i of a context. -/
def Ctx.r (c : Ctx) (i : Nat) : DWord := tget 0 c.rf i
/-- Register i of a context written. -/
def Ctx.setR (c : Ctx) (i : Nat) (v : DWord) : Ctx := { c with rf := tset 0 c.rf i v }

/-- Groups of aluop (R417): 0 none, 1 arithmetic, 2 move, 3 request, 4 complete, 5 unwind mark; none undefined. -/
def aluGroup (op : Nat) : Option Nat :=
  if op = 0 then some 0
  else if 0x01 ≤ op ∧ op ≤ 0x0C then some 1
  else if 0x10 ≤ op ∧ op ≤ 0x13 then some 2
  else if 0x20 ≤ op ∧ op ≤ 0x23 then some 3
  else if op = 0x30 then some 4
  else if op = 0x31 then some 5
  else none

/-- Result of an arithmetic operation on 64 bits. -/
def gnsAlu (op : Nat) (a b : DWord) : DWord :=
  let less := if Config.gnsSigned then a.slt b else a.ult b
  match op with
  | 0x01 => a + b
  | 0x02 => a - b
  | 0x03 => a &&& b
  | 0x04 => a ||| b
  | 0x05 => a ^^^ b
  | 0x06 => ~~~a
  | 0x07 => if b.toNat < 64 then a <<< b.toNat else Config.gnsShift op a b
  | 0x08 => if b.toNat < 64 then a >>> b.toNat else Config.gnsShift op a b
  | 0x09 => a.rotateLeft (b.toNat % 64)
  | 0x0A => if less then a else b
  | 0x0B => if less then b else a
  | _ => a - b

/-- Carry of an arithmetic operation: of add, out of bit 63. -/
def gnsCy (op : Nat) (a b : DWord) : Bool :=
  if op = 0x01 then decide (2 ^ 64 ≤ a.toNat + b.toNat) else Config.gnsCarry op a b

/-- Flags set from a result, where ctl[69] asks for it. -/
def Ctx.flags (c : Ctx) (w : BitVec 128) (v : DWord) (cy : Bool) : Ctx :=
  if gf w 69 69 = 1 then { c with z := v == 0, n := v.msb, c := cy } else c

/-- Second operand: rb or imm. -/
def gnsB (w : BitVec 128) (c : Ctx) : DWord :=
  if Config.gnsImm w then BitVec.ofNat 64 (gf w 63 0) else c.r (gf w 83 78)

/-- An arithmetic word. cmp writes no register. -/
def gnsArith (w : BitVec 128) (c : Ctx) : Ctx :=
  let op := gf w 102 96
  let a := c.r (gf w 89 84)
  let b := gnsB w c
  let v := gnsAlu op a b
  let c := if op = 0x0C then c else c.setR (gf w 95 90) v
  c.flags w v (gnsCy op a b)

/-- A move word. -/
def gnsMoveW (opcode : Nat) (w : BitVec 128) (c : Ctx) : Ctx :=
  let a := c.r (gf w 89 84)
  match gf w 102 96 with
  | 0x10 => (c.setR (gf w 95 90) a).flags w a (Config.gnsCarry 0x10 a a)
  | 0x11 =>
    let v : DWord := BitVec.ofNat 64 (gf w 63 0)
    (c.setR (gf w 95 90) v).flags w v (Config.gnsCarry 0x11 v v)
  | 0x12 => { c with disp := a.toNat % 256 }
  | _ => { c with disp := opcode }

/-- The loop counter: loaded, else decremented (R414). -/
def gnsLoop (w : BitVec 128) (c : Ctx) : Ctx :=
  if gf w 71 71 = 1 then { c with loop := gf w 15 0 }
  else if gf w 70 70 = 1 then { c with loop := (c.loop + 65535) % 65536 }
  else c

/-- Nanoseconds to the next twin-cycle boundary. -/
def twinLeft (e : Env) : Nat :=
  let base := timeNs (e.reg 0x1100014) (e.reg 0x1100018) (e.reg 0x110001C)
  twinCyc e - (((e.domNs (e.f 0x1100010 25 24) : Int) - (base : Nat)) % (twinCyc e : Int)).toNat

/-- Attention is pending for the running routine (R418). -/
def attention (d : Dev) (c : Ctx) : Bool :=
  !d.gns.aborts.isEmpty || copyWaits d || (match gnsNext d with
    | some r => decide (c.rt.kind.prio < r.kind.prio)
    | none => false)

/-- Condition codes (R416). -/
def gnsCond (e : Env) (d : Dev) (c : Ctx) (port : Nat) : Nat → Bool
  | 0 => true
  | 1 => c.z
  | 2 => !c.z
  | 3 => c.c
  | 4 => !c.c
  | 5 => c.n
  | 6 => !c.n
  | 7 => attention d c
  | 8 => !(slotsReady d).isEmpty
  | 9 => thas d.gns.reply port
  | 10 => match c.rt.slot with
    | some k => d.gns.aborts.contains k
    | none => false
  | 11 => c.loop == 0
  | 12 => c.loop != 0
  | 13 => !(onlineChans d).isEmpty
  | 14 => twinOn e && decide (twinLeft e ≤ 8000)
  | _ => false

/-- The next word in the same space. -/
def gnsHere (c : Ctx) : Bool × Nat := if c.space then (true, (c.upc + 1) % 2048) else (false, (c.upc + 1) % 65536)

/-- An explicit address as the space reads it (R412). -/
def gnsExplicit (c : Ctx) (a : Nat) : Bool × Nat := if c.space && a / 2048 == 31 then (true, a % 2048) else (false, a)

/-- The next address and return stack (R415); a trap's cause otherwise. -/
def gnsNextAddr (e : Env) (d : Dev) (w : BitVec 128) (c : Ctx) : Except Nat Ctx :=
  let nx := gf w 127 112
  let cond := gf w 107 104
  let go := fun (c : Ctx) (p : Bool × Nat) => ({ c with space := p.1, upc := p.2 } : Ctx)
  match gf w 109 108 with
  | 0 =>
    if 1 < cond then .error 1
    else if cond = 1 then
      if 8 ≤ c.stack.length then .error 2 else .ok (go { c with stack := gnsHere c :: c.stack } (gnsExplicit c nx))
    else .ok (go c (gnsExplicit c nx))
  | 1 => .ok (go c (if gnsCond e d c (gf w 77 72) cond then gnsExplicit c nx else gnsHere c))
  | 2 => .ok (go c (gnsExplicit c (nx / 256 * 256 + c.disp)))
  | _ => match c.stack with
    | [] => .error 2
    | p :: r => .ok (go { c with stack := r } p)

/-- A request on a port (R417): the reply register waits for its reply. -/
def gnsRequestW (w : BitVec 128) (c : Ctx) (d : Dev) : Dev :=
  let port := gf w 77 72
  if port = 0 then d else
    { d with gns := { d.gns with
      reqs := d.gns.reqs ++ [(port, gf w 102 96 - 0x20, gf w 63 0, c.r (gf w 89 84))]
      reply := tdel d.gns.reply port } }

/-- The context of an aborted routine as it goes on: at its unwind entry (R420). -/
def Ctx.toUnwind (c : Ctx) (p : Bool × Nat) : Ctx :=
  { c with space := p.1, upc := p.2, stack := [], unwind := none, unwinding := true }

/-- A flagged command is handled at a safe point: its routine runs its unwind entry if it has marked one, and ends PARTIAL at
that entry's Complete word; otherwise it ends PARTIAL at once (R420, assumption 73). -/
def abortTake (s : State) (k : Nat) : State :=
  let d := s.dev
  let g := d.gns
  let turn := fun c : Ctx => if c.rt.slot = some k then (match c.unwind with
    | some p => c.toUnwind p
    | none => c) else c
  if (gnsCtxs d).any (fun c => c.rt.slot == some k && c.unwind.isSome) then
    { s with dev := { d with gns := { g with
      run := g.run.map turn, susp := g.susp.map turn, aborts := g.aborts.erase k } } }
  else abortEnd k s

/-- The end of a safe word: the gap since the last one is noted and attention handled (R418-R420). -/
def gnsSafe (e : Env) (gap : Nat) (s : State) : State :=
  let d := s.dev
  let d := { d with gns := { d.gns with since := 0, gap := max d.gns.gap (min 65535 gap) } }
  let d := if 2048 < gap then raiseEv e 138 1 d else d
  let s := d.gns.aborts.foldl abortTake { s with dev := d }
  let d := s.dev
  match d.gns.run with
  | none => s
  | some c => if attention d c then { s with dev := { d with gns := { d.gns with run := none, susp := c :: d.gns.susp } } } else s

/-- A Complete word (R417): the routine ends and its command's completion is posted; of an aborted routine, PARTIAL. -/
def gnsComplete (e : Env) (w : BitVec 128) (c : Ctx) (s : State) : State :=
  match c.rt.slot with
  | some k =>
    if c.unwinding then abortEnd k s
    else
      let rs := [59, 60, 61, 62, 63].map (fun i => (c.r i).toNat % 2 ^ 32)
      { s with dev := cmdFinish e k ((c.r (gf w 89 84)).toNat % 8) rs (dropOp k (endRun s.dev)) }
  | none => { s with dev := endRun s.dev }

/-- The effect of a fetched word that traps nowhere: `c` stands at the word, `c'` where it goes next. -/
def gnsEffect (e : Env) (w : BitVec 128) (group : Nat) (c c' : Ctx) (s : State) : State :=
  let d := s.dev
  let d := { d with gns := { d.gns with run := some c', since := d.gns.since + 2 ^ gf w 111 110 } }
  let d := if group = 3 then gnsRequestW w c d else d
  let s' := if group = 4 then gnsComplete e w c { s with dev := d } else { s with dev := d }
  if gf w 103 103 = 1 then gnsSafe e s.dev.gns.since s' else s'

/-- A word carried out by the row of its group. -/
def gnsStep (group : Nat) (ecc : Ecc) (s : State) : State :=
  let e := s.env
  match s.dev.gns.run with
  | none => s
  | some c0 =>
    if s.dev.gns.dead then s else
      let f := gnsPlace s.dev c0
      let c := f.1
      let w := gnsWord s.dev c
      match ecc with
      | .double => { s with dev := gnsDouble e c s.dev }
      | _ =>
        let fix := fun d : Dev => if ecc == .single then raiseEv e 138 2 d else d
        match aluGroup (gf w 102 96) with
        | none => { s with dev := gnsTrap e 1 c (fix s.dev) }
        | some g =>
          if g ≠ group then s
          else if 6 < gf w 77 72 then { s with dev := gnsTrap e 3 c (fix s.dev) }
          else
            let opcode := match c.rt.slot with
              | some k => (s.dev.slot k).op
              | none => 0
            let c1 := if g = 1 then gnsArith w c else if g = 2 then gnsMoveW opcode w c
              else if g = 5 then { c with unwind := some (gnsHere c) } else c
            match gnsNextAddr e s.dev w (gnsLoop w c1) with
            | .error cause => { s with dev := gnsTrap e cause c (fix s.dev) }
            | .ok c' => gnsEffect e w g c c' { s with dev := fix s.dev }

/-- GNS_REPLY: the oldest request on a port is answered. -/
def gnsReplyOp (port : Nat) (v : DWord) (d : Dev) : Dev :=
  match d.gns.reqs.find? (fun r => r.1 == port) with
  | none => d
  | some r => { d with gns := { d.gns with reqs := d.gns.reqs.erase r, reply := tput d.gns.reply port v } }

/-! ## PATCH_LOAD (R423, R424) -/

/-- A routine of priority 0 or 1 runs, or is queued ahead of slot k. -/
def gnsBusyFor (d : Dev) (k : Nat) : Bool :=
  d.cmd.slots.any (fun kv =>
    let x := kv.2
    x.used && !x.finished && x.member.isNone && kv.1 != k && ((gnsPrio x.op).isSome || x.op == 0x10) &&
      ((x.running && (slotKind d kv.1 x).isSome) || (!x.running && decide (x.order < (d.slot k).order)) || hasCtx d kv.1))

/-- The image keeps the layout of R423, and is for this stepping and version. -/
def patchOk (l : List Byte) : Bool :=
  let k := beAt l 7 1
  let n := leAt l 8 2
  leAt l 0 4 == 0x53504E47 && beAt l 6 1 == 0xB1 && decide (k ≤ 64) && decide (1 ≤ n) && decide (n ≤ 2048) &&
    beAt l 10 6 == 0 && l.length == 16 + 16 * n + 4 * k + 96 && decide (Config.fusePatchMin.toNat % 65536 ≤ leAt l 4 2) &&
    (List.range k).all (fun i => bit (leAt l (16 + 16 * n + 4 * i) 4) 31) && Config.patchSignatureOk l

/-- PATCH_LOAD: `image` is what host memory holds at image_addr. -/
def patchLoadOp (e : Env) (k : Nat) (image : List Byte) (d : Dev) : Dev :=
  if !(gnsStart d k 0x60) || gnsBusyFor d k then d else
    let len := argWord d k 7
    if len < 128 || 33136 < len || !(patchOk (fitLen len image)) then cmdFinish e k stRejected [] d else
      let l := fitLen len image
      let n := leAt l 8 2
      let ver := leAt l 4 2
      let patch := (List.range n).foldl (fun t i => tset 0 t i (BitVec.ofNat 128 (leAt l (16 + 16 * i) 16))) d.gns.patch
      let m := (List.range (beAt l 7 1)).foldl (fun t i =>
        tset 0 t i (w32 (leAt l (16 + 16 * n + 4 * i) 4 &&& 0x87FFFFFF))) []
      cmdFinish e k stOk [ver] { d with gns := { d.gns with patch := patch, matchRegs := m, loaded := true, version := ver } }

/-! ## Meanings -/

/-- ROUTINE_START -/
def execRoutineStart (s : State) : Host.Outcome State Fault Refusal := .next { s with dev := routineStartOp s.dev }
/-- GNS_NO_OPERATION -/
def execGnsNoOperation (ecc : Ecc) (s : State) : Host.Outcome State Fault Refusal := .next (gnsStep 0 ecc s)
/-- GNS_ARITHMETIC -/
def execGnsArithmetic (ecc : Ecc) (s : State) : Host.Outcome State Fault Refusal := .next (gnsStep 1 ecc s)
/-- GNS_MOVE -/
def execGnsMove (ecc : Ecc) (s : State) : Host.Outcome State Fault Refusal := .next (gnsStep 2 ecc s)
/-- GNS_REQUEST -/
def execGnsRequest (ecc : Ecc) (s : State) : Host.Outcome State Fault Refusal := .next (gnsStep 3 ecc s)
/-- GNS_COMPLETE -/
def execGnsComplete (ecc : Ecc) (s : State) : Host.Outcome State Fault Refusal := .next (gnsStep 4 ecc s)
/-- GNS_UNWIND_MARK -/
def execGnsUnwindMark (ecc : Ecc) (s : State) : Host.Outcome State Fault Refusal := .next (gnsStep 5 ecc s)
/-- GNS_REPLY -/
def execGnsReply (port : Fin 7) (value : DWord) (s : State) : Host.Outcome State Fault Refusal :=
  .next { s with dev := gnsReplyOp port.val value s.dev }
/-- GNS_ABORT -/
def execGnsAbort (value : Word) (s : State) : Host.Outcome State Fault Refusal := .next (gnsAbortOp (value.toNat % 65536) s)
/-- PATCH_LOAD -/
def execPatchLoad (slot : Fin 4096) (image : List Byte) (s : State) : Host.Outcome State Fault Refusal :=
  .next { s with dev := patchLoadOp s.env slot.val image s.dev }

end Sys2Proof.Machine
end

