-- ==== Sys2Proof/Machine/Swap.lean ====
section
/-! DEFINITION. Shadow swaps (R262-R264): the port sets, the WRED profiles and the policer profiles. -/
namespace Sys2Proof.Machine

/-! ## The exchange of copies -/

/-- The entries of two tables whose keys are chosen change places. -/
def tswap {α : Type} (sel : Nat → Bool) (a b : Tbl α) : Tbl α × Tbl α :=
  let put := fun (t : Tbl α) (l : Tbl α) => l.foldl (fun t kv => tput t kv.1 kv.2) t
  (put (a.filter (fun kv => !(sel kv.1))) (b.filter (fun kv => sel kv.1)),
   put (b.filter (fun kv => !(sel kv.1))) (a.filter (fun kv => sel kv.1)))

/-- The register at a key is an SH register between two offsets. -/
def shBetween (lo hi key : Nat) : Bool :=
  decide (lo ≤ 4 * key) && decide (4 * key < hi) && (match regAt (4 * key) with
    | some (k, _) => k.shadow
    | none => false)

/-- Shadow and active copies of the SH registers between two offsets change places. -/
def swapRegs (lo hi : Nat) (e : Env) : Env :=
  let t := tswap (shBetween lo hi) e.regs.vals e.regs.active
  { e with regs := { e.regs with vals := t.1, active := t.2 } }

/-- Shaper i of port n at a swap instant: the bucket keeps its bytes, cut to the new burst; a shaper enabled or disabled
has its bucket at burst (R254). -/
def swapBucket (e e' : Env) (n : Nat) (d : Dev) (i : Nat) : Dev :=
  if !(shpOn e n i) && !(shpOn e' n i) then d else
    let full : Int := shpBurst e' n i * bktUnit
    let v := if shpOn e n i && shpOn e' n i then min full (bktNow e d n i) else full
    d.onPort n (fun p => { p with bkt := tput p.bkt i v, bktAt := tput p.bktAt i e.third })

/-! ## SHADOW_SWAP (R263, R264) -/

/-- A swap of the command in slot k is pending still. -/
def swapsLeft (d : Dev) (k : Nat) : Bool :=
  let names := fun (o : Option (Nat × Nat)) => match o with
    | some (_, s) => s == k
    | none => false
  names d.wredSwap || names d.policerSwap || d.ports.any (fun p => names p.2.swap)

/-- The ports a descriptor names: P0 at bit 0 of word 5. -/
def swapPorts (d : Dev) (k : Nat) : List Nat :=
  let m := argWord d k 5 + 2 ^ 32 * argWord d k 6 + 2 ^ 64 * argWord d k 7
  (List.range 96).filter (fun n => bit m n)

/-- The WRED profiles in a mask of sets; the policer profiles are the next bit. -/
def wredBit : Nat := 2 ^ 96

/-- The sets that the command of slot k names, as a mask: ports, then the WRED and the policer profiles. -/
def swapNamed (d : Dev) (k : Nat) : Nat :=
  (argWord d k 5 + 2 ^ 32 * argWord d k 6 + 2 ^ 64 * argWord d k 7) % 2 ^ 96 + bits (argWord d k 4) 3 2 * wredBit

/-- The command completes when every named swap has taken place. -/
def swapSettle (e : Env) (k : Nat) (d : Dev) : Dev :=
  if swapsLeft d k then d else
    let r := tget (0, false) d.swapRes k
    cmdFinish e k stOk [r.1 % 2 ^ 32, r.1 / 2 ^ 32 % 2 ^ 32, flagAt r.2 0] { d with swapRes := tdel d.swapRes k }

/-- The sets whose swap instant is settled and has not come, as a mask. -/
def swapStanding (d : Dev) : Nat :=
  d.ports.foldl (fun m kv => if kv.2.swap.isSome then m ||| 2 ^ kv.1 else m)
    (flagAt d.wredSwap.isSome 96 + flagAt d.policerSwap.isSome 97)

/-- The sets with a swap pending, those of commands accepted and not yet started among them (R262). A command that names a set
pending at its turn claims none: it will be rejected (R263). -/
def swapClaims (d : Dev) : Nat :=
  (waitingSlots d 0x30).foldl (fun m k => if m &&& swapNamed d k = 0 then m ||| swapNamed d k else m) (swapStanding d)

/-- A set of a mask has a swap pending. -/
def swapPending (d : Dev) (m : Nat) : Bool := swapClaims d &&& m != 0

/-- SHADOW_SWAP -/
def shadowSwapOp (e : Env) (k : Nat) (d : Dev) : Dev :=
  if !(gnsStart d k 0x30) then d else
    let w4 := argWord d k 4
    let ps := swapPorts d k
    if (swapStanding d &&& swapNamed d k) ≠ 0 then cmdFinish e k stRejected [] d
    else
      let early := (d.slot k).acceptAt + 1000 * max 2 (e.f 0xAC0000 7 0)
      let t := argTime d k 8
      let tl := if t = 0 then early else e.toLt (bits w4 1 0) t
      let at_ := max tl early
      let d := cmdRun k d
      let d := ps.foldl (fun d n => d.onPort n (fun p => { p with swap := some (at_, k) })) d
      swapSettle e k { d with
        wredSwap := if bit w4 2 then some (at_, k) else d.wredSwap
        policerSwap := if bit w4 3 then some (at_, k) else d.policerSwap
        swapRes := tput d.swapRes k (0, decide (tl < early)) }

/-! ## Swap instants (R264) -/

/-- Domain time gone since LT ns t, in 2^-16 ns of the active set's domain. -/
def sinceLt (e : Env) (n t : Nat) : Nat :=
  (e.ltStamp - t * 65536) * (2 ^ 48 + (e.dom (e.fa (egsReg n 0x800) 17 16)).adj : Int).toNat / 2 ^ 48

/-- The swap instant of port n, once it has come: T' itself while gating is off, else the first cycle boundary of the
active set at or after T'. -/
def portSwapAt (e : Env) (n t : Nat) : Option Nat :=
  if e.ltNs < t then none
  else if !(gating e n) then some t
  else if gatePos e n ≤ sinceLt e n t then some (e.ltNs - gatePos e n / 65536) else none

/-- A swap instant noted for its command. -/
def noteSwap (k at_ : Nat) (d : Dev) : Dev :=
  let r := tget (0, false) d.swapRes k
  { d with swapRes := tput d.swapRes k (max r.1 at_, r.2) }

/-- SWAP_INSTANT of a port. -/
def swapPortOp (n : Nat) (s : State) : State :=
  let e := s.env
  match (s.dev.port n).swap with
  | none => s
  | some (t, k) =>
    match portSwapAt e n t with
    | none => s
    | some at_ =>
      let e' := swapRegs (egsReg n 0) (egsReg n 0x2000) e
      let d := (List.range 17).foldl (swapBucket e e' n) s.dev
      let d := twinMark e 3 0 (d.onPort n (fun p => { p with swap := none, setB := !p.setB }))
      { s with env := e', dev := gateChangeOp e' n (swapSettle e k (noteSwap k at_ d)) }

/-- SWAP_INSTANT of the WRED profiles of all blocks. -/
def swapWredOp (s : State) : State :=
  match s.dev.wredSwap with
  | none => s
  | some (t, k) =>
    if s.env.ltNs < t then s else
      { s with
        env := swapRegs 0x900000 0x980000 s.env
        dev := swapSettle s.env k (noteSwap k t { s.dev with wredSwap := none }) }

/-- A key of the policer profiles' words in the BAR2 window. -/
def policerKey (k : Nat) : Bool := decide (0x1300000 ≤ k) && decide (k < 0x1308000)

/-- SWAP_INSTANT of the policer profiles. -/
def swapPolicerOp (e : Env) (d : Dev) : Dev :=
  match d.policerSwap with
  | none => d
  | some (t, k) =>
    if e.ltNs < t then d else
      let x := tswap policerKey d.slate.raw d.slate.rawActive
      swapSettle e k (noteSwap k t { d with
        policerSwap := none, slate := { d.slate with raw := x.1, rawActive := x.2 } })

/-! ## Meanings -/

/-- SHADOW_SWAP -/
def execShadowSwap (slot : Fin 4096) (s : State) : Host.Outcome State Fault Refusal :=
  .next { s with dev := shadowSwapOp s.env slot.val s.dev }
/-- SWAP_INSTANT -/
def execSwapInstant (target : SwapTarget) (s : State) : Host.Outcome State Fault Refusal :=
  .next (match target with
    | .port n => swapPortOp n.val s
    | .wred => swapWredOp s
    | .policer => { s with dev := swapPolicerOp s.env s.dev })

end Sys2Proof.Machine
end

