-- ==== Sys2Proof/Machine/HostRings.lean ====
section
/-! DEFINITION. The host port's rings (R386-R389, R442) and the function-level reset of PF1 (R383). Ring numbers:
transmit ring t is t, receive ring r is 64 + r. -/
namespace Sys2Proof.Machine

/-! ## Registers -/

/-- PF1 BAR0 offset of register r of a ring. -/
def hptReg (ring r : Nat) : Nat := (if ring < 64 then 0x40 * ring else 0x1000 + 0x40 * (ring - 64)) + r
/-- A register of a ring as the host wrote it. -/
def hptGet (h : Tbl Word) (ring r : Nat) : Nat := (tget 0 h (hptReg ring r / 4)).toNat
/-- The ring is in use. -/
def ringOn (h : Tbl Word) (ring : Nat) : Bool := bit (hptGet h ring 8) 31
/-- Entries of a ring. -/
def ringLen (h : Tbl Word) (ring : Nat) : Nat := 64 * 2 ^ min 9 (bits (hptGet h ring 8) 3 0)
/-- Address of a ring. -/
def ringBase (h : Tbl Word) (ring : Nat) : Nat := (hptGet h ring 0 + 2 ^ 32 * hptGet h ring 4) / 32 * 32
/-- Ring r's state. -/
def Dev.ring (d : Dev) (r : Nat) : RingSt := tget {} d.rings r
/-- Ring r's state replaced. -/
def Dev.setRing (d : Dev) (r : Nat) (x : RingSt) : Dev := { d with rings := tput d.rings r x }

/-- Entries the host owns: from HEAD to TAIL - 1; none while the ring is not in use. -/
def ringAvail (s : State) (r : Nat) : Nat :=
  let n := ringLen s.hpt r
  if ringOn s.hpt r then (hptGet s.hpt r 0xC % n + n - (s.dev.ring r).head % n) % n else 0

/-! ## HEAD and its message (R442) -/

/-- The message of a ring's vector: sent, or left to the end of the interval since the last. -/
def ringSignal (e : Env) (x : RingSt) : RingSt :=
  let soon := match x.vecAt with
    | some t => decide (e.third < t + us 2)
    | none => false
  if soon then { x with vecPend := true }
  else { x with vecAt := some e.third, vecPend := false, vecSent := x.vecSent + 1 }

/-- HEAD advances by k entries, is written back, and the ring's vector is signalled. -/
def ringAdvance (r k : Nat) (s : State) : State :=
  let x := s.dev.ring r
  let h := (x.head + k) % ringLen s.hpt r
  let wb := hptGet s.hpt r 0x14 + 2 ^ 32 * hptGet s.hpt r 0x18
  { s with
    host := if wb = 0 then s.host else mwrite s.host wb (natLE 4 h)
    dev := s.dev.setRing r (ringSignal s.env { x with head := h }) }

/-- RING_VECTOR_TIMER of PF1 vector v: the interval has ended with an advance uncovered. -/
def ringTimerOp (v : Nat) (s : State) : State :=
  let r := v / 2 + 64 * (v % 2)
  let x := s.dev.ring r
  let due := match x.vecAt with
    | some t => decide (t + us 2 ≤ s.env.third)
    | none => true
  if x.vecPend && due then
    { s with dev := s.dev.setRing r { x with vecAt := some s.env.third, vecPend := false, vecSent := x.vecSent + 1 } }
  else s

/-- HPT_ERR_CNT of a ring advances. -/
def ringErr (r : Nat) (d : Dev) : Dev :=
  let x := d.ring r
  d.setRing r { x with err := (x.err + 1) % 2 ^ 32 }

/-! ## Sends (R386, R387) -/

/-- The descriptors of one send: eop in the last only. -/
def oneSend : List TxDesc → Bool
  | [] => false
  | [x] => x.eop
  | x :: r => !x.eop && oneSend r

/-- Transmit ring t holds a whole send: a descriptor the device owns has eop (R386, R387). -/
def sendReady (s : State) (t : Nat) : Bool :=
  (List.range (ringAvail s t)).any (fun i =>
    bit (leNat (mread s.host (ringBase s.hpt t + 32 * (((s.dev.ring t).head + i) % ringLen s.hpt t) + 8) 4)) 31)

/-- It is ring t's turn among the four of its slice: none from the pointer to it holds a whole send (R387). -/
def sendTurn (s : State) (t : Nat) : Bool :=
  let b := t % 16
  (((List.range 4).map (fun i => ((s.dev.blk b).hostRr + i) % 4)).find? (fun j =>
    j == t / 16 || sendReady s (16 * j + b))) == some (t / 16)

/-- HOST_SEND_TAKE: the descriptors at HEAD of transmit ring t, up to one with eop, and the bytes of their buffers. The
flags of the first descriptor are those of the send. -/
def sendTakeOp (t : Nat) (ds : List TxDesc) (data : List Byte) (s : State) : State :=
  let e := s.env
  if !(e.b 0x1200004 0) || !(sendTurn s t) || !(oneSend ds) || decide (ringAvail s t < ds.length) ||
      data.length != ds.foldl (fun a x => a + x.len) 0 then s
  else
    let x := ds.headD { eop := true, echo := false, tso := false, len := 0, hdrLen := 0, mss := 0, cookie := 0 }
    let b := t % 16
    let d := s.dev
    let d :=
      if 16 < ds.length then ringErr t d
      else if x.tso then
        let d := tsoEnter e b data x.hdrLen x.mss x.echo x.cookie.toNat d
        if tsoOk data x.hdrLen x.mss then d else ringErr t d
      else if 9212 < data.length then ringErr t d
      else hostEnter e b data x.echo x.cookie.toNat d
    ringAdvance t ds.length { s with dev := d.onBlk b (fun y => { y with hostRr := (t / 16 + 1) % 4 }) }

/-! ## Delivery (R388, R389, R303, R304) -/

/-- The buffers that hold n bytes, or none when all of them do not. -/
def bufsFor : Nat → List RxBuf → Option (List RxBuf)
  | 0, _ => some []
  | _ + 1, [] => none
  | n + 1, b :: r => match bufsFor (n + 1 - max 1 b.size) r with
    | some l => some (b :: l)
    | none => none

/-- The words of the completion of one buffer of a frame. -/
def rxWords (x : HostRx) (len : Nat) (eop : Bool) : List Nat :=
  let ec := match x.echo with
    | some (st, _) => 2 ^ 29 + st * 2 ^ 27
    | none => 0
  let h := match x.echo with
    | some (_, c) => c
    | none => x.hash
  let t := x.ts / 65536
  [2 ^ 31 + flagAt eop 30 + ec + x.inPort * 2 ^ 20 + len, t % 2 ^ 32, t / 2 ^ 32 % 65536 * 65536 + x.ts % 65536, h,
   x.ver * 2 ^ 28 + x.queue * 2 ^ 24, 0, 0, 0]

/-- A frame's bytes and completions written: buffers left, their first index in the ring, bytes left. -/
def rxWrite (base n : Nat) (x : HostRx) : List RxBuf → Nat → List Byte → Memory → Memory
  | [], _, _, m => m
  | b :: r, i, l, m =>
    let part := l.take b.size
    let m := mwrite (mwrite m b.addr part) (base + 32 * (i % n)) ((rxWords x part.length r.isEmpty).flatMap (natLE 4))
    rxWrite base n x r (i + 1) (l.drop b.size) m

/-- A frame or echo given to its receive ring with the buffers found at HEAD; `lost` counts one that finds too few. As
long as the buffers named are fewer than the ring has and do not suffice, nothing happens. -/
def deliver (x : HostRx) (bufs : List RxBuf) (lost : Dev → Dev) (s : State) : Option State :=
  let r := 64 + x.ring
  let avail := ringAvail s r
  let bufs := bufs.take avail
  match bufsFor (max 1 x.bytes.length) bufs with
  | some used =>
    let n := ringLen s.hpt r
    let s := { s with host := rxWrite (ringBase s.hpt r) n x used (s.dev.ring r).head x.bytes s.host }
    some (ringAdvance r used.length s)
  | none => if bufs.length < avail then none else some { s with dev := lost s.dev }

/-- The frame at the head of a host slice as it is delivered: its bytes without the FCS. -/
def rxOfFrame (x : HostRx) (f : Frame) : HostRx := { x with bytes := f.bytes.take (f.bytes.length - 4) }

/-- An echo as it is delivered. -/
def rxOfEcho (e : Env) (x : Echo) : HostRx :=
  { ring := e.f 0xB00D00 5 0, bytes := x.bytes, len := x.bytes.length, inPort := x.port, ts := x.tOut, hash := 0, ver := 0,
    echo := some (x.status, x.cookie) }

/-- The frame has left the host slice. -/
def hostDone (b : Nat) (x : HostRx) (rest : List HostRx) (s : State) : State :=
  let d := s.dev.onBlk b (fun y => { y with hostQ := rest })
  { s with dev := frameSettle s.env x.frame (d.onFrame x.frame (fun f => { f with hostRing := none })) }

/-- HOST_RECEIVE_DELIVER: the oldest frame of block b's host slice, when it is whole, else its oldest echo. A frame
found bad is not delivered. -/
def deliverOp (b : Nat) (bufs : List RxBuf) (s : State) : State :=
  match (s.dev.blk b).hostQ with
  | x :: rest =>
    let f := s.dev.frame x.frame
    if !f.rxDone then s
    else if f.bad then hostDone b x rest s
    else match deliver (rxOfFrame x f) bufs (ringErr (64 + x.ring)) s with
      | some s => hostDone b x rest s
      | none => s
  | [] => match (s.dev.blk b).echoes with
    | [] => s
    | x :: rest =>
      match deliver (rxOfEcho s.env x) bufs (bumpBlk s.env b 85 1 none) s with
      | some s => { s with dev := s.dev.onBlk b (fun y => { y with echoes := rest }) }
      | none => s

/-! ## Function-level reset (R383) -/

/-- A host frame that has not passed the sieve goes, without an echo. -/
def dropHostFrame (e : Env) (d : Dev) (i : Nat) : Dev :=
  let f := d.frame i
  if f.fromHost && f.stage != .released then badFrame e i (d.onFrame i (fun f => { f with echoed := true })) else d

/-- Frames and echoes waiting for delivery go. -/
def dropHostQueue (e : Env) (d : Dev) (b : Nat) : Dev :=
  let x := d.blk b
  let d := d.setBlk b { x with hostQ := [], echoes := [] }
  x.hostQ.foldl (fun d r => frameSettle e r.frame (d.onFrame r.frame (fun f => { f with hostRing := none }))) d

/-- PF1_FLR: every ring stops, its registers return to reset, and what the host port holds goes. -/
def pf1Reset (s : State) : State :=
  let e := s.env
  let d := (s.dev.frames.map (·.1)).foldl (dropHostFrame e) s.dev
  let d := (s.dev.blks.map (·.1)).foldl (dropHostQueue e) d
  fltSettle { s with hpt := [], dev := { d with rings := [] } }

/-! ## Meanings -/

/-- HOST_SEND_TAKE -/
def execHostSendTake (ring : Fin 64) (descs : List TxDesc) (data : List Byte) (s : State) :
    Host.Outcome State Fault Refusal :=
  .next (sendTakeOp ring.val descs data s)
/-- HOST_RECEIVE_DELIVER -/
def execHostReceiveDeliver (blk : Fin 16) (bufs : List RxBuf) (s : State) : Host.Outcome State Fault Refusal :=
  .next (deliverOp blk.val bufs s)
/-- RING_VECTOR_TIMER -/
def execRingVectorTimer (vector : Fin 128) (s : State) : Host.Outcome State Fault Refusal :=
  .next (ringTimerOp vector.val s)
/-- PF1_FLR -/
def execPf1Flr (s : State) : Host.Outcome State Fault Refusal := .next (pf1Reset s)

end Sys2Proof.Machine
end

