-- ==== Sys2Proof/Machine/BarTwo.lean ====
section
/-! DEFINITION. The BAR2 window (R384, R385) and the table commands TBL_READ and TBL_WRITE (R200, R397). -/
namespace Sys2Proof.Machine

/-! ## Tables outside Slate -/

/-- The words of replication entry i as they stand. -/
def replBytes (d : Dev) (i : Nat) : List Byte := (List.range 4).flatMap (fun w => natLE 4 (replWord d i w))

/-- Words 0-2 of replication entry i staged (R216). -/
def replStageWord (i w v : Nat) (d : Dev) : Dev :=
  { d with slate := { d.slate with replStage := tput d.slate.replStage (4 * i + w) (w32 v) } }

/-- REPLICATION_WORD3_WRITE: word 3 with the staged words 0-2, in one cycle (R216). -/
def replCommit (i v : Nat) (d : Dev) : Dev :=
  let mine := d.slate.replStage.filter (fun kv => kv.1 / 4 == i)
  let t := mine.foldl (fun t kv => tset 0 t kv.1 kv.2) d.slate.repl
  { d with slate := { d.slate with
    repl := tset 0 t (4 * i + 3) (w32 (v / 2 ^ 31 * 2 ^ 31))
    replStage := d.slate.replStage.filter (fun kv => kv.1 / 4 != i) } }

/-- The bits of word w of an egress edit entry (R217). -/
def editMask (w : Nat) : Nat := [0xF800EFFF, 0xFFFFFFFF, 0xFFFFFFFF, 0].getD w 0

/-- Word w of egress edit entry i of block b written. -/
def editPut (b i w v : Nat) (d : Dev) : Dev :=
  d.onBlk b (fun x => { x with edits := tset 0 x.edits (4 * i + w) (w32 (v &&& editMask w)) })

/-- A word of the meter, policer or recovery tables written. -/
def rawPut (off v : Nat) (d : Dev) : Dev :=
  { d with slate := { d.slate with raw := tset 0 d.slate.raw (off / 4) (w32 v) } }

/-- A word of a policer profile's shadow copy; refused while a swap of them is pending (R264). -/
def policerPut (e : Env) (off v : Nat) (d : Dev) : Dev :=
  if swapPending d (2 * wredBit) then raiseEv e 132 0 d else rawPut off v d

/-- A sequence generation counter written. -/
def genPut (e : Env) (st v : Nat) (d : Dev) : Dev := twinMark e 4 (2 * st) (setGen st v d)

/-- VRF map entry i written (R190). -/
def vrfPut (i v : Nat) (d : Dev) : Dev :=
  { d with slate := { d.slate with vrf := tset 0 d.slate.vrf i (v &&& 0x80FF) } }

/-! ## Writes through the window -/

/-- A word written into Slate-X slot i: bytes 0-23 are staged, the control word makes them visible (R179). -/
def xWindow (e : Env) (i b v : Nat) (d : Dev) : Dev :=
  if b < 24 then xStageWord e i b v d else if b = 24 then xControl e i v d else d

/-- A word written into Slate-T position p (R144, R145). -/
def tWindow (e : Env) (p b v : Nat) (d : Dev) : Dev :=
  if b < 88 then tStageWord e p b v d else if b = 88 then tControl e p v d else d

/-- A word written into a Slate-D word (R194). -/
def dWindow (i b v : Nat) (d : Dev) : Dev := if b = 0 then dStage i v d else dHigh i v d

/-- The Slate host port that an offset of the window is reached through (R358, R384). -/
def bar2Port (o : Nat) : Option Nat :=
  if o < 0x2400000 then some 16 else if o < 0x3E22000 then some 17 else none

/-- Requester 33 asks for what a BAR2 access of `o` reaches: a Slate host port, or a Loft unit that serves (R359). -/
def hostAsk (e : Env) (o : Nat) (d : Dev) : Dev :=
  if 0x10000000 ≤ o then
    let u := (e.f 0x200900 7 0 * 2 ^ 28 + (o - 0x10000000)) / 256
    if unitServed d u then askPurlin 33 (.unit u) d else d
  else match bar2Port o with
    | some a => askPurlin 33 (.port a) d
    | none => d

/-- A word written into the Loft aperture (R385): not into the reserved regions, nor to a unit that is absent or
on an offline channel. -/
def loftWindow (off v : Nat) (s : State) : State :=
  let a := s.env.f 0x200900 7 0 * 2 ^ 28 + off
  let u := a / 256
  if u < s.dev.loft.reserved || !(unitServed s.dev u) then s else { s with loft := mwrite s.loft a (natLE 4 v) }

/-- A 32-bit write through BAR2 outside the Loft aperture. -/
def bar2Dev (e : Env) (o v : Nat) (d : Dev) : Dev :=
  if o < 0x2000000 then xWindow e (o / 32) (o % 32) v d
  else if o < 0x2400000 then tWindow e ((o - 0x2000000) / 128) (o % 128) v d
  else if o < 0x2800000 then dWindow ((o - 0x2400000) / 8) (o % 8) v d
  else if o < 0x3E00000 then bumpDev e 11 1 none d
  else if o < 0x3E20000 then bankPut e (o - 0x3E00000) v d
  else if o < 0x3E22000 then
    let i := (o - 0x3E20000) / 2
    vrfPut (i + 1) (v / 65536) (vrfPut i (v % 65536) d)
  else if 0x4100000 ≤ o ∧ o < 0x4210000 then
    let i := (o - 0x4100000) / 16
    let w := o / 4 % 4
    if w < 3 then replStageWord i w v d else replCommit i v d
  else if 0x4400000 ≤ o ∧ o < 0x4500000 then editPut ((o - 0x4400000) / 65536) (o / 16 % 4096) (o / 4 % 4) v d
  else if 0x4800000 ≤ o ∧ o < 0x4C00000 then rawPut o v d
  else if 0x4C00000 ≤ o ∧ o < 0x4C20000 then policerPut e o v d
  else if 0x4E00000 ≤ o ∧ o < 0x4E40000 then genPut e ((o - 0x4E00000) / 4) v d
  else if 0x5000000 ≤ o ∧ o < 0x5100000 then rawPut o v d
  else d

/-- BAR2_WRITE. A write that is not to a whole word is ignored. -/
def bar2Put (o v : Nat) (s : State) : State :=
  if o % 4 ≠ 0 then s
  else
    let s := { s with dev := hostAsk s.env o s.dev }
    if 0x10000000 ≤ o then loftWindow (o - 0x10000000) v s else { s with dev := bar2Dev s.env o v s.dev }

/-! ## TBL_READ and TBL_WRITE -/

/-- A recovery-table entry as read: what the host wrote, with the stream's counts (R120). -/
def recovBytes (d : Dev) (i : Nat) : List Byte :=
  let l := rawWords d.slate.raw (0x5000000 + 16 * i) 4
  let x := tget {} d.slate.recov i
  (List.range 4).flatMap (fun w => natLE 4 (Config.recovWord w l x.passed x.discarded x.rogue).toNat)

/-- Entries of a region by code, and the bytes of one. -/
def tblSize (r : Nat) : Nat :=
  [1048576, 32768, 524288, 1048576, 3145728, 786432, 32768, 69632, 4096, 262144, 65536, 65536, 4096].getD r 0
def tblBytes (r : Nat) : Nat := [32, 128, 8, 4, 4, 8, 4, 16, 16, 16, 4, 16, 2].getD r 0

/-- The bytes of entry i of a region. The parity word of a Slate-T position is the device's own. -/
def tblEntry (d : Dev) (r blk i : Nat) : List Byte :=
  match r with
  | 0 => xBytes (d.xSlot i)
  | 1 =>
    let l := tBytes d i 0 92
    l ++ natLE 4 (Config.parityWord (beNat l)).toNat ++ zeros 32
  | 2 => natLE 8 (tget 0 d.slate.d i)
  | 3 => natLE 4 (tget 0 d.slate.roots i)
  | 4 => natLE 4 (tget 0 d.slate.nodes i)
  | 5 => natLE 8 (tget 0 d.slate.results i)
  | 6 => natLE 4 (bankWord d 0 (4 * i))
  | 7 => replBytes d i
  | 8 => (List.range 4).flatMap (fun w => natLE 4 (tget 0 (d.blk blk).edits (4 * i + w)).toNat)
  | 9 => (rawWords d.slate.raw (0x4800000 + 16 * i) 4).flatMap (fun w => natLE 4 w.toNat)
  | 10 => natLE 4 (tget d.slate.genDef d.slate.gen i)
  | 11 => recovBytes d i
  | 12 => natLE 2 (tget 0 d.slate.vrf i)
  | _ => []

/-- The little-endian words of some bytes put one by one. -/
def putWords (f : Nat → Nat → Dev → Dev) (l : List Byte) (n : Nat) (d : Dev) : Dev :=
  (List.range n).foldl (fun d w => f w (wordAt l w) d) d

/-- Entry i of a region written whole; whether it was written. -/
def tblPut (e : Env) (r blk i : Nat) (l : List Byte) (d : Dev) : Bool × Dev :=
  match r with
  | 0 => if xLocked d i then (true, xWrite i l (wordAt l 6) d) else (false, bumpDev e 11 1 none d)
  | 1 =>
    if tLocked e d i then (false, rsRefuse e d) else
      let d := putWords (fun w v d => tStageWord e i (4 * w) v d) l 22 d
      if tWide e i && i % 2 == 1 then (true, d)
      else (tAccepts e d i (setBits (wordAt l 22) 29 16 0), tControl e i (wordAt l 22) d)
  | 2 => (true, dPut i (leAt l 0 8) d)
  | 6 => (rsFree d (4 * i / 8192), bankPut e (4 * i) (wordAt l 0) d)
  | 7 => (true, replCommit i (wordAt l 3) (putWords (fun w v d => replStageWord i w v d) l 3 d))
  | 8 => (true, putWords (fun w v d => editPut blk i w v d) l 3 d)
  | 9 => (true, putWords (fun w v d => rawPut (0x4800000 + 16 * i + 4 * w) v d) l 4 d)
  | 10 => (true, genPut e i (wordAt l 0) d)
  | 11 => (true, putWords (fun w v d => rawPut (0x5000000 + 16 * i + 4 * w) v d) l 4 d)
  | 12 => (true, vrfPut i (leAt l 0 2) d)
  | _ => (false, bumpDev e 11 1 none d)

/-- Entries of the region that the arguments name, in the order they are moved: the odd positions of wide Slate-T
entries first, so that each entry is committed whole. -/
def tblIndices (e : Env) (r first n : Nat) : List Nat :=
  let l := (List.range n).map (· + first)
  if r = 1 then l.filter (fun p => tWide e p && p % 2 == 1) ++ l.filter (fun p => !(tWide e p && p % 2 == 1)) else l

/-- Entries that lie in the region. -/
def tblCount (d : Dev) (k : Nat) : Nat := min (argWord d k 6) (tblSize (bits (argWord d k 4) 3 0) - argWord d k 5)

/-- TBL_READ -/
def tblReadOp (k : Nat) (s : State) : State :=
  let d := s.dev
  if !(canStart d k 0x24) then s else
    let r := bits (argWord d k 4) 3 0
    if 12 < r then { s with dev := cmdFinish s.env k stRejected [] d } else
      let n := tblCount d k
      let l := (List.range n).flatMap (fun i => tblEntry d r (bits (argWord d k 4) 11 8) (argWord d k 5 + i))
      { s with host := mwrite s.host (argAddr d k 7) l, dev := cmdFinish s.env k stOk [n] d }

/-- TBL_WRITE: `data` is what host memory holds at the address. An entry refused is left as it was. -/
def tblWriteOp (e : Env) (k : Nat) (data : List Byte) (d : Dev) : Dev :=
  if !(canStart d k 0x25) then d else
    let r := bits (argWord d k 4) 3 0
    if 12 < r then cmdFinish e k stRejected [] d else
      let first := argWord d k 5
      let size := tblBytes r
      let x := (tblIndices e r first (tblCount d k)).foldl (fun (a : Nat × Bool × Dev) i =>
        let p := tblPut e r (bits (argWord d k 4) 11 8) i (fitLen size (slice data (size * (i - first)) size)) a.2.2
        (if p.1 then a.1 + 1 else a.1, a.2.1 && p.1, p.2)) ((0, true, d) : Nat × Bool × Dev)
      let partly := !x.2.1 && (r == 0 || r == 3 || r == 4 || r == 5)
      cmdFinish e k (if partly then stPartial else stOk) [x.1] x.2.2

/-! ## Meanings -/

/-- BAR2_WRITE -/
def execBar2Write (offset : Fin 1073741824) (value : Word) (s : State) : Host.Outcome State Fault Refusal :=
  .next (bar2Put offset.val value.toNat s)
/-- SLATE_X_CONTROL_WRITE -/
def execSlateXControlWrite (slot : Fin 1048576) (value : Word) (s : State) : Host.Outcome State Fault Refusal :=
  .next { s with dev := xControl s.env slot.val value.toNat (askPurlin 33 (.port 16) s.dev) }
/-- SLATE_D_HIGH_WRITE -/
def execSlateDHighWrite (index : Fin 524288) (value : Word) (s : State) : Host.Outcome State Fault Refusal :=
  .next { s with dev := dHigh index.val value.toNat (askPurlin 33 (.port 17) s.dev) }
/-- REPLICATION_WORD3_WRITE -/
def execReplicationWord3Write (entry : Fin 69632) (value : Word) (s : State) : Host.Outcome State Fault Refusal :=
  .next { s with dev := replCommit entry.val value.toNat s.dev }
/-- TBL_READ -/
def execTblRead (slot : Fin 4096) (s : State) : Host.Outcome State Fault Refusal := .next (tblReadOp slot.val s)
/-- TBL_WRITE -/
def execTblWrite (slot : Fin 4096) (data : List Byte) (s : State) : Host.Outcome State Fault Refusal :=
  .next { s with dev := tblWriteOp s.env slot.val data s.dev }

end Sys2Proof.Machine
end

