-- ==== Sys2Proof/Machine/Reset.lean ====
section
/-! DEFINITION. Device reset and straps (R444, R447, R448, R465), reference clocks (R446), and datapath enable
(R451, R452). -/
namespace Sys2Proof.Machine

/-! ## Device reset -/

/-- Reset values that the straps give: CMD_GRP_CFG.devid and TWN_ROLE.role (R444). -/
def strapRegs (e : Env) : Env :=
  (e.setReg 0x200100 e.straps.devid.toNat).setReg 0x1100004 e.straps.twinRole.toNat

/-- Everything at its reset value (R447). What belongs to the host or the board stays: host memory, the commands
that wait, and the reference clocks, whose status bits follow their cause (R436). -/
def deviceReset (s : State) : State :=
  { State.reset with
    host := s.host
    pending := s.pending
    dev := { State.reset.dev with pwr := { State.reset.dev.pwr with clkOk := s.dev.pwr.clkOk } } }

/-- The straps are sampled and the voted fields take their reset values (R444, R449). -/
def sampleStraps (st : Straps) (s : State) : State :=
  { s with env := strapRegs { s.env with straps := st, perst := true } }

/-- PERST_RISE: PWR_GOOD is high and SYS_REFCLK and PCIE_REFCLK are stable by then (R449 phase 1). -/
def perstRiseOp (st : Straps) (s : State) : State :=
  if s.env.perst then s else
    let s := sampleStraps st (deviceReset s)
    { s with dev := { s.dev with pwr := { s.dev.pwr with clkOk := s.dev.pwr.clkOk ||| 0x30 } } }

/-- A write of 0x5E7E to PWR_RST.key (R447): the PCIe link and the configuration space, the MSI-X masks with it, are
kept. -/
def softwareResetOp (st : Straps) (s : State) : State :=
  let r := sampleStraps st (deviceReset s)
  { r with dev := { r.dev with
      evt := { r.dev.evt with unmasked := s.dev.evt.unmasked, fnMask := s.dev.evt.fnMask }
      pwr := { r.dev.pwr with pcieUp := s.dev.pwr.pcieUp } } }

/-- POWER_GOOD_FALL (R465). -/
def powerGoodFallOp (s : State) : State :=
  let r := deviceReset s
  { r with dev := { r.dev with pwr := { r.dev.pwr with railsGood := false } } }

/-! ## Reference clocks -/

/-- Bit of PWR_CLK_STAT of a reference clock. -/
def clkBit : RefClk → Nat
  | .sys => 5
  | .pcie => 4
  | .sd k => k.val

/-- The PCIe link goes down (R383, R446). -/
def pcieDown (s : State) : State :=
  let s := pf1Reset s
  { s with dev := deviceFault s.env 4 { s.dev with pwr := { s.dev.pwr with pcieUp := false } } }

/-- Every port of blocks 4k to 4k + 3 loses lock and reports local_fault (R266, R446). -/
def laneClockLost (e : Env) (k : Nat) (d : Dev) : Dev :=
  ((List.range 4).flatMap (fun j => (List.range 6).map (fun lp => portAt (4 * k + j) lp))).foldl
    (fun d n => (linkDownOp e n false d).onPort n (fun p => { p with localFault := true, signal := false })) d

/-- REFCLK_LOSS (R446). -/
def refclkLossOp (c : RefClk) (s : State) : State :=
  let d := s.dev
  if !(bit d.pwr.clkOk (clkBit c)) then s else
    let d := raiseEv s.env 140 1 { d with pwr := { d.pwr with clkOk := d.pwr.clkOk ^^^ 2 ^ clkBit c } }
    match c with
    | .sys => { s with dev := d }
    | .pcie => pcieDown { s with dev := d }
    | .sd k => { s with dev := synceUpdate s.env (laneClockLost s.env k.val d) }

/-- REFCLK_RETURN (R446). -/
def refclkReturnOp (c : RefClk) (d : Dev) : Dev :=
  { d with pwr := { d.pwr with clkOk := d.pwr.clkOk ||| 2 ^ clkBit c } }

/-! ## Datapath enable -/

/-- A decision of every port that has done anything. -/
def decideAll (e : Env) (d : Dev) : Dev := d.ports.foldl (fun d kv => decide_ e kv.1 d) d

/-- PWR_CTL.dp_enable lands as 1: ports receive into tiles and transmit, and phase reads 7 (R451). A failed start-up
keeps its phase (R450). -/
def dpEnableOp (s : State) : State :=
  if s.env.b 0x1200004 0 then s else
    let e := s.env.setReg 0x1200004 1
    let d := s.dev
    let d := { d with pwr := { d.pwr with phase := if d.pwr.phase = 5 then 7 else d.pwr.phase, dpAt := e.third } }
    { s with env := e, dev := decideAll e d }

/-! ## Meanings -/

/-- PERST_RISE -/
def execPerstRise (straps : Straps) (s : State) : Host.Outcome State Fault Refusal := .next (perstRiseOp straps s)
/-- PERST_FALL -/
def execPerstFall (s : State) : Host.Outcome State Fault Refusal := .next (deviceReset s)
/-- POWER_GOOD_FALL -/
def execPowerGoodFall (s : State) : Host.Outcome State Fault Refusal := .next (powerGoodFallOp s)
/-- SOFTWARE_RESET -/
def execSoftwareReset (straps : Straps) (s : State) : Host.Outcome State Fault Refusal :=
  .next (softwareResetOp straps s)
/-- REFCLK_LOSS -/
def execRefclkLoss (clk : RefClk) (s : State) : Host.Outcome State Fault Refusal := .next (refclkLossOp clk s)
/-- REFCLK_RETURN -/
def execRefclkReturn (clk : RefClk) (s : State) : Host.Outcome State Fault Refusal :=
  .next { s with dev := refclkReturnOp clk s.dev }
/-- PCIE_LINK_RETRAINED: held completions can be posted (R396, R446). -/
def execPcieLinkRetrained (s : State) : Host.Outcome State Fault Refusal :=
  .next { s with dev := { s.dev with pwr := { s.dev.pwr with pcieUp := true } } }

end Sys2Proof.Machine
end

