-- ==== Sys2Proof/Machine/Regs.lean ====
section
/-! DEFINITION. Register writes (R6, R7, R426-R435) and event registers (R437-R441): what a write does when it lands,
posting, staging and dropping, and the rows of single registers. -/
namespace Sys2Proof.Machine

/-! ## Events and MSI-X -/

/-- The event whose _CNT or _ACK register stands at an offset: group, bit, and whether it is the _ACK. -/
def eventAt (off : Nat) : Option (Nat × Nat × Bool) :=
  eventKinds.findSome? (fun k =>
    if k.stride = 0 then
      let o := off - 0x400000
      let lp := o % 0x20000 / 0x1000
      let r := o % 0x1000
      let c := k.cnt % 0x1000
      if 0x400000 ≤ off ∧ o < 0x200000 ∧ lp < 6 ∧ (r = c ∨ r = c + 4) then
        some (k.group + portAt (o / 0x20000) lp, k.bit, r == c + 4)
      else none
    else if off < k.cnt then none
    else
      let st := if k.groups = 1 then 8 else k.stride
      let g := (off - k.cnt) / st
      let r := (off - k.cnt) % st
      if g < k.groups ∧ (r = 0 ∨ r = 4) then some (k.group + g, k.bit, r == 4) else none)

/-- The events a group has, as a mask (R439). -/
def groupBits (g : Nat) : Nat :=
  eventKinds.foldl (fun a k => if k.group ≤ g ∧ g < k.group + k.groups then a ||| 2 ^ k.bit else a) 0

/-- An _ACK register written (R437, R438). -/
def ackPut (e : Env) (g i : Nat) (v : Word) (d : Dev) : Dev :=
  let d1 := { d with evt := { d.evt with ack := tset 0 d.evt.ack (8 * g + i) v } }
  vecEdge e d e [bits (grpCfg e g) 10 0] d1

/-- EVT_GRP_CFG written: enables and vector change at once (R439, R440). -/
def grpCfgPut (g v : Nat) (s : State) : State :=
  let e := s.env.setReg (0x100000 + 4 * g) ((bits v 31 24 &&& groupBits g) * 2 ^ 24 + bits v 10 0)
  { s with env := e, dev := vecEdge s.env s.dev e [bits (grpCfg s.env g) 10 0, bits v 10 0].eraseDups s.dev }

/-- EVT_REARM of vector v written 1 (R440). -/
def rearmOp (e : Env) (v : Nat) (d : Dev) : Dev := if vecPending e d v then sendMsix v d else d

/-- The mask of a PF0 vector is removed (R441). -/
def unmaskOp (v : Nat) (d : Dev) : Dev :=
  let d := { d with evt := { d.evt with unmasked := tset false d.evt.unmasked v true } }
  if tget false d.evt.pba v && !d.evt.fnMask then
    sendMsix v { d with evt := { d.evt with pba := tset false d.evt.pba v false } }
  else d

/-! ## Refused, dropped and bad writes -/

/-- A bad access (R427). -/
def badAccess (e : Env) (write size : Bool) (off : Nat) (d : Dev) : Dev :=
  raiseEv e 139 2 { d with mgmt := { d.mgmt with
    badLog := w32 (flagAt write 31 + flagAt size 30 + off / 4 % 2 ^ 24) } }

/-- A write dropped under R434. -/
def pwDropped (e : Env) (off : Nat) (d : Dev) : Dev :=
  raiseEv e 139 1 { d with mgmt := { d.mgmt with dropLog := w32 (off / 4 % 2 ^ 24) } }

/-- A write of a shadow copy that a pending swap names, from the command's acceptance on, is refused (R262). -/
def shRefused (k : RegName) (p : List Nat) (d : Dev) : Bool :=
  match k with
  | .THA_WRED_TH | .THA_WRED_P => swapPending d wredBit
  | _ => swapPending d (2 ^ (p.headD 0))

/-! ## Landing -/

/-- Network port of a place (block, local port). -/
def placePort (p : List Nat) : Nat := portAt (p.headD 0) (p.getD 1 0)

/-- What a write that has changed a register's stored value does in its unit. `old` is the value before. -/
def landEffect (k : RegName) (p : List Nat) (off old v : Nat) (e0 : Env) (s : State) : State :=
  let e := s.env
  let d := s.dev
  let i := p.headD 0
  let n := placePort p
  let dev := fun (x : Dev) => { s with dev := x }
  match k with
  | .CMD_CPL_CFG => dev (stallUpdate e d)
  | .PB_MODE => dev (modeSettle e i d)
  | .PB_PORT_CFG => fltSettle (dev (portCfgLanded e n d))
  | .PB_FC | .PB_PFC_MAP0 | .PB_PFC_MAP1 | .PB_PFC_WD => dev (decide_ e n (dogsUpdate e n (dogsUpdate e0 n d)))
  | .PB_PRE => dev (decide_ e n (if bits old 1 0 = bits (e.reg off) 1 0 ∧ (d.port n).preState ≠ 3 then d else preStart e n d))
  | .PB_CT => dev (decide_ e n d)
  | .PB_AN => dev (if bit v 2 then anRestartOp e n d else d)
  | .SLT_LOCK => dev (lockLanded e i d)
  | .RDG_CTL =>
    let d := { d with frozen := bit v 0 }
    dev (if bit v 1 then hwmClearOp d else d)
  | .THA_CFG | .THA_POOL_CFG | .THA_POOL_LIM => dev (stopsLanded e0 e i (ovcUpdate e i d))
  | .RDG_CFG => dev ((List.range 16).foldl (fun a j => stopsLanded e0 e j a) d)
  | .QTZ_TOUT_CFG | .QTZ_TOUT_START_SH | .QTZ_TOUT_START_SL | .QTZ_TOUT_START_NS | .QTZ_TOUT_PERIOD =>
    dev (toutLanded e0 e i d)
  | .QTZ_SYNCE_CFG => dev (synceUpdate e d)
  | .MCA_SCN_CFG => dev (powerRequest e (16 + i) (bit v 0) d)
  | .TWN_CFG => dev (twinCfgLanded old e d)
  | .PWR_FLT_EN => clusterPowerLanded v s
  | _ => s

/-- A register's value stored under its write mask, and its effect. -/
def landStored (k : RegKind) (p : List Nat) (off v : Nat) (s : State) : State :=
  let old := s.env.reg off
  let new := (old &&& (0xFFFFFFFF ^^^ wmaskAt k p)) ||| (v &&& wmaskAt k p)
  landEffect k.name p off old v s.env { s with env := s.env.setReg off new }

/-- A write of `v` lands at a register, with the staged low word it carries if its register commits one. -/
def landReg (k : RegKind) (p : List Nat) (off v : Nat) (low : Option Word) (s : State) : State :=
  let e := s.env
  let d := s.dev
  let i := p.headD 0
  let dev := fun (x : Dev) => { s with dev := x }
  let lowOr := fun (x : Nat) => match low with
    | some w => w.toNat
    | none => x
  if k.shadow && shRefused k.name p d then dev (raiseEv e 132 0 d)
  else match k.name with
  | .EVT_GRP_CFG => grpCfgPut i v s
  | .EVT_REARM => if bit v 0 then dev (rearmOp e i d) else s
  | .CMD_CTL => if bit v 0 then dev (deviceFault e 4 d) else s
  | .CMD_CPL_HEAD => cplHeadPut v s
  | .CMD_KEY => dev (keyPut i (p.getD 1 0) (w32 v) d)
  | .PB_CT_CLR => if bit v 0 then dev (ctReleaseOp e (placePort p) d) else s
  | .PB_MAXLEN => landStored k p off (clamp 1518 9216 (bits v 13 0)) s
  | .PB_MDIO_CMD =>
    let s' := landStored k p off v s
    if bit v 31 then { s' with dev := mdioGoOp e i (w32 v) d } else s'
  | .SLT_T_BANK => tBankWrite i v s
  | .EGS_OBS_CTL => if bit v 0 then dev (obsResetOp i d) else s
  | .QTZ_LT_CAP => if bit v 0 then dev (ltCaptureOp e d) else s
  | .QTZ_D_ADJ_HI =>
    let lo := lowOr (e.reg (off - 4))
    let s := domRatio i (v % 256 * 2 ^ 32 + lo) s
    { s with env := (s.env.setReg (off - 4) lo).setReg off (v % 256) }
  | .QTZ_D_CMD => domCmd i (v % 4) s
  | .QTZ_TIN_POP => if bit v 0 then dev (tinPopOp i d) else s
  | .GUT_RD => dev (gutRdOp e v d)
  | .PMU_CTL => { s with env := e.setReg off (v &&& 0x40000000), dev := { d with pmu := { d.pmu with freeze := bit v 31 } } }
  | .PMU_SEL => { s with env := e.setReg off (if bits v 31 29 = 5 then v else v &&& 0xFFFFFF00) }
  | .PMU_CTR_HI => dev (pmuCtrPut e i (lowOr (tget 0 d.pmu.ctr i % 2 ^ 32)) v d)
  | .PMU_RELOAD_HI => { s with env := (e.setReg (off - 4) (lowOr (e.reg (off - 4)))).setReg off (v % 65536) }
  | .PMU_BW_CTL => if bit v 0 then dev (bwClear e d) else s
  | .GNS_ABORT => gnsAbortOp (v % 65536) s
  | .TWN_ROLE => if e.b 0x1100000 31 then dev (pwDropped e off d) else landStored k p off v s
  | .TWN_CTL => if bit v 0 then unfenceOp s else s
  | .PWR_CTL =>
    let s' := if bit v 0 then dpEnableOp s else s
    if bit v 1 then { s' with dev := { s'.dev with pwr := { s'.dev.pwr with deferMax := 0 } } } else s'
  | .PWR_RST => if bits v 15 0 = 0x5E7E then softwareResetOp e.straps s else s
  | _ => landStored k p off v s

/-! ## Acceptance (R426-R435) -/

/-- The posting scope of a register at its place, as a bit number of GLB_BUSY1:GLB_BUSY0 (R433). -/
def scopeOf (k : RegKind) (p : List Nat) : Option Nat :=
  match k.scope with
  | .none => none
  | .perBlock b => some (b + p.headD 0)
  | .fixed n => some n

/-- The busy flag of a scope. -/
def busy (e : Env) (sc : Nat) : Bool := e.regs.posted.any (fun x => x.scope == sc)

/-- Registers staged until the next higher word is written (R435). -/
def isStaged (k : RegName) : Bool :=
  match k with
  | .QTZ_D_ADJ_LO | .PMU_CTR_LO | .PMU_RELOAD_LO => true
  | _ => false

/-- The staged word that a write of this register commits. -/
def stagedLow (e : Env) (k : RegName) (off : Nat) : Option Word :=
  match k with
  | .QTZ_D_ADJ_HI | .PMU_CTR_HI | .PMU_RELOAD_HI => tfind e.regs.staged ((off - 4) / 4)
  | _ => none

/-- The environment with the posted writes changed. -/
def Env.setPosted (e : Env) (l : List Posted) : Env := { e with regs := { e.regs with posted := l } }
/-- The environment with a word staged, or its staging ended. -/
def Env.stage (e : Env) (off : Nat) (w : Word) : Env := { e with regs := { e.regs with staged := tput e.regs.staged (off / 4) w } }
/-- The environment with the staging of a register ended. -/
def Env.unstage (e : Env) (off : Nat) : Env := { e with regs := { e.regs with staged := tdel e.regs.staged (off / 4) } }

/-- The register bus takes a write that would be posted: the staged word it commits goes with it. -/
def postWrite (k : RegKind) (p : List Nat) (off v : Nat) (s : State) : State :=
  let low := stagedLow s.env k.name off
  let s' := if low.isSome then { s with env := s.env.unstage (off - 4) } else s
  match scopeOf k p with
  | none => landReg k p off v low s'
  | some sc =>
    if busy s.env sc then { s with dev := pwDropped s.env off s.dev }
    else { s' with env := s'.env.setPosted (s'.env.regs.posted ++ [{ scope := sc, offset := off, value := w32 v, low := low }]) }

/-- The statistics counter whose words stand at an offset, as its key, and whether it is a held copy (R330). -/
def statAt (off : Nat) : Option (Nat × Bool) :=
  let held := decide (0xC90000 ≤ off)
  let o := if held then off - 0x80000 else off
  let a := o - 0xC10000
  let ok := decide (0xC10000 ≤ o) &&
    if a < 0x30000 then decide (a % 0x800 / 8 < 66)
    else if a < 0x48000 then true
    else if a < 0x50000 then false
    else if a < 0x58000 then decide (a % 0x800 / 8 < 86)
    else if a < 0x60000 then false
    else decide (a - 0x60000 < 0x80)
  if ok then some (o / 8, held) else none

/-- A 4-byte write to BAR0 of PF0 accepted. -/
def write4 (off v : Nat) (s : State) : State :=
  match regAt off with
  | some (k, p) =>
    if k.wmask = 0 ∧ k.wtmask = 0 then s
    else if isStaged k.name then { s with env := s.env.stage off (w32 v) }
    else postWrite k p off v s
  | none =>
    match eventAt off with
    | some (g, i, true) => { s with dev := ackPut s.env g i (w32 v) s.dev }
    | some (_, _, false) => s
    | none =>
      if (statAt off).isSome || (decide (0xD00000 ≤ off) && decide (off < 0xD01000)) then s
      else { s with dev := badAccess s.env true false off s.dev }

/-- Writable bits of a PF1 ring register by its word; none where there is no register. -/
def hptMask (w : Nat) : Option Nat :=
  match w with
  | 0 | 1 | 5 | 6 => some 0xFFFFFFFF
  | 2 => some 0x8000000F
  | 3 => some 0x7FFF
  | 4 | 8 => some 0
  | _ => none

/-- A 4-byte write to BAR0 of PF1: transmit ring t at 0x40 t, receive ring r at 0x1000 + 0x40 r. -/
def hptWrite (off v : Nat) (s : State) : State :=
  if 0x2000 ≤ off then s else
    match hptMask (off % 0x40 / 4) with
    | none => s
    | some m =>
      if m = 0 then s else fltSettle { s with hpt := tset 0 s.hpt (off / 4) (w32 (v &&& m)) }

/-- An access of a width starts where R427 lets it. -/
def aligned (off width : Nat) : Bool :=
  if width = 8 then off % 8 == 0 else if width = 4 then off % 4 == 0
  else if width = 1 ∨ width = 2 then decide (off % 4 + width ≤ 4) else false

/-- A host write to BAR0 of PF0 or PF1 (R426, R427). -/
def writeOp (pf1 : Bool) (off width : Nat) (v : Nat) (s : State) : State :=
  let w := if pf1 then hptWrite else write4
  if (width = 4 ∨ width = 8) ∧ aligned off width then
    let s := w off (v % 2 ^ 32) s
    if width = 8 then w (off + 4) (v / 2 ^ 32) s else s
  else if pf1 then s
  else { s with dev := badAccess s.env true true off s.dev }

/-- The oldest posted write of a scope taken out of a list. -/
def takePosted (sc : Nat) : List Posted → Option (Posted × List Posted)
  | [] => none
  | x :: r => if x.scope = sc then some (x, r) else (takePosted sc r).map (fun y => (y.1, x :: y.2))

/-- A posted write lands: its scope's flag clears (R432). -/
def landPosted (sc : Nat) (s : State) : State :=
  match takePosted sc s.env.regs.posted with
  | none => s
  | some (x, rest) =>
    let s := { s with env := s.env.setPosted rest }
    match regAt x.offset with
    | some (k, p) => landReg k p x.offset x.value.toNat x.low s
    | none => s

/-- A write whose effect has a row of its own: the same write waiting in its scope lands; behind another it is
dropped (R434); otherwise it is accepted and lands. -/
def landNow (off v : Nat) (s : State) : State :=
  match regAt off with
  | none => s
  | some (k, p) =>
    match (scopeOf k p).bind (fun sc => takePosted sc s.env.regs.posted) with
    | some (x, _) =>
      if x.offset = off ∧ x.value.toNat = v then landPosted x.scope s
      else { s with dev := pwDropped s.env off s.dev }
    | none =>
      let low := stagedLow s.env k.name off
      landReg k p off v low (if low.isSome then { s with env := s.env.unstage (off - 4) } else s)

/-! ## Meanings -/

/-- PORT_ENABLE: PB_PORT_CFG of a port lands with enable = 1. -/
def execPortEnable (port : Fin 96) (cfg : Word) (s : State) : Host.Outcome State Fault Refusal :=
  .next (landNow (pbReg port.val 0) (setBits cfg.toNat 0 0 1) s)
/-- PORT_DISABLE: PB_PORT_CFG of a port lands with enable = 0. -/
def execPortDisable (port : Fin 96) (cfg : Word) (s : State) : Host.Outcome State Fault Refusal :=
  .next (landNow (pbReg port.val 0) (setBits cfg.toNat 0 0 0) s)
/-- AN_RESTART: PB_AN with restart = 1 and its settings as they are. -/
def execAnRestart (port : Fin 96) (s : State) : Host.Outcome State Fault Refusal :=
  .next (landNow (pbReg port.val 0x50) (s.env.f (pbReg port.val 0x50) 1 0 + 4) s)
/-- CT_RELEASE -/
def execCtRelease (port : Fin 96) (s : State) : Host.Outcome State Fault Refusal :=
  .next (landNow (pbReg port.val 0x28) 1 s)
/-- MDIO_GO: PB_MDIO_CMD written with go = 1. -/
def execMdioGo (bus : Fin 2) (cmd : Word) (s : State) : Host.Outcome State Fault Refusal :=
  .next (landNow (pbBlk bus.val 0x9000) (setBits cmd.toNat 31 31 1) s)
/-- SCANNER_ENABLE -/
def execScannerEnable (scanner : Fin 16) (value : Word) (s : State) : Host.Outcome State Fault Refusal :=
  .next (landNow (0xF00200 + 4 * scanner.val) value.toNat s)
/-- SLT_T_BANK_WRITE -/
def execSltTBankWrite (bank : Fin 8) (value : Word) (s : State) : Host.Outcome State Fault Refusal :=
  .next (landNow (0x70C100 + 4 * bank.val) value.toNat s)
/-- LOCK_TAKE: the bit is written 1, the others as they are. -/
def execLockTake (way : Fin 2) (region : Fin 32) (s : State) : Host.Outcome State Fault Refusal :=
  .next (landNow (0x700300 + 4 * way.val) (setBits (s.env.reg (0x700300 + 4 * way.val)) region.val region.val 1) s)
/-- LOCK_RELEASE: the bit is written 0, the others as they are. -/
def execLockRelease (way : Fin 2) (region : Fin 32) (s : State) : Host.Outcome State Fault Refusal :=
  .next (landNow (0x700300 + 4 * way.val) (setBits (s.env.reg (0x700300 + 4 * way.val)) region.val region.val 0) s)
/-- FREEZE -/
def execFreeze (s : State) : Host.Outcome State Fault Refusal := .next (landNow 0x800000 1 s)
/-- UNFREEZE -/
def execUnfreeze (s : State) : Host.Outcome State Fault Refusal := .next (landNow 0x800000 0 s)
/-- HWM_CLEAR: freeze is written as it is. -/
def execHwmClear (s : State) : Host.Outcome State Fault Refusal :=
  .next (landNow 0x800000 (s.env.f 0x800000 0 0 + 2) s)
/-- OBS_RESET -/
def execObsReset (port : Fin 96) (s : State) : Host.Outcome State Fault Refusal :=
  .next (landNow (egsReg port.val 0x844) 1 s)
/-- LT_CAPTURE -/
def execLtCapture (s : State) : Host.Outcome State Fault Refusal := .next (landNow 0xB00010 1 s)
/-- DOMAIN_RATIO_WRITE: QTZ_D_ADJ_HI, with the low word staged before it. -/
def execDomainRatioWrite (dom : Fin 4) (adjHi : Word) (s : State) : Host.Outcome State Fault Refusal :=
  .next (landNow (0xB00104 + 0x40 * dom.val) adjHi.toNat s)
/-- DOMAIN_CANCEL -/
def execDomainCancel (dom : Fin 4) (s : State) : Host.Outcome State Fault Refusal :=
  .next (landNow (0xB00120 + 0x40 * dom.val) 0 s)
/-- DOMAIN_SET -/
def execDomainSet (dom : Fin 4) (s : State) : Host.Outcome State Fault Refusal :=
  .next (landNow (0xB00120 + 0x40 * dom.val) 1 s)
/-- DOMAIN_STEP -/
def execDomainStep (dom : Fin 4) (s : State) : Host.Outcome State Fault Refusal :=
  .next (landNow (0xB00120 + 0x40 * dom.val) 2 s)
/-- DOMAIN_SLEW -/
def execDomainSlew (dom : Fin 4) (s : State) : Host.Outcome State Fault Refusal :=
  .next (landNow (0xB00120 + 0x40 * dom.val) 3 s)
/-- TIN_POP -/
def execTinPop (n : Fin 4) (s : State) : Host.Outcome State Fault Refusal :=
  .next (landNow (0xB00A14 + 0x20 * n.val) 1 s)
/-- PMU_COUNTER_WRITE: PMU_CTR_HI, with the low word staged before it. -/
def execPmuCounterWrite (i : Fin 64) (value : Word) (s : State) : Host.Outcome State Fault Refusal :=
  .next (landNow (0xD0110C + 0x10 * i.val) value.toNat s)
/-- BW_PEAK_CLEAR -/
def execBwPeakClear (s : State) : Host.Outcome State Fault Refusal := .next (landNow 0xD02004 1 s)
/-- CLUSTER_POWER_WRITE -/
def execClusterPowerWrite (value : Word) (s : State) : Host.Outcome State Fault Refusal :=
  .next (landNow 0x1200014 value.toNat s)
/-- DEFER_MAX_CLEAR: dp_enable is written 0, which changes nothing. -/
def execDeferMaxClear (s : State) : Host.Outcome State Fault Refusal := .next (landNow 0x1200004 2 s)
/-- DATAPATH_ENABLE -/
def execDatapathEnable (s : State) : Host.Outcome State Fault Refusal := .next (landNow 0x1200004 1 s)
/-- EVENT_ACK_WRITE: the _ACK register of an event; a group has only the events of R439. -/
def execEventAckWrite (group : Fin 141) (i : Fin 8) (value : Word) (s : State) : Host.Outcome State Fault Refusal :=
  .next (if bit (groupBits group.val) i.val then { s with dev := ackPut s.env group.val i.val value s.dev } else s)
/-- EVENT_ENABLE_WRITE -/
def execEventEnableWrite (group : Fin 256) (value : Word) (s : State) : Host.Outcome State Fault Refusal :=
  .next (grpCfgPut group.val value.toNat s)
/-- EVT_REARM -/
def execEvtRearm (vector : Fin 2048) (s : State) : Host.Outcome State Fault Refusal :=
  .next { s with dev := rearmOp s.env vector.val s.dev }
/-- MSIX_UNMASK -/
def execMsixUnmask (vector : Fin 2048) (s : State) : Host.Outcome State Fault Refusal :=
  .next { s with dev := unmaskOp vector.val s.dev }
/-- REGISTER_WRITE -/
def execRegisterWrite (pf1 : Bool) (offset width : Nat) (value : DWord) (s : State) :
    Host.Outcome State Fault Refusal := .next (writeOp pf1 offset width value.toNat s)
/-- POSTED_WRITE_LAND -/
def execPostedWriteLand (scope : Fin 59) (s : State) : Host.Outcome State Fault Refusal :=
  .next (landPosted scope.val s)

end Sys2Proof.Machine
end

