-- ==== Sys2Proof/Machine/RegRead.lean ====
section
/-! DEFINITION. Register reads (R6, R427, R436): what each read-only register shows of the state, and the voted fields
with their scrubber (R429-R431). -/
namespace Sys2Proof.Machine

/-! ## Values shown by the units -/

/-- Words lo and hi of a 64-bit value. -/
def half (v w : Nat) : Nat := v / 2 ^ (32 * w) % 2 ^ 32

/-- A flag for each index below n at which f holds. -/
def maskOf (n : Nat) (f : Nat → Bool) : Nat := (List.range n).foldl (fun a i => a + flagAt (f i) i) 0

/-- Groups with a pending event. -/
def evtSum (e : Env) (d : Dev) (w : Nat) : Nat := maskOf 32 (fun k => decide (32 * w + k < 256) && grpPending e d (32 * w + k))

/-- PB_PORT_STAT of port n (R64). -/
def portStat (d : Dev) (n : Nat) : Nat :=
  let p := d.port n
  (if p.link then speedCode (portRate d n) else 0) * 2 ^ 12 + p.an * 2 ^ 8 + p.lt * 2 ^ 4 +
    flagAt p.remoteFault 2 + flagAt p.localFault 1 + flagAt p.link 0

/-- SLT_RS_STAT (R131, R136, R137); while a rebuild runs no version is active. -/
def rsStat (e : Env) (d : Dev) : Nat :=
  let r := d.rs
  flagAt (rsValid d) 31 + flagAt r.retiring.isSome 30 +
    flagAt (r.commits.any (fun c => decide (2 ≤ c.step) && decide (c.step ≤ 8))) 29 +
    r.active.getD 0 * 2 ^ 24 + r.retiring.getD 0 * 2 ^ 20 + min (2 ^ 20 - 1) (retireCount e d)

/-- RDG_MID_STAT of middle j. -/
def midStat (d : Dev) (j : Nat) : Nat :=
  let x := d.blk j
  flagAt x.stopBr 31 + flagAt x.stopOth 30 + min 31 x.hwm * 2 ^ 25 +
    min (2 ^ 17 - 1) (x.voq.foldl (fun a kv => a + kv.2.length) 0)

/-- Descriptors that output block o holds out of order (R213). -/
def rsqHeld (d : Dev) (o : Nat) : Nat :=
  (d.asms.filter (fun kv => kv.2.out == o && kv.2.desc.isSome && kv.2.orderedAt.isNone && !kv.2.dead)).length

/-- A bucket in bytes, signed. -/
def bktBytes (e : Env) (d : Dev) (n i : Nat) : Nat := ofSigned 32 (bktNow e d n i / bktUnit)

/-- EGS_PORT_STAT of port n. -/
def egsPortStat (e : Env) (d : Dev) (n : Nat) : Nat :=
  let p := d.port n
  flagAt p.setB 31 + flagAt p.swap.isSome 30 + flagAt p.downHold 29 + flagAt p.flushing 28 + flagAt (gating e n) 27

/-- PB_PFC_WD_STAT of port n. -/
def wdStat (e : Env) (d : Dev) (n : Nat) : Nat :=
  let p := d.port n
  maskOf 9 (pausedK e p) * 2 ^ 16 + maskOf 9 (wdHolding e p)

/-- FLT_STAT of cluster c, its busy flag apart. -/
def fltStat (e : Env) (d : Dev) (c : Nat) : Nat :=
  let x := d.blk c
  flagAt ((List.range 32).any (fun g => engReserved d c g != engWanted e c g)) 31 + x.dispGen.length * 2 ^ 17 + x.dispBr.length * 2 ^ 11 + x.sieve.length

/-- FLT_SLOT of a version slot. -/
def fltSlot (x : SlotSt) : Nat := flagAt x.valid 31 + flagAt x.compat 30 + x.state * 2 ^ 28 + x.version * 2 ^ 24
/-- FLT_ENTRY of a version slot. -/
def fltEntry (x : SlotSt) : Nat := flagAt x.brValid 31 + x.brEntry * 2 ^ 16 + x.entry

/-- THA_BLK_STAT of block b, its busy flag apart. -/
def thaStat (d : Dev) (b : Nat) : Nat :=
  let x := d.blk b
  flagAt x.overcommit 30 + flagAt (x.slack.any (fun kv => kv.2 != 0)) 29 + x.quar.length

/-- THA_BLK_FREE of block b. -/
def thaFree (e : Env) (d : Dev) (b : Nat) : Nat :=
  min 65535 (max 0 (sharedFree e d b)).toNat * 2 ^ 16 + (32768 - (d.blk b).alloc.length)

/-- THA_POOL_STAT of a pool. -/
def poolStat (e : Env) (d : Dev) (b p : Nat) : Nat :=
  flagAt (aboveW2 e d b p) 31 + flagAt (aboveW1 e d b p) 30 + min 65535 (poolC d b p)

/-- MCA_SCN_STAT of scanner k. -/
def scnStat (d : Dev) (k : Nat) : Nat :=
  flagAt (unitOn d (16 + k)) 31 + (d.blk k).lanes.length * 2 ^ 16 + (d.blk k).scanQ.length

/-- MCA_SET_STAT of slot k. -/
def setStat (d : Dev) (k : Nat) : Nat :=
  let x := d.set k
  flagAt x.valid 31 + flagAt (setInUse d k) 30 + flagAt x.resident 29 + flagAt x.lost 28 + x.quota

/-- Word w of domain k's capture: seconds, nanoseconds and fraction (R291). -/
def capWord (d : Dev) (k w : Nat) : Nat :=
  let v := tget 0 d.qtz.capD k
  let s := v / 65536 / 1000000000
  [s / 2 ^ 32 % 65536, s % 2 ^ 32, v / 65536 % 1000000000, v % 65536].getD w 0

/-- Nanoseconds of slew still to add, whole, towards zero. -/
def slewLeft (e : Env) (k : Nat) : Nat := ofSigned 32 (((e.dom k).now e.lt3).slewRem.tdiv (65536 * domUnit))

/-- The head of TIN n: twice its stamp, plus 1 for a rising edge. -/
def tinHead (d : Dev) (n : Nat) : Nat := (tget [] d.qtz.tin n).headD 0

/-- LFT_CH_STAT of a channel; `win` while a test window runs on it (R354). -/
def chStat (win : Bool) (x : ChSt) : Nat :=
  (if win then 1 else x.state) * 2 ^ 30 + flagAt x.hot 29 + flagAt (!x.burst.isEmpty) 28 + flagAt x.noEye 27 +
    x.post.foldl (fun a kv => max a kv.2) 0

/-- PUR_REQ_STAT of a requester. -/
def reqStat (e : Env) (d : Dev) (id : Nat) : Nat :=
  flagAt (sideMasked d id) 31 + flagAt (d.loft.arbs.any (fun a => quotaMasked e a.2 id)) 30 +
    flagAt (d.loft.chans.any (fun c => match tfind c.2.thr id with
      | some t => decide (e.third < t.1)
      | none => false)) 29 + min 16 (pendCount d id)

/-- PUR_STAT: drained while frozen with no access under way, and the mode. -/
def purStat (e : Env) (d : Dev) : Nat :=
  flagAt (purDrained e d) 31 + flagAt (pipeWanted e d) 30

/-- TWN_STAT, its busy flag apart. -/
def twnStat (e : Env) (d : Dev) : Nat :=
  let t := d.twin
  t.state * 2 ^ 28 + flagAt (takesFrames e d) 27 + flagAt t.eligible 26 + flagAt t.lagging 25 + flagAt t.timeLocked 24 +
    flagAt t.fenceIn 23 + flagAt t.mismatch 22

/-- GNS_STAT, its busy flag apart. -/
def gnsStat (d : Dev) : Nat :=
  let g := d.gns
  flagAt g.dead 30 + flagAt (g.run.isNone && g.susp.isEmpty && (gnsNext d).isNone) 29 +
    (match g.run with
      | some c => c.rt.kind.prio * 2 ^ 27 + flagAt c.space 16 + c.upc
      | none => 0)

/-- An arbiter has not yet changed to normal mode since datapath enable landed; 64 Loft cycles after it every one has (R451). -/
def arbsBehind (e : Env) (d : Dev) : Bool :=
  decide (e.third < d.pwr.dpAt + 180) && !(pipeWanted e d) && (List.range 18).any (fun a => (d.arb a).pipelined)

/-- The phase in progress (R449, R451). -/
def phaseShown (e : Env) (d : Dev) : Nat :=
  let p := d.pwr.phase
  if p = 2 ∧ e.perst ∧ ms 2 ≤ e.third then 3 else if p = 7 ∧ arbsBehind e d then 5 else p

/-- PWR_STAT, its busy flag apart. -/
def pwrStat (e : Env) (d : Dev) : Nat :=
  let p := d.pwr
  phaseShown e d * 2 ^ 28 + flagAt p.fuseErr 27 + flagAt p.romErr 26 + flagAt p.bistDone 25 + flagAt p.bistFail 24 +
    flagAt (p.fltPending != 0) 23

/-- PWR_UNIT_STAT of a unit. -/
def unitStat (d : Dev) (u : Nat) : Nat :=
  flagAt (unitOn d u) 31 + flagAt (d.pwr.queue.any (fun r => r.unit == u)) 30 +
    flagAt (d.pwr.ramps.any (fun r => r.1 == u)) 29 + tget 0 d.pwr.deferral u

/-- A word of the PMU: 48-bit counters. -/
def pmuCtr (d : Dev) (i : Nat) : Nat := tget 0 d.pmu.ctr i % 2 ^ 48

/-- The user page shows a word only while it is enabled (R343). -/
def userWord (e : Env) (v : Nat) : Nat := if e.b 0xD01004 0 then v else 0

/-- Observations of a queue. -/
def obsOf (d : Dev) (p : List Nat) : ObsSt := tget {} (d.port (p.headD 0)).obs (p.getD 1 0)

/-! ## Read-only registers -/

/-- What a register shows that holds no written value: none for the registers that show what is stored. -/
def shown (e : Env) (d : Dev) (k : RegName) (p : List Nat) : Option Nat :=
  let i := p.headD 0
  let j := p.getD 1 0
  let n := placePort p
  let q := d.qtz
  match k with
  | .GLB_ORDER => some (flagAt Config.fuseGrade 0)
  | .GLB_SUBSYS => some Config.fuseSubsys.toNat
  | .GLB_SERIAL_LO => some (half Config.fuseSerial.toNat 0)
  | .GLB_SERIAL_HI => some (half Config.fuseSerial.toNat 1)
  | .GLB_ROM => some Config.romVersion.toNat
  | .GLB_STRAP => some (Straps.word e.straps)
  | .GLB_BUSY0 => some (maskOf 32 (busy e))
  | .GLB_BUSY1 => some (maskOf 27 (fun b => busy e (32 + b)))
  | .GLB_VOTE_STAT => some d.mgmt.passUs
  | .GLB_VOTE_LOG => some d.mgmt.voteLog.toNat
  | .GLB_PW_DROP_LOG => some d.mgmt.dropLog.toNat
  | .GLB_BAD_LOG => some d.mgmt.badLog.toNat
  | .EVT_PEND => some (maskOf 8 (evPending e d i))
  | .EVT_SUM => some (evtSum e d i)
  | .EVT_VEC_SUM => some (maskOf 32 (fun b => vecPending e d (32 * i + b)))
  | .CMD_EPOCH => some (d.cmd.cause * 2 ^ 16 + d.cmd.epoch)
  | .CMD_STAT => some (flagAt (busy e 57) 31 + flagAt d.cmd.rebuilding 30 + flagAt d.cmd.stall 29 + outstanding d)
  | .CMD_CPL_TAIL => some d.cmd.tail
  | .CMD_RING_HEAD => some d.cmd.ringHead
  | .CMD_KEY_VALID_LO => some (half d.cmd.keyValid 0)
  | .CMD_KEY_VALID_HI => some (half d.cmd.keyValid 1)
  | .CMD_LOFT_MAP => some (Config.loftMap i d.loft.inter.length d.gut.size).toNat
  | .PB_STAT => some (flagAt (d.blk i).modePending 1 + flagAt (busy e i) 0)
  | .PB_PORT_STAT => some (portStat d n)
  | .PB_CT_STATE => some (flagAt (d.port n).sfForced 8 + (d.port n).curThresh)
  | .PB_PRE_STAT => some (flagAt (d.port n).rxFrag 3 + (d.port n).preState)
  | .PB_PFC_WD_STAT => some (wdStat e d n)
  | .PB_MDIO_STAT =>
    let m := tget {} d.mdio i
    some (flagAt m.busy 31 + m.drops * 2 ^ 16 + m.rdata)
  | .FLT_STAT => some (fltStat e d i + flagAt (busy e (16 + i)) 30)
  | .FLT_EXC_LOG => some (d.blk i).excLog
  | .FLT_SLOT => some (fltSlot (d.rs.slots.getD j {}))
  | .FLT_ENTRY => some (fltEntry (d.rs.slots.getD j {}))
  | .SLT_STAT => some (flagAt (busy e 48) 31 + flagAt d.slate.sweep.isSome 30)
  | .SLT_LRN_STAT => some (d.blk i).learnQ.length
  | .SLT_LOCK_HELD => some (maskOf 32 (fun r => thas d.slate.held (lockKey i r)))
  | .SLT_ERR_LOG0 => some (tget 0 d.slate.errLog (2 * i))
  | .SLT_ERR_LOG1 => some (tget 0 d.slate.errLog (2 * i + 1))
  | .SLT_P_NODES => some (nodesFree d)
  | .SLT_P_RES => some (resultsFree d)
  | .SLT_RS_STAT => some (rsStat e d)
  | .RDG_STAT => some (flagAt (busy e 49) 31 + flagAt d.frozen 30 + flagAt (drained e d) 29)
  | .RDG_MID_STAT => some (midStat d i)
  | .RDG_RSQ_STAT => some (rsqHeld d i)
  | .THA_BLK_STAT => some (flagAt (busy e (32 + i)) 31 + thaStat d i)
  | .THA_BLK_FREE => some (thaFree e d i)
  | .THA_POOL_STAT => some (poolStat e d i j)
  | .THA_CSUM_LOG0 => some (tget 0 d.loft.csumLog (2 * i))
  | .THA_CSUM_LOG1 => some (tget 0 d.loft.csumLog (2 * i + 1))
  | .THA_DRIP_LOG => some (tget 0 d.loft.dripLog i)
  | .EGS_PSHP_BKT => some (bktBytes e d i 16)
  | .EGS_QSHP_BKT => some (bktBytes e d i j)
  | .EGS_PORT_STAT => some (egsPortStat e d i)
  | .EGS_Q_WIN => some (longestWindow e i j)
  | .EGS_OBS_DMIN => some (obsOf d p).dmin
  | .EGS_OBS_DMAX => some (obsOf d p).dmax
  | .EGS_OBS_DLAST => some (obsOf d p).dlast
  | .EGS_OBS_TMIN => some (obsOf d p).tmin
  | .EGS_OBS_TMAX => some (obsOf d p).tmax
  | .EGS_OBS_TLAST => some (obsOf d p).tlast
  | .EGS_OBS_HIST => some (tget 0 (obsOf d p).hist (p.getD 2 0))
  | .EGS_STAT => some (flagAt (busy e 50) 31)
  | .QTZ_STAT => some (flagAt (busy e 51) 31 + flagAt d.pwr.locked 30)
  | .QTZ_CAP_LT_HI => some (half (q.capLt / 65536) 1)
  | .QTZ_CAP_LT_LO => some (half (q.capLt / 65536) 0)
  | .QTZ_CAP_LT_FRAC => some (q.capLt % 65536)
  | .QTZ_CAP_D => some (capWord d i j)
  | .QTZ_D_STAT =>
    let m := (e.dom i).now e.lt3
    some (flagAt m.pend.isSome 31 + flagAt m.slewing 30)
  | .QTZ_D_SLEW_REM => some (slewLeft e i)
  | .QTZ_TIN_STAT => some (tget [] q.tin i).length
  | .QTZ_TIN_HEAD_HI => some (half (tinHead d i / 2 ^ 17) 1)
  | .QTZ_TIN_HEAD_LO => some (half (tinHead d i / 2 ^ 17) 0)
  | .QTZ_TIN_HEAD_FRAC => some (tinHead d i % 2 * 2 ^ 31 + tinHead d i / 2 % 65536)
  | .QTZ_PPS_LAST_HI => some (half (q.ppsLast / 65536) 1)
  | .QTZ_PPS_LAST_LO => some (half (q.ppsLast / 65536) 0)
  | .QTZ_PPS_LAST_FRAC => some (q.ppsLast % 65536)
  | .QTZ_PPS_COUNT => some q.ppsCount
  | .QTZ_SYNCE_STAT => some (flagAt (bit q.squelch i) 31)
  | .GUT_STAT =>
    some (flagAt (busy e 52) 31 + flagAt d.gut.fallback 30 + flagAt d.gut.full 29 +
      flagAt (min 8 (e.f 0xC00000 3 0) != d.gut.size) 28)
  | .GUT_WR => some d.gut.wr
  | .GUT_RD => some d.gut.rd
  | .GUT_SEQ => some d.gut.seq
  | .STA_SNAP_STAT => some (flagAt (!d.stat.snaps.isEmpty || !(waitingSlots d 0x31).isEmpty) 31)
  | .STA_SNAP_GEN => some (tget 0 d.stat.gens i)
  | .STA_SNAP_LT_LO => some (half d.stat.snapLt 0)
  | .STA_SNAP_LT_HI => some (half d.stat.snapLt 1)
  | .STA_HALF_LOG => some (tget 0 d.stat.halfLog i)
  | .PMU_USER_CYC => some (userWord e (half e.cycle i))
  | .PMU_USER_LT => some (userWord e (half e.ltNs i))
  | .PMU_USER_CTR => some (userWord e (half (pmuCtr d i) j))
  | .PMU_CTL => some (flagAt d.pmu.freeze 31 + flagAt (e.b 0xD01000 30) 30)
  | .PMU_CYC_LO => some (half e.cycle 0)
  | .PMU_CYC_HI => some (half e.cycle 1)
  | .PMU_LT_LO => some (half e.ltNs 0)
  | .PMU_LT_HI => some (half e.ltNs 1)
  | .PMU_CTR_LO => some (half (pmuCtr d i) 0)
  | .PMU_CTR_HI => some (half (pmuCtr d i) 1)
  | .PMU_SMP => some (tget 0 d.pmu.smp (4 * i + j))
  | .PMU_HOLD => some (half (tget 0 d.pmu.hold i) j)
  | .PMU_HOLD_CYC => some (half (tget 0 d.pmu.hold 64) i)
  | .PMU_HOLD_LT => some (half (tget 0 d.pmu.hold 65) i)
  | .PMU_BW =>
    some (if j % 2 = 0 then tget 0 d.pmu.bwLast (2 * i + j / 2) else tget 0 d.pmu.bwPeak (2 * i + j / 2))
  | .LFT_STAT =>
    some (flagAt (busy e 53) 31 + flagAt d.loft.deepOff 30 + flagAt d.loft.restart.isSome 29 + (onlineChans d).length)
  | .LFT_RH_LOG0 => some (tget 0 d.loft.rhLog (2 * i))
  | .LFT_RH_LOG1 => some (tget 0 d.loft.rhLog (2 * i + 1))
  | .LFT_CH_STAT => some (chStat (windowOn e d i) (d.chan i))
  | .PUR_STAT => some (purStat e d)
  | .PUR_REQ_STAT => some (reqStat e d i)
  | .PUR_ARB_STAT => some ((d.arb i).dead * 2 ^ 16 + (d.arb i).pendFull)
  | .MCA_STAT => some (flagAt (busy e 54) 31)
  | .MCA_SCN_STAT => some (scnStat d i)
  | .MCA_SET_STAT => some (setStat d i)
  | .MCA_SET_INFO => some (d.set i).patterns.length
  | .GNS_STAT => some (flagAt (busy e 56) 31 + gnsStat d)
  | .GNS_PATCH => some (flagAt d.gns.loaded 31 + d.gns.version)
  | .GNS_PATCH_MIN => some (Config.fusePatchMin.toNat % 65536)
  | .GNS_SP_GAP => some d.gns.gap
  | .GNS_TRAP_LOG0 => some d.gns.trapLog0.toNat
  | .GNS_TRAP_LOG1 => some d.gns.trapLog1.toNat
  | .GNS_MATCH => some (tget 0 d.gns.matchRegs i).toNat
  | .TWN_STAT => some (flagAt (busy e 55) 31 + twnStat e d)
  | .TWN_LAG => some d.twin.lag
  | .TWN_DELAY => some d.twin.delay
  | .TWN_APPLY_FAIL_CNT => some d.twin.applyFail
  | .PWR_STAT => some (flagAt (busy e 58) 31 + pwrStat e d)
  | .PWR_QUEUE => some (rampRate d * 2 ^ 16 + d.pwr.queue.length)
  | .PWR_DEFER_MAX => some d.pwr.deferMax
  | .PWR_CLK_STAT => some d.pwr.clkOk
  | .PWR_GRANT_CNT => some d.pwr.grants
  | .PWR_TEMP => some d.pwr.temp.toNat
  | .PWR_WAKE_LOG0 => some (tget 0 d.pwr.wakeLog (2 * i))
  | .PWR_WAKE_LOG1 => some (tget 0 d.pwr.wakeLog (2 * i + 1))
  | .PWR_UNIT_STAT => some (unitStat d i)
  | _ => none

/-- The port whose register a kind has at a place: those of chapter 02, and those of later chapters that come one to a port; a
lane's correction is none (R295). -/
def portOf (k : RegKind) (p : List Nat) : Option Nat :=
  if k.base / 2 ^ 20 = 4 ∧ k.dims.getD 1 (0, 0) = (0x1000, 6) then some (placePort p)
  else if k.base / 2 ^ 20 ≠ 0xB ∧ (k.dims.headD (0, 0)).2 = 96 then some (p.headD 0)
  else none

/-- The register is one of a port that is absent: it reads its reset value (R27). -/
def absentPort (d : Dev) (k : RegKind) (p : List Nat) : Bool := match portOf k p with
  | some n => !(portPresent d n)
  | none => false

/-- The value of a register: what its unit shows, the active copy of an SH register while EGS_VIEW.sel = 1 (R262), or
what is stored. -/
def regValue (e : Env) (d : Dev) (k : RegKind) (p : List Nat) (off : Nat) : Nat :=
  if absentPort d k p then resetAt k p else
  match shown e d k.name p with
  | some v => v
  | none => if k.shadow && e.b 0xAC0004 0 then e.act off else e.reg off

/-- A word of BAR0 of PF0: a register, an event counter, a statistics counter, or zero (R426). -/
def readWord (e : Env) (d : Dev) (off : Nat) : Nat :=
  match regAt off with
  | some (k, p) => regValue e d k p off
  | none =>
    match eventAt off with
    | some (g, i, ack) =>
      if g < 96 ∧ !(portPresent d g) then 0 else (if ack then d.evAck g i else d.evCnt g i).toNat
    | none =>
      match statAt off with
      | some (key, held) => half (tget 0 (if held then d.stat.held else d.stat.live) key) (off % 8 / 4)
      | none => 0

/-! ## Voted fields (R429-R431) -/

/-- The first copy of a register's voted fields. -/
def firstCopy (e : Env) (d : Dev) (k : RegKind) (p : List Nat) (off : Nat) : Nat :=
  match shown e d k.name p with
  | some v => v
  | none => match tfind e.regs.vals (off / 4) with
    | some w => w.toNat
    | none => resetAt k p

/-- The three copies of a field. -/
def threeCopies (e : Env) (a off : Nat) (f : Nat × Nat) : Nat × Nat × Nat :=
  (bits a f.1 f.2, bits (a ^^^ (tget 0 e.regs.tvB (off / 4)).toNat) f.1 f.2,
    bits (a ^^^ (tget 0 e.regs.tvC (off / 4)).toNat) f.1 f.2)

/-- All three copies of a field differ. -/
def threeWay (c : Nat × Nat × Nat) : Bool := c.1 != c.2.1 && c.1 != c.2.2 && c.2.1 != c.2.2

/-- The value two copies of a field agree on. -/
def majority (c : Nat × Nat × Nat) : Nat := if c.2.1 = c.2.2 then c.2.1 else c.1

/-- Reset value of a voted register, straps included (R444). -/
def voteReset (e : Env) (k : RegKind) (p : List Nat) : Nat :=
  match k.name with
  | .CMD_GRP_CFG => e.straps.devid.toNat
  | .TWN_ROLE => e.straps.twinRole.toNat
  | _ => resetAt k p

/-- The copies of a register agree again. -/
def Env.agree (e : Env) (off : Nat) : Env :=
  { e with regs := { e.regs with tvB := tdel e.regs.tvB (off / 4), tvC := tdel e.regs.tvC (off / 4) } }

/-- A voted register is read by the host or the scrubber: single disagreements are corrected, each counted; a field
whose copies all differ takes its reset value, and the device faults (R429, R431). -/
def voteCheck (off : Nat) (s : State) : State :=
  match regAt off with
  | none => s
  | some (k, p) =>
    let e := s.env
    let a := firstCopy e s.dev k p off
    let bad := k.tv.filter (fun f => threeWay (threeCopies e a off f))
    let one := k.tv.filter (fun f =>
      let c := threeCopies e a off f
      !(threeWay c) && (c.1 != c.2.1 || c.1 != c.2.2))
    if bad = [] ∧ one = [] then s else
      let v := one.foldl (fun v f => setBits v f.1 f.2 (majority (threeCopies e a off f))) a
      let v := bad.foldl (fun v f => setBits v f.1 f.2 (bits (voteReset e k p) f.1 f.2)) v
      let d := one.foldl (fun d _ => raiseEv e 139 0 d) s.dev
      let d := { d with mgmt := { d.mgmt with voteLog := w32 (flagAt (bad != []) 31 + off / 4 % 2 ^ 24) } }
      let s := { s with dev := d }
      let s := match k.name with
        | .SLT_RS_STAT =>
          { s with env := e.agree off, dev := { d with rs := { d.rs with active := d.rs.active.map (fun _ => bits v 27 24) } } }
        | .EGS_PORT_STAT =>
          { s with env := e.agree off, dev := d.onPort (p.headD 0) (fun x => { x with setB := bit v 31 }) }
        | _ =>
          let s' := { s with env := e.setReg off v }
          if bad = [] then s' else landEffect k.name p off (e.reg off) v e s'
      if bad = [] then s else { s with dev := deviceFault s.env 1 s.dev }

/-- Every register kind. -/
def allKinds : List RegKind :=
  kindsGlb ++ kindsEvt ++ kindsCmd ++ kindsPb ++ kindsFlt ++ kindsSlt ++ kindsRdg ++ kindsTha ++ kindsEgs ++ kindsQtz ++
    kindsGut ++ kindsPmu ++ kindsLft ++ kindsMca ++ kindsGns ++ kindsTwn ++ kindsPwr

/-- The least distance from a kind's base, not below `r`, at which the kind has a register. -/
def nextPlace : List (Nat × Nat) → Nat → Option Nat
  | [], r => if r = 0 then some 0 else none
  | (st, n) :: ds, r =>
    match nextPlace ds (r % st) with
    | some x => if r / st < n then some (r / st * st + x) else none
    | none => if r / st + 1 < n then some ((r / st + 1) * st) else none

/-- The first voted register at or above an offset. -/
def nextVoted (x : Nat) : Option Nat :=
  allKinds.foldl (fun a k =>
    if k.tv = [] then a else
      match nextPlace k.dims (x - k.base), a with
      | some o, some b => some (min b (k.base + o))
      | some o, none => some (k.base + o)
      | none, _ => a) none

/-- VOTE_SCRUB_READ: the scrubber reads the next voted register in ascending order, one in every 16 management cycles; after
the last, a pass has ended (R430). -/
def scrubVoteOp (s : State) : State :=
  match nextVoted s.dev.mgmt.scrubAt with
  | none => s
  | some off => if s.env.third < s.dev.mgmt.scrubTime + ns 64 then s else
    let s := voteCheck off s
    let m := { s.dev.mgmt with scrubTime := s.env.third }
    let m := if (nextVoted (off + 4)).isSome then { m with scrubAt := off + 4 }
      else { m with scrubAt := 0, passUs := min 65535 ((s.env.third - m.passStart) / 3000), passStart := s.env.third }
    { s with dev := { s.dev with mgmt := m } }

/-! ## Reads -/

/-- A 4-byte read of BAR0 of PF0: the value, and the state with votes corrected and, at CMD_ISSUE, the staged command
issued (R391, R429). -/
def read4 (off : Nat) (s : State) : Nat × State :=
  let s := voteCheck off s
  if off = 0x200040 then
    let s := cmdIssueOp s
    (s.dev.mgmt.readData, s)
  else (readWord s.env s.dev off, s)

/-- A word of BAR0 of PF1. -/
def hptRead (s : State) (off : Nat) : Nat :=
  if 0x2000 ≤ off then 0 else
    let r := tget {} s.dev.rings (off / 0x40)
    match off % 0x40 / 4 with
    | 4 => r.head
    | 8 => r.err
    | w => if (hptMask w).isSome then (tget 0 s.hpt (off / 4)).toNat else 0

/-! ## Meanings -/

/-- VOTE_SCRUB_READ -/
def execVoteScrubRead (s : State) : Host.Outcome State Fault Refusal := .next (scrubVoteOp s)
end Sys2Proof.Machine
end

