-- ==== Sys2Proof/Machine/HostRead.lean ====
section
/-! DEFINITION. Host reads: the BAR2 window (R384, R385), and REGISTER_READ over it and over the registers of both functions
(R426, R427, R429). The table has one row for host reads; it carries reads of the window too (assumption 101). -/
namespace Sys2Proof.Machine

/-! ## The Loft aperture (R385) -/

/-- A byte of a list in little-endian order of a value. -/
def valueByte (n v i : Nat) : Byte := (natLE n v).getD i 0

/-- What stands at a byte of a reserved region that the device keeps under another form: the Gutter ring, a hit table of
8-byte counts (R172), flow totals as a frame and a byte total per counter (R335), and the leaf level of the bitmap, a bit a
unit, 1 for a unit in use (R224). -/
def regionByte (s : State) (k off : Nat) : Byte :=
  if k = 0 then (mread s.dev.gut.ring off 1).getD 0 0
  else if k < 33 then valueByte 8 (tget 0 (s.dev.set (k - 17)).hits (off / 8)) (off % 8)
  else if k = 33 then
    let x := s.dev.flow (off / 16)
    if off % 16 < 8 then valueByte 8 x.frames (off % 8) else valueByte 8 x.bytes (off % 8)
  else
    let d := s.dev
    BitVec.ofNat 8 ((List.range 8).foldl (fun a i =>
      let u := 8 * off + i
      let used := d.loft.alloc.contains u || d.loft.quar.contains u || decide (u < d.loft.reserved) ||
        decide (d.loft.inter.length * 2 ^ 23 ≤ u)
      a + flagAt used i) 0)

/-- Bytes of such a region. -/
def regionSize (d : Dev) (k : Nat) : Nat :=
  if k = 0 then 2 ^ (24 + min 8 d.gut.size) else if k < 33 then 2 ^ 21 else if k = 33 then 2 ^ 23 else 2 ^ 25

/-- A byte of Loft as a reader of the aperture finds it. -/
def loftByte (s : State) (a : Nat) : Byte :=
  let base := fun k => 256 * regionUnit s.dev k 0
  match ((0 :: (List.range 18).map (· + 17)).find? (fun k =>
      decide (base k ≤ a) && decide (a < base k + regionSize s.dev k))) with
  | some k => regionByte s k (a - base k)
  | none => (mread s.loft a 1).getD 0 0

/-- A byte read through the aperture: all ones for a unit that is absent or on an offline channel (R355 step 6). -/
def apertureByte (s : State) (off : Nat) : Byte :=
  let a := s.env.f 0x200900 7 0 * 2 ^ 28 + off
  if unitServed s.dev (a / 256) then loftByte s a else 0xFF

/-! ## The window (R384) -/

/-- The byte at an offset of a region of entries, as TBL_READ shows them. -/
def entryByte (d : Dev) (r blk off : Nat) : Byte := (tblEntry d r blk (off / tblBytes r)).getD (off % tblBytes r) 0

/-- The byte at an offset of the version slots of cluster 0 (R94): 64-bit words, least significant byte first. -/
def slotByte (d : Dev) (off : Nat) : Byte :=
  valueByte 8 (((d.prog (off / 2 ^ 17)).words.getD (off / 8 % 2 ^ 14) 0).toNat) (off % 8)

/-- A byte of the BAR2 window; zero outside every region. -/
def bar2Byte (s : State) (o : Nat) : Byte :=
  let d := s.dev
  if o < 0x2000000 then entryByte d 0 0 o
  else if o < 0x2400000 then entryByte d 1 0 (o - 0x2000000)
  else if o < 0x2800000 then entryByte d 2 0 (o - 0x2400000)
  else if o < 0x2C00000 then entryByte d 3 0 (o - 0x2800000)
  else if o < 0x3800000 then entryByte d 4 0 (o - 0x2C00000)
  else if o < 0x3E00000 then entryByte d 5 0 (o - 0x3800000)
  else if o < 0x3E20000 then entryByte d 6 0 (o - 0x3E00000)
  else if o < 0x3E22000 then entryByte d 12 0 (o - 0x3E20000)
  else if 0x4000000 ≤ o ∧ o < 0x4040000 then slotByte d (o - 0x4000000)
  else if 0x4100000 ≤ o ∧ o < 0x4210000 then entryByte d 7 0 (o - 0x4100000)
  else if 0x4400000 ≤ o ∧ o < 0x4500000 then entryByte d 8 ((o - 0x4400000) / 65536) (o % 65536)
  else if 0x4800000 ≤ o ∧ o < 0x4C00000 then entryByte d 9 0 (o - 0x4800000)
  else if 0x4C00000 ≤ o ∧ o < 0x4C20000 then valueByte 4 (tget 0 d.slate.raw (o / 4)).toNat (o % 4)
  else if 0x4E00000 ≤ o ∧ o < 0x4E40000 then entryByte d 10 0 (o - 0x4E00000)
  else if 0x5000000 ≤ o ∧ o < 0x5100000 then entryByte d 11 0 (o - 0x5000000)
  else if 0x6000000 ≤ o ∧ o < 0x6100000 then (mread d.gut.fall (o - 0x6000000) 1).getD 0 0
  else if 0x10000000 ≤ o ∧ o < 0x40000000 then apertureByte s (o - 0x10000000)
  else 0

/-- Bytes of the window as a little-endian value. -/
def bar2Get (s : State) (o n : Nat) : Nat := leNat ((List.range n).map (fun i => bar2Byte s (o + i)))

/-! ## REGISTER_READ -/

/-- What a read returned. -/
def readDone (v : Nat) (s : State) : State := { s with dev := { s.dev with mgmt := { s.dev.mgmt with readData := v } } }

/-- A read of BAR0 of a function by its words (R426, R427, R429). -/
def readWords (word : Nat → State → Nat × State) (off width : Nat) (s : State) : State :=
  let lo := word (off / 4 * 4) s
  if width = 8 then
    let hi := word (off + 4) lo.2
    readDone (lo.1 + 2 ^ 32 * hi.1) hi.2
  else readDone (lo.1 / 2 ^ (8 * (off % 4)) % 2 ^ (8 * width)) lo.2

/-- REGISTER_READ. An access that is not aligned reads zero, and in BAR0 of PF0 is a bad access (R427). -/
def readOp (space : HostSpace) (off width : Nat) (s : State) : State :=
  match space with
  | .pf0 =>
    if aligned off width then readWords read4 off width s
    else readDone 0 { s with dev := badAccess s.env false true off s.dev }
  | .pf1 => if aligned off width then readWords (fun o s => (hptRead s o, s)) off width s else readDone 0 s
  | .bar2 =>
    if aligned off width then readDone (bar2Get s off width) { s with dev := hostAsk s.env off s.dev } else readDone 0 s

/-- REGISTER_READ -/
def execRegisterRead (space : HostSpace) (offset width : Nat) (s : State) : Host.Outcome State Fault Refusal :=
  .next (readOp space offset width s)

end Sys2Proof.Machine
end

