-- ==== Sys2Proof/Machine/Dispatch.lean ====
section
/-! DEFINITION. The meaning of every command, one arm each. -/
namespace Sys2Proof.Machine

/-- What a command does to everything but the queue of waiting commands. -/
def exec (i : Instr) (s : State) : Host.Outcome State Fault Refusal :=
  match i with
  | .frameReceiveStart a b c => Sys2Proof.Machine.execFrameReceiveStart a b c s
  | .frameReceiveEnd a => Sys2Proof.Machine.execFrameReceiveEnd a s
  | .portEnable a b => Sys2Proof.Machine.execPortEnable a b s
  | .portDisable a b => Sys2Proof.Machine.execPortDisable a b s
  | .linkDown a => Sys2Proof.Machine.execLinkDown a s
  | .linkUp a b => Sys2Proof.Machine.execLinkUp a b s
  | .linkHoldExpire a => Sys2Proof.Machine.execLinkHoldExpire a s
  | .anRestart a => Sys2Proof.Machine.execAnRestart a s
  | .autonegEnd a b c => Sys2Proof.Machine.execAutonegEnd a b c s
  | .underrun a => Sys2Proof.Machine.execUnderrun a s
  | .ctRelease a => Sys2Proof.Machine.execCtRelease a s
  | .pauseFrameReceive a b => Sys2Proof.Machine.execPauseFrameReceive a b s
  | .pfcFrameReceive a b c => Sys2Proof.Machine.execPfcFrameReceive a b c s
  | .pauseTimerExpire a b => Sys2Proof.Machine.execPauseTimerExpire a b s
  | .flowControlSend a b => Sys2Proof.Machine.execFlowControlSend a b s
  | .flowControlRepeat a b => Sys2Proof.Machine.execFlowControlRepeat a b s
  | .pauseWatchdogTrip a b => Sys2Proof.Machine.execPauseWatchdogTrip a b s
  | .watchdogHoldEnd a b => Sys2Proof.Machine.execWatchdogHoldEnd a b s
  | .preemptVerifyTimer a => Sys2Proof.Machine.execPreemptVerifyTimer a s
  | .preemptVerifyResponse a => Sys2Proof.Machine.execPreemptVerifyResponse a s
  | .fragmentReceive a b => Sys2Proof.Machine.execFragmentReceive a b s
  | .mdioGo a b => Sys2Proof.Machine.execMdioGo a b s
  | .mdioOperationEnd a b => Sys2Proof.Machine.execMdioOperationEnd a b s
  | .dispatchEntryWrite a b => Sys2Proof.Machine.execDispatchEntryWrite a b s
  | .threadDispatch a b => Sys2Proof.Machine.execThreadDispatch a b s
  | .steal a b => Sys2Proof.Machine.execSteal a b s
  | .engineRoleChange a b => Sys2Proof.Machine.execEngineRoleChange a b s
  | .add a => Sys2Proof.Machine.execAdd a s
  | .sub a => Sys2Proof.Machine.execSub a s
  | .and a => Sys2Proof.Machine.execAnd a s
  | .or a => Sys2Proof.Machine.execOr a s
  | .xor a => Sys2Proof.Machine.execXor a s
  | .shl a => Sys2Proof.Machine.execShl a s
  | .shr a => Sys2Proof.Machine.execShr a s
  | .min a => Sys2Proof.Machine.execMin a s
  | .max a => Sys2Proof.Machine.execMax a s
  | .mov a => Sys2Proof.Machine.execMov a s
  | .movi a => Sys2Proof.Machine.execMovi a s
  | .cmp a => Sys2Proof.Machine.execCmp a s
  | .sel a => Sys2Proof.Machine.execSel a s
  | .ext a => Sys2Proof.Machine.execExt a s
  | .ins a => Sys2Proof.Machine.execIns a s
  | .extm a => Sys2Proof.Machine.execExtm a s
  | .insm a => Sys2Proof.Machine.execInsm a s
  | .hpush a => Sys2Proof.Machine.execHpush a s
  | .hpop a => Sys2Proof.Machine.execHpop a s
  | .hcopy a => Sys2Proof.Machine.execHcopy a s
  | .br a => Sys2Proof.Machine.execBr a s
  | .jmp a => Sys2Proof.Machine.execJmp a s
  | .call a => Sys2Proof.Machine.execCall a s
  | .ret a => Sys2Proof.Machine.execRet a s
  | .endPass a => Sys2Proof.Machine.execEndPass a s
  | .lkx a => Sys2Proof.Machine.execLkx a s
  | .lkp a => Sys2Proof.Machine.execLkp a s
  | .lkt a => Sys2Proof.Machine.execLkt a s
  | .lkd a => Sys2Proof.Machine.execLkd a s
  | .lkw a => Sys2Proof.Machine.execLkw a s
  | .lkc a => Sys2Proof.Machine.execLkc a s
  | .lookupAnswer a => Sys2Proof.Machine.execLookupAnswer a s
  | .hsh a => Sys2Proof.Machine.execHsh a s
  | .mtr a => Sys2Proof.Machine.execMtr a s
  | .cnt a => Sys2Proof.Machine.execCnt a s
  | .learn a => Sys2Proof.Machine.execLearn a s
  | .fwd a => Sys2Proof.Machine.execFwd a s
  | .mcast a => Sys2Proof.Machine.execMcast a s
  | .drop a => Sys2Proof.Machine.execDrop a s
  | .mirr a => Sys2Proof.Machine.execMirr a s
  | .host a => Sys2Proof.Machine.execHost a s
  | .recirc a => Sys2Proof.Machine.execRecirc a s
  | .scan a => Sys2Proof.Machine.execScan a s
  | .seqg a => Sys2Proof.Machine.execSeqg a s
  | .seqr a => Sys2Proof.Machine.execSeqr a s
  | .stamp a => Sys2Proof.Machine.execStamp a s
  | .csum a => Sys2Proof.Machine.execCsum a s
  | .sieveRelease a b => Sys2Proof.Machine.execSieveRelease a b s
  | .sieveLate a b => Sys2Proof.Machine.execSieveLate a b s
  | .scanStart a b c d => Sys2Proof.Machine.execScanStart a b c d s
  | .coldStateFetchEnd a b => Sys2Proof.Machine.execColdStateFetchEnd a b s
  | .scanVerdict a b c => Sys2Proof.Machine.execScanVerdict a b c s
  | .scanHoldLimit a => Sys2Proof.Machine.execScanHoldLimit a s
  | .scannerEnable a b => Sys2Proof.Machine.execScannerEnable a b s
  | .micaLoad a b => Sys2Proof.Machine.execMicaLoad a b s
  | .rsCommit a => Sys2Proof.Machine.execRsCommit a s
  | .commitProceed => Sys2Proof.Machine.execCommitProceed s
  | .commitImageLoaded a => Sys2Proof.Machine.execCommitImageLoaded a s
  | .rsSwitch => Sys2Proof.Machine.execRsSwitch s
  | .rsRetireSlow => Sys2Proof.Machine.execRsRetireSlow s
  | .retirementWalkStart => Sys2Proof.Machine.execRetirementWalkStart s
  | .retirementWalkEnd => Sys2Proof.Machine.execRetirementWalkEnd s
  | .parameterBankWrite a b => Sys2Proof.Machine.execParameterBankWrite a b s
  | .slateTControlWrite a b => Sys2Proof.Machine.execSlateTControlWrite a b s
  | .sltTBankWrite a b => Sys2Proof.Machine.execSltTBankWrite a b s
  | .slateXControlWrite a b => Sys2Proof.Machine.execSlateXControlWrite a b s
  | .slateDHighWrite a b => Sys2Proof.Machine.execSlateDHighWrite a b s
  | .replicationWord3Write a b => Sys2Proof.Machine.execReplicationWord3Write a b s
  | .bar2Write a b => Sys2Proof.Machine.execBar2Write a b s
  | .learnRequestServe => Sys2Proof.Machine.execLearnRequestServe s
  | .ageingSweepStart => Sys2Proof.Machine.execAgeingSweepStart s
  | .agerBucketRead => Sys2Proof.Machine.execAgerBucketRead s
  | .scrubRead => Sys2Proof.Machine.execScrubRead s
  | .lockTake a b => Sys2Proof.Machine.execLockTake a b s
  | .lockEffect a b => Sys2Proof.Machine.execLockEffect a b s
  | .lockRelease a b => Sys2Proof.Machine.execLockRelease a b s
  | .slateLockExpired a b => Sys2Proof.Machine.execSlateLockExpired a b s
  | .xInsert a => Sys2Proof.Machine.execXInsert a s
  | .xDelete a => Sys2Proof.Machine.execXDelete a s
  | .xFlush a => Sys2Proof.Machine.execXFlush a s
  | .pUpdate a b => Sys2Proof.Machine.execPUpdate a b s
  | .nodeFree a => Sys2Proof.Machine.execNodeFree a s
  | .tblRead a => Sys2Proof.Machine.execTblRead a s
  | .tblWrite a b => Sys2Proof.Machine.execTblWrite a b s
  | .stage1ShingleSend a b => Sys2Proof.Machine.execStage1ShingleSend a b s
  | .shingleArriveMiddle a b => Sys2Proof.Machine.execShingleArriveMiddle a b s
  | .stage2ShingleSend a b => Sys2Proof.Machine.execStage2ShingleSend a b s
  | .shingleArriveOutput a b => Sys2Proof.Machine.execShingleArriveOutput a b s
  | .creditReturn a b c => Sys2Proof.Machine.execCreditReturn a b c s
  | .ridgeSeqSkip a b c => Sys2Proof.Machine.execRidgeSeqSkip a b c s
  | .ridgeAsmDrop a b => Sys2Proof.Machine.execRidgeAsmDrop a b s
  | .freeze => Sys2Proof.Machine.execFreeze s
  | .unfreeze => Sys2Proof.Machine.execUnfreeze s
  | .hwmClear => Sys2Proof.Machine.execHwmClear s
  | .spillWriteDone a b => Sys2Proof.Machine.execSpillWriteDone a b s
  | .loftReadBack a b c => Sys2Proof.Machine.execLoftReadBack a b c s
  | .dripAudit a => Sys2Proof.Machine.execDripAudit a s
  | .dripAuditEnd => Sys2Proof.Machine.execDripAuditEnd s
  | .frameTransmitEnd a b => Sys2Proof.Machine.execFrameTransmitEnd a b s
  | .preempt a => Sys2Proof.Machine.execPreempt a s
  | .gateChange a => Sys2Proof.Machine.execGateChange a s
  | .shadowSwap a => Sys2Proof.Machine.execShadowSwap a s
  | .swapInstant a => Sys2Proof.Machine.execSwapInstant a s
  | .queueSample a => Sys2Proof.Machine.execQueueSample a s
  | .obsReset a => Sys2Proof.Machine.execObsReset a s
  | .pllLock => Sys2Proof.Machine.execPllLock s
  | .qtzRefLoss => Sys2Proof.Machine.execQtzRefLoss s
  | .ltCapture => Sys2Proof.Machine.execLtCapture s
  | .domainRatioWrite a b => Sys2Proof.Machine.execDomainRatioWrite a b s
  | .domainCancel a => Sys2Proof.Machine.execDomainCancel a s
  | .domainSet a => Sys2Proof.Machine.execDomainSet a s
  | .domainStep a => Sys2Proof.Machine.execDomainStep a s
  | .domainSlew a => Sys2Proof.Machine.execDomainSlew a s
  | .domainOpApply a => Sys2Proof.Machine.execDomainOpApply a s
  | .slewEnd a => Sys2Proof.Machine.execSlewEnd a s
  | .toutEdge a => Sys2Proof.Machine.execToutEdge a s
  | .toutPulseEnd a => Sys2Proof.Machine.execToutPulseEnd a s
  | .tinEdge a b => Sys2Proof.Machine.execTinEdge a b s
  | .tinPop a => Sys2Proof.Machine.execTinPop a s
  | .ppsInEdge a => Sys2Proof.Machine.execPpsInEdge a s
  | .recordDrain a => Sys2Proof.Machine.execRecordDrain a s
  | .gutRdWrite a => Sys2Proof.Machine.execGutRdWrite a s
  | .exportSend => Sys2Proof.Machine.execExportSend s
  | .snapshot a => Sys2Proof.Machine.execSnapshot a s
  | .snapshotInstant => Sys2Proof.Machine.execSnapshotInstant s
  | .accumulatorSpill a => Sys2Proof.Machine.execAccumulatorSpill a s
  | .flowRead a => Sys2Proof.Machine.execFlowRead a s
  | .flowSet a => Sys2Proof.Machine.execFlowSet a s
  | .pmuCounterWrite a b => Sys2Proof.Machine.execPmuCounterWrite a b s
  | .pmuOverflow a => Sys2Proof.Machine.execPmuOverflow a s
  | .bwWindowEnd a => Sys2Proof.Machine.execBwWindowEnd a s
  | .bwPeakClear => Sys2Proof.Machine.execBwPeakClear s
  | .arbiterDecision a b => Sys2Proof.Machine.execArbiterDecision a b s
  | .requestWithdraw a b c => Sys2Proof.Machine.execRequestWithdraw a b c s
  | .quotaWindowEnd a => Sys2Proof.Machine.execQuotaWindowEnd a s
  | .loftAccessIssue a => Sys2Proof.Machine.execLoftAccessIssue a s
  | .refreshDue a => Sys2Proof.Machine.execRefreshDue a s
  | .postponedRefresh a b => Sys2Proof.Machine.execPostponedRefresh a b s
  | .tempReportRead a b => Sys2Proof.Machine.execTempReportRead a b s
  | .rfm a b => Sys2Proof.Machine.execRfm a b s
  | .aggressorTableClear => Sys2Proof.Machine.execAggressorTableClear s
  | .throttleEnd a b => Sys2Proof.Machine.execThrottleEnd a b s
  | .loftTrain a => Sys2Proof.Machine.execLoftTrain a s
  | .testWindow a => Sys2Proof.Machine.execTestWindow a s
  | .loftTrainEnd => Sys2Proof.Machine.execLoftTrainEnd s
  | .loftRestart a => Sys2Proof.Machine.execLoftRestart a s
  | .loftRestartEnd => Sys2Proof.Machine.execLoftRestartEnd s
  | .roleExchange a => Sys2Proof.Machine.execRoleExchange a s
  | .twinCycleBoundary => Sys2Proof.Machine.execTwinCycleBoundary s
  | .stateCopy => Sys2Proof.Machine.execStateCopy s
  | .deltaRecordReceive a => Sys2Proof.Machine.execDeltaRecordReceive a s
  | .heartbeatReceive a b c => Sys2Proof.Machine.execHeartbeatReceive a b c s
  | .heartbeatAckReceive a b => Sys2Proof.Machine.execHeartbeatAckReceive a b s
  | .heartbeatMiss => Sys2Proof.Machine.execHeartbeatMiss s
  | .ackMiss => Sys2Proof.Machine.execAckMiss s
  | .fenceInRise => Sys2Proof.Machine.execFenceInRise s
  | .withdrawNoticeReceive => Sys2Proof.Machine.execWithdrawNoticeReceive s
  | .unfence => Sys2Proof.Machine.execUnfence s
  | .twinSwitch a => Sys2Proof.Machine.execTwinSwitch a s
  | .hostSendTake a b c => Sys2Proof.Machine.execHostSendTake a b c s
  | .hostReceiveDeliver a b => Sys2Proof.Machine.execHostReceiveDeliver a b s
  | .ringVectorTimer a => Sys2Proof.Machine.execRingVectorTimer a s
  | .pf1Flr => Sys2Proof.Machine.execPf1Flr s
  | .cmdIssue => Sys2Proof.Machine.execCmdIssue s
  | .commandRingFetch a => Sys2Proof.Machine.execCommandRingFetch a s
  | .completionPost => Sys2Proof.Machine.execCompletionPost s
  | .cplHeadWrite a => Sys2Proof.Machine.execCplHeadWrite a s
  | .nop a => Sys2Proof.Machine.execNop a s
  | .setDevid a => Sys2Proof.Machine.execSetDevid a s
  | .patchLoad a b => Sys2Proof.Machine.execPatchLoad a b s
  | .forceEpoch => Sys2Proof.Machine.execForceEpoch s
  | .deviceFault a => Sys2Proof.Machine.execDeviceFault a s
  | .rebuildEnd => Sys2Proof.Machine.execRebuildEnd s
  | .battenFrameReceive a b c => Sys2Proof.Machine.execBattenFrameReceive a b c s
  | .battenRetry a => Sys2Proof.Machine.execBattenRetry a s
  | .keyWrite a b => Sys2Proof.Machine.execKeyWrite a b s
  | .gnsAbort a => Sys2Proof.Machine.execGnsAbort a s
  | .routineStart => Sys2Proof.Machine.execRoutineStart s
  | .gnsNoOperation a => Sys2Proof.Machine.execGnsNoOperation a s
  | .gnsArithmetic a => Sys2Proof.Machine.execGnsArithmetic a s
  | .gnsMove a => Sys2Proof.Machine.execGnsMove a s
  | .gnsRequest a => Sys2Proof.Machine.execGnsRequest a s
  | .gnsComplete a => Sys2Proof.Machine.execGnsComplete a s
  | .gnsUnwindMark a => Sys2Proof.Machine.execGnsUnwindMark a s
  | .gnsReply a b => Sys2Proof.Machine.execGnsReply a b s
  | .registerWrite a b c d => Sys2Proof.Machine.execRegisterWrite a b c d s
  | .postedWriteLand a => Sys2Proof.Machine.execPostedWriteLand a s
  | .voteScrubRead => Sys2Proof.Machine.execVoteScrubRead s
  | .eventAckWrite a b c => Sys2Proof.Machine.execEventAckWrite a b c s
  | .eventEnableWrite a b => Sys2Proof.Machine.execEventEnableWrite a b s
  | .evtRearm a => Sys2Proof.Machine.execEvtRearm a s
  | .msixUnmask a => Sys2Proof.Machine.execMsixUnmask a s
  | .perstRise a => Sys2Proof.Machine.execPerstRise a s
  | .powerGoodFall => Sys2Proof.Machine.execPowerGoodFall s
  | .softwareReset a => Sys2Proof.Machine.execSoftwareReset a s
  | .configurationReady a b => Sys2Proof.Machine.execConfigurationReady a b s
  | .bistEnd a => Sys2Proof.Machine.execBistEnd a s
  | .refclkLoss a => Sys2Proof.Machine.execRefclkLoss a s
  | .refclkReturn a => Sys2Proof.Machine.execRefclkReturn a s
  | .datapathEnable => Sys2Proof.Machine.execDatapathEnable s
  | .clusterPowerWrite a => Sys2Proof.Machine.execClusterPowerWrite a s
  | .governorGrant => Sys2Proof.Machine.execGovernorGrant s
  | .rampEnd a => Sys2Proof.Machine.execRampEnd a s
  | .deferMaxClear => Sys2Proof.Machine.execDeferMaxClear s
  | .tempSensorRead a => Sys2Proof.Machine.execTempSensorRead a s
  | .shaperBucketRefill a => Sys2Proof.Machine.execShaperBucketRefill a s
  | .registerRead a b c => Sys2Proof.Machine.execRegisterRead a b c s
  | .perstFall => Sys2Proof.Machine.execPerstFall s
  | .pcieLinkRetrained => Sys2Proof.Machine.execPcieLinkRetrained s

end Sys2Proof.Machine
end

