-- ==== Sys2Proof/Safety.lean ====
section
/-! DEFINITION. What the statements speak of: the parts of the device that a command may change, what a scheduler
decision leaves of a port, the canonical forms of tables and memories, and the invariant that every step keeps. -/
namespace Sys2Proof.Machine

/-! ## Frames: what stays -/

/-- The parts of the device. A number that only names the next item of a table belongs to that table's part. -/
inductive Part where
  | evt | stat | pmu | mgmt | pwr | ports | blks | frames | sends | asms | copies | swaps | threads | frozen | rs
  | sets | slate | loft | gut | qtz | mdio | twin | rings | cmd | gns | free
deriving DecidableEq, Repr

/-- Two devices agree in a part. -/
def Dev.agree (d d' : Dev) : Part → Prop
  | .evt => d'.evt = d.evt
  | .stat => d'.stat = d.stat
  | .pmu => d'.pmu = d.pmu
  | .mgmt => d'.mgmt = d.mgmt
  | .pwr => d'.pwr = d.pwr
  | .ports => d'.ports = d.ports
  | .blks => d'.blks = d.blks
  | .frames => d'.frames = d.frames ∧ d'.nextFrame = d.nextFrame
  | .sends => d'.sends = d.sends ∧ d'.nextSend = d.nextSend
  | .asms => d'.asms = d.asms ∧ d'.nextAsm = d.nextAsm
  | .copies => d'.copies = d.copies ∧ d'.nextCopy = d.nextCopy
  | .swaps => d'.wredSwap = d.wredSwap ∧ d'.policerSwap = d.policerSwap ∧ d'.swapRes = d.swapRes
  | .threads => d'.threads = d.threads
  | .frozen => d'.frozen = d.frozen
  | .rs => d'.rs = d.rs
  | .sets => d'.sets = d.sets
  | .slate => d'.slate = d.slate
  | .loft => d'.loft = d.loft
  | .gut => d'.gut = d.gut
  | .qtz => d'.qtz = d.qtz
  | .mdio => d'.mdio = d.mdio
  | .twin => d'.twin = d.twin
  | .rings => d'.rings = d.rings
  | .cmd => d'.cmd = d.cmd
  | .gns => d'.gns = d.gns
  | .free => d'.free = d.free

/-- Two devices agree in every part outside the list. -/
def Dev.sameBut (l : List Part) (d d' : Dev) : Prop := ∀ p, p ∉ l → d.agree d' p

/-- Between two states only device parts of the list differ: registers, the clock, host memory, Loft memory, the
host-port registers and the waiting commands stand as they were. -/
def State.sameBut (l : List Part) (s t : State) : Prop :=
  t.env = s.env ∧ t.host = s.host ∧ t.loft = s.loft ∧ t.hpt = s.hpt ∧ t.pending = s.pending ∧ s.dev.sameBut l t.dev

/-- Between two states a register has taken the value v, in all its copies, and only device parts of the list differ
besides. -/
def State.wrote (off v : Nat) (l : List Part) (s t : State) : Prop :=
  t.env = s.env.setReg off v ∧ t.host = s.host ∧ t.loft = s.loft ∧ t.hpt = s.hpt ∧ t.pending = s.pending ∧
    s.dev.sameBut l t.dev

/-- No write waits in a scope (R432, R433). -/
def State.scopeFree (s : State) (sc : Nat) : Prop := ∀ x ∈ s.env.regs.posted, x.scope ≠ sc

/-- Only port n among the ports differs. -/
def Dev.otherPorts (n : Nat) (d d' : Dev) : Prop := ∀ m, m ≠ n → d'.port m = d.port m

/-- Only block b among the blocks differs. -/
def Dev.otherBlks (b : Nat) (d d' : Dev) : Prop := ∀ m, m ≠ b → d'.blk m = d.blk m

/-- Counts of events other than event i of group g stand. -/
def Dev.otherEvents (g i : Nat) (d d' : Dev) : Prop :=
  ∀ g' i', 8 * g' + i' ≠ 8 * g + i → d'.evCnt g' i' = d.evCnt g' i'

/-- Events: event i of group g counted once, modulo 2^32, and no other (R437). -/
def Dev.raised (g i : Nat) (d d' : Dev) : Prop := d'.evCnt g i = d.evCnt g i + 1 ∧ d.otherEvents g i d'

/-- Port counter i of port n in the live set (R330). -/
def portCnt (d : Dev) (n i : Nat) : Nat := tget 0 d.stat.live ((0xC10000 + 0x800 * n + 8 * i) / 8)
/-- Queue counter i of queue q of port n in the live set. -/
def queueCnt (d : Dev) (n q i : Nat) : Nat := tget 0 d.stat.live ((0xC40000 + 0x400 * n + 0x40 * q + 8 * i) / 8)
/-- Block counter i of block b in the live set. -/
def blkCnt (d : Dev) (b i : Nat) : Nat := tget 0 d.stat.live ((0xC60000 + 0x800 * b + 8 * i) / 8)
/-- Device counter i in the live set. -/
def devCnt (d : Dev) (i : Nat) : Nat := tget 0 d.stat.live ((0xC70000 + 8 * i) / 8)

/-! ## What a scheduler decision leaves -/

/-- What no scheduler decision changes of a port: everything but its queues, its transmission, its shaper buckets,
its virtual times, its watchdogs, its waiting flow-control frames and which of its queues spill. -/
def PortSt.still (p : PortSt) : PortSt :=
  { p with queues := [], tx := none, preempted := none, bkt := [], bktAt := [], vtime := 0, fprev := [], wd := [],
           flowQ := [], spill := [] }

/-- A port before and after a decision: what stands still does, and so do the holds of its watchdogs. -/
def PortSt.calm (p p' : PortSt) : Prop :=
  p'.still = p.still ∧ ∀ k, (p'.dog k).hold = (p.dog k).hold ∧ (p'.dog k).ignore = (p.dog k).ignore

/-- The parts that a scheduler decision may change (R249, R250). -/
def egressParts : List Part := [.evt, .stat, .pmu, .ports, .blks, .asms, .copies, .loft, .gut, .twin]

/-- Two devices differ only in what scheduler decisions change and the parts of the list: of the ports what is not
calm, and neither an event of a group below 112 (the ports and clusters) nor a port counter below 55. -/
def Dev.decided (l : List Part) (d d' : Dev) : Prop :=
  d.sameBut (egressParts ++ l) d' ∧ (∀ m, (d.port m).calm (d'.port m)) ∧
    (∀ g i, g < 112 → i < 8 → d'.evCnt g i = d.evCnt g i) ∧ ∀ m i, m < 96 → i < 55 → portCnt d' m i = portCnt d m i

/-! ## Gristo threads -/

/-- A bit of a byte string, bit 0 the most significant of the first byte; 0 beyond its end (R99). -/
def bitAt (l : List Byte) (p : Nat) : Bool := (l.getD (p / 8) 0).getLsbD (7 - p % 8)

/-- Thread `th` holds frame i, its engine issues from it now, no bound of R78 or R80 stops it, and its next word has
the opcode, one that the device decodes. -/
def State.issuesWord (s : State) (th : ThreadId) (op i : Nat) : Prop :=
  (s.dev.thread (ThreadId.key th)).frame = some i ∧ issues s.env s.dev (ThreadId.key th) = true ∧
    bounded s.dev (ThreadId.key th) (s.dev.thread (ThreadId.key th)) = none ∧
    fOp (nextWord s.dev (s.dev.thread (ThreadId.key th))) = op ∧
    opDefined (s.dev.prog (s.dev.thread (ThreadId.key th)).slot).compat op = true

/-- Word pc stands in the image that thread `th` runs. -/
def State.inImage (s : State) (th : ThreadId) (pc : Nat) : Prop :=
  pc < (s.dev.prog (s.dev.thread (ThreadId.key th)).slot).words.length

/-- Thread `th` has gone on at word pc, with its registers and windows those of x' and its frame f': it has issued one
instruction more, a taken transfer counts for two slots and holds it one cycle longer (R67, R78, R80, R103). No other
thread or frame differs. -/
def State.goesOn (s t : State) (th : ThreadId) (i pc : Nat) (taken : Bool) (x' : Thread) (f' : Frame) : Prop :=
  let k := ThreadId.key th
  let x := s.dev.thread k
  t.dev.thread k = { x' with
    issued := x.issued + 1
    slots := x.slots + (if taken then 2 else 1)
    pc := pc
    readyAt := s.env.cycle + (if taken then 2 else 1) } ∧
  t.dev.frame i = f' ∧ (∀ j, j ≠ k → t.dev.thread j = s.dev.thread j) ∧ (∀ j, j ≠ i → t.dev.frame j = s.dev.frame j)

/-- A thread whose instruction has written r to g[d] and set the flags: g0 keeps reading zero, in compatibility mode
writes to g16-g31 are discarded (R68, R95), and nothing else of the thread differs. -/
def Thread.wroteReg (compat : Bool) (d : Nat) (r : BitVec 32) (z n c v : Bool) (x x' : Thread) : Prop :=
  (∀ j, x'.getG j = if j = d ∧ d ≠ 0 ∧ ¬ (compat = true ∧ 16 ≤ d) then r.toNat else x.getG j) ∧
    x'.z = z ∧ x'.n = n ∧ x'.c = c ∧ x'.v = v ∧
    x' = { x with g := x'.g, z := x'.z, n := x'.n, c := x'.c, v := x'.v }

/-- Thread `th` may send a tagged operation: its tag exists and has nothing outstanding, and a Bedrock frame has
lookups left (R80, R111). -/
def State.maySend (s : State) (th : ThreadId) : Prop :=
  let x := s.dev.thread (ThreadId.key th)
  let w := nextWord s.dev x
  fCs w < tagCnt (s.dev.prog x.slot).compat ∧ ¬ (x.bedrock = true ∧ 3 ≤ x.lookups) ∧ (x.tag (fCs w)).req = none

/-- Thread `th` has sent a tagged operation under the next number and gone on (R111). -/
def State.asks (s t : State) (th : ThreadId) (i : Nat) (kind : LkKind) : Prop :=
  let x := s.dev.thread (ThreadId.key th)
  let w := nextWord s.dev x
  let n := s.dev.slate.nextReq
  s.goesOn t th i (x.pc + 1) false { x.setTag (fCs w) { req := some n } with lookups := x.lookups + 1 } (s.dev.frame i) ∧
    tfind t.dev.slate.reqs n = some { thread := ThreadId.key th, tag := fCs w, kind := kind, since := s.env.third } ∧
    (∀ j, j ≠ n → tfind t.dev.slate.reqs j = tfind s.dev.slate.reqs j) ∧ t.dev.slate.nextReq = n + 1

/-- Words of a metadata block outside the list stand. -/
def mdKept (l : List Nat) (md md' : BitVec 512) : Prop := ∀ k, k < 16 → k ∉ l → mdGet md' k 31 0 = mdGet md k 31 0

/-! ## Commands (R393, R394) -/

/-- The completion of slot k's command with a status and results (R394). -/
def Dev.cplOf (e : Env) (d : Dev) (k status : Nat) (rs : List Nat) : Cpl :=
  let x := d.slot k
  let w0 := (x.desc.getD 0 0).toNat
  { slots := [k], handle := handleOf d k, status := status, devid := x.member.getD (devId e), tag := x.desc.getD 1 0,
    opcode := bits w0 31 24, irq := bit w0 23, results := rs.map w32 }

/-- The command of slot k has finished: its completion waits last in finishing order; of a command that the head of the
device's group sent, the completion's words are kept for its member slot and the slot is free (R394, R406). No other slot
differs. -/
def Dev.finishes (e : Env) (k status : Nat) (rs : List Nat) (d d' : Dev) : Prop :=
  (if (d.slot k).forHead then
     d'.cmd.cpls = d.cmd.cpls ∧ (d'.slot k).used = false ∧ ∀ ms, acceptedAt d k = some ms →
       (tget { gen := 0, slot := 0, body := none } d'.cmd.accepted ms).body =
         some ((cplWords false d.cmd.epoch (d.cplOf e k status rs)).flatMap (natBE 4))
   else
     d'.cmd.cpls = d.cmd.cpls ++ [d.cplOf e k status rs] ∧ (d'.slot k).used = true ∧ (d'.slot k).running = false ∧
       (d'.slot k).finished = true) ∧
  ∀ j, j ≠ k → d'.slot j = d.slot j

/-- The parts that finishing the command of slot k changes: the answer to the head goes out as a host frame. -/
def Dev.cplParts (d : Dev) (k : Nat) : List Part :=
  .cmd :: (if (d.slot k).forHead then [.evt, .stat, .pmu, .blks, .frames, .sends, .gut] else [])

/-! ## Canonical forms -/

/-- The keys of a table rise strictly from `lo`. -/
def Tbl.risesFrom {α : Type} : Nat → Tbl α → Bool
  | _, [] => true
  | lo, (k, _) :: r => decide (lo ≤ k) && Tbl.risesFrom (k + 1) r

/-- The entries of two tables whose keys are chosen have changed places (R264). -/
def Tbl.exchanged {α : Type} (sel : Nat → Bool) (a b a' b' : Tbl α) : Prop :=
  ∀ j, (sel j = false → tfind a' j = tfind a j ∧ tfind b' j = tfind b j) ∧
    (sel j = true → thas a' j = thas b j ∧ thas b' j = thas a j ∧ (∀ v, tfind a' j = some v → (j, v) ∈ b) ∧
      ∀ v, tfind b' j = some v → (j, v) ∈ a)

/-- The invariant of every step: the memories and the register tables are canonical, no scope has two writes waiting
(R432, R434), the four Quartz domains stand, and LT has not started later than now (R286). -/
structure State.Inv (s : State) : Prop where
  host : Memory.wf s.host = true
  loft : Memory.wf s.loft = true
  hpt : Tbl.risesFrom 0 s.hpt = true
  vals : Tbl.risesFrom 0 s.env.regs.vals = true
  active : Tbl.risesFrom 0 s.env.regs.active = true
  tvB : Tbl.risesFrom 0 s.env.regs.tvB = true
  tvC : Tbl.risesFrom 0 s.env.regs.tvC = true
  staged : Tbl.risesFrom 0 s.env.regs.staged = true
  posted : s.env.regs.posted.Pairwise (fun x y => x.scope ≠ y.scope)
  doms : s.env.doms.length = 4
  clock : ∀ b, s.env.ltBase = some b → b ≤ s.env.third

end Sys2Proof.Machine
end

