-- ==== Sys2Proof/Certificates/Slice0/Obligations.lean ====
section
/-! DEFINITION. The statements: what the numbered rules of spec/ say that the commands and the machine do. -/
open Sys2Proof Sys2Proof.Machine

/-! ## Ports and the MAC (chapter 02) -/

/-- A frame's reception at a network port (R32, R39, R41, R58): FRAME_RECEIVE_START, FRAME_RECEIVE_END and
FRAGMENT_RECEIVE. A critical port reserves the tiles of its longest frame or takes none of the frame; a frame that is given
tiles enters the port's input block and waits for a dispatch entry. A frame received whole is counted, and one received in
fragments is held until its last. -/
def Obligations.FrameReception : Prop :=
  (∀ (s : State) (n : Fin 96) (bytes : List Byte) (ce : Bool), rxOpen s.dev n = true → (s.dev.port n).rx = none → bytes ≠ [] →
    ∃ t rx, exec (.frameReceiveStart n bytes ce) s = .next t ∧ (t.dev.port n).rx = some rx ∧ rx.bytes = bytes ∧
      rx.codeErr = ce ∧ rx.startAt = s.env.third ∧
      (takesFrames s.env s.dev = true → isMacCtl bytes = false → isCritical s.env n = true →
        let b := blkOf n
        let pool := inPool s.env b (lpOf n) (classOf s.env b (lpOf n) (body (bytes.take (maxLen s.env n))))
        let full := ceilDiv (maxLen s.env n) 256
        if poolGrants s.env s.dev b pool full then
          poolC t.dev b pool = poolC s.dev b pool + full ∧ rx.ovf = false ∧
            (lowestFree (s.dev.blk b).alloc 0 < 32768 → rx.frame = some s.dev.nextFrame)
        else poolC t.dev b pool = poolC s.dev b pool ∧ rx.ovf = true ∧ rx.frame = none ∧
          portCnt t.dev n 57 = (portCnt s.dev n 57 + 1) % 2 ^ 48) ∧
      (takesFrames s.env s.dev = true → isMacCtl bytes = false → lowestFree (s.dev.blk (blkOf n)).alloc 0 < 32768 →
        poolGrants s.env s.dev (blkOf n)
            (inPool s.env (blkOf n) (lpOf n) (classOf s.env (blkOf n) (lpOf n) (body (bytes.take (maxLen s.env n)))))
            (if isCritical s.env n then ceilDiv (maxLen s.env n) 256 else 1) = true →
        rx.frame = some s.dev.nextFrame ∧ thas t.dev.frames s.dev.nextFrame = true ∧
          (t.dev.frame s.dev.nextFrame).inPort = n ∧ (t.dev.frame s.dev.nextFrame).stage = .waiting ∧
          s.dev.nextFrame ∈ (t.dev.blk (blkOf n)).waitGen ++ (t.dev.blk (blkOf n)).waitBr) ∧
      s.sameBut [.evt, .stat, .pmu, .ports, .blks, .frames] t ∧ s.dev.otherPorts n t.dev) ∧
  (∀ (s : State) (n : Fin 96) (rx : RxSt), (s.dev.port n).rx = some rx →
    ∃ t, exec (.frameReceiveEnd n) s = .next t ∧ (t.dev.port n).rx = none ∧
      (rx.frame = none → rx.ovf = false → isMacCtl rx.bytes = false →
        rxVerdict (maxLen s.env n) rx.bytes rx.codeErr = ([], true) →
        portCnt t.dev n 0 = (portCnt s.dev n 0 + 1) % 2 ^ 48 ∧
          portCnt t.dev n 1 = (portCnt s.dev n 1 + rx.bytes.length) % 2 ^ 48) ∧
      (∀ i, rx.frame = some i → rx.ovf = false → isMacCtl rx.bytes = false → thas s.dev.frames i = true →
        rxVerdict (maxLen s.env n) rx.bytes rx.codeErr = ([], true) → (s.dev.frame i).stage ≠ .released →
        ((s.dev.frame i).stage = .waiting → (s.dev.frame i).pass = 0 →
          (verAt s.env s.dev (s.dev.frame i).ts).isSome = true) →
        (t.dev.frame i).rxDone = true ∧ (t.dev.frame i).bad = (s.dev.frame i).bad) ∧
      (∀ c, rx.frame = none → rx.ovf = false → rxVerdict (maxLen s.env n) rx.bytes rx.codeErr = ([c], false) →
        portCnt t.dev n c = (portCnt s.dev n c + 1) % 2 ^ 48) ∧
      s.sameBut (egressParts ++ [.frames, .sends, .free]) t) ∧
  (∀ (s : State) (n : Fin 96) (fr : Fragment), rxOpen s.dev n = true →
    ∃ t, exec (.fragmentReceive n fr) s = .next t ∧ (t.dev.port n).rxFrag = true ∧
      (fr.start = true → fr.mcrcOk = true → fr.final = false →
        ∃ r, (t.dev.port n).reasm = some r ∧ r.data = fr.data ∧ r.next = 0 ∧ r.stamp = rxStamp s.env n) ∧
      (∀ r, fr.start = false → (s.dev.port n).reasmDead = false → (s.dev.port n).reasm = some r →
        fr.count.toNat = r.next → fr.mcrcOk = true → fr.final = false →
        ∃ r', (t.dev.port n).reasm = some r' ∧ r'.data = r.data ++ fr.data ∧ r'.next = (r.next + 1) % 4 ∧
          r'.stamp = r.stamp) ∧
      (∀ r, fr.start = false → (s.dev.port n).reasmDead = false → (s.dev.port n).reasm = some r →
        fr.count.toNat = r.next → fr.mcrcOk = true → fr.final = true → takesFrames s.env s.dev = false →
        r.tiles = [] → r.ovf = false → isMacCtl (r.data ++ fr.data) = false →
        rxVerdict (maxLen s.env n) (r.data ++ fr.data) (r.codeErr || fr.codeErr) = ([], true) →
        (t.dev.port n).reasm = none ∧ portCnt t.dev n 0 = (portCnt s.dev n 0 + 1) % 2 ^ 48) ∧
      (fr.start = false → (s.dev.port n).reasmDead = false → (s.dev.port n).reasm = none →
        (t.dev.port n).reasm = none ∧ portCnt t.dev n 60 = (portCnt s.dev n 60 + 1) % 2 ^ 48) ∧
      s.sameBut (egressParts ++ [.frames, .sends, .free]) t)

/-- A port's enable, its link and auto-negotiation (R28, R63, R64, R266, R267, R268, R456): PORT_ENABLE and PORT_DISABLE write
the register's writable bits; a port that its block's mode forms is enabled; a disabled one loses its link at once, with a
hold of zero. LINK_DOWN, LINK_UP and LINK_HOLD_EXPIRE; AN_RESTART and AUTONEG_END. -/
def Obligations.PortLinks : Prop :=
  (∀ (s : State) (n : Fin 96) (cfg : Word), s.scopeFree (blkOf n) →
    (portPresent s.dev n = true ∨ (s.dev.port n).enabled = false) →
    ∃ t, exec (.portEnable n cfg) s = .next t ∧ (portPresent s.dev n = true → (t.dev.port n).enabled = true) ∧
      s.wrote (pbReg n 0)
        ((s.env.reg (pbReg n 0) &&& (0xFFFFFFFF ^^^ 0x3F3)) ||| (setBits cfg.toNat 0 0 1 &&& 0x3F3)) [.ports, .pwr] t ∧
      s.dev.otherPorts n t.dev) ∧
  (∀ (s : State) (n : Fin 96) (cfg : Word), s.scopeFree (blkOf n) → (s.dev.port n).enabled = true →
    ∃ t, exec (.portDisable n cfg) s = .next t ∧ (t.dev.port n).enabled = false ∧ (t.dev.port n).an = 0 ∧
      (t.dev.port n).lt = 0 ∧
      ((s.dev.port n).link = true → (t.dev.port n).link = false ∧ (t.dev.port n).flushing = true ∧
        (t.dev.port n).downHold = false ∧ (t.dev.port n).tx = none) ∧
      s.wrote (pbReg n 0)
        ((s.env.reg (pbReg n 0) &&& (0xFFFFFFFF ^^^ 0x3F3)) ||| (setBits cfg.toNat 0 0 0 &&& 0x3F3))
        (egressParts ++ [.frames, .sends, .free, .pwr, .qtz]) t) ∧
  (∀ (s : State) (n : Fin 96) (remote : Bool), (s.dev.port n).link = true →
    ∃ t, exec (.linkDown { port := n, remote := remote }) s = .next t ∧ (t.dev.port n).link = false ∧
      (t.dev.port n).localFault = !remote ∧ (t.dev.port n).remoteFault = remote ∧ (t.dev.port n).tx = none ∧
      (t.dev.port n).preempted = none ∧ (t.dev.port n).pause = [] ∧
      (linkHold s.env n ≠ 0 → (t.dev.port n).downHold = true ∧ (t.dev.port n).flushing = (s.dev.port n).flushing ∧
        (t.dev.port n).holdEnd = s.env.third + us (linkHold s.env n)) ∧
      (linkHold s.env n = 0 → (t.dev.port n).downHold = false ∧ (t.dev.port n).flushing = true) ∧
      s.sameBut (egressParts ++ [.frames, .sends, .free, .qtz]) t) ∧
  (∀ (s : State) (n : Fin 96) (sg : Fin 3), (s.dev.port n).link = false → (s.dev.port n).enabled = true →
    (s.dev.port n).an ≠ 1 → (s.dev.port n).an ≠ 3 → portLanes s.dev n ≠ [] →
    (∀ L ∈ portLanes s.dev n, unitOn s.dev (32 + L) = true) →
    ∃ t, exec (.linkUp n sg) s = .next t ∧ (t.dev.port n).link = true ∧ (t.dev.port n).localFault = false ∧
      (t.dev.port n).downHold = false ∧ (t.dev.port n).flushing = false ∧ (t.dev.port n).sgmii = sg ∧
      t.dev.evCnt n 0 = s.dev.evCnt n 0 + 1 ∧ s.sameBut (egressParts ++ [.qtz]) t) ∧
  (∀ (s : State) (n : Fin 96), (s.dev.port n).downHold = true → (s.dev.port n).link = false →
    (s.dev.port n).holdEnd / 3 < s.env.third / 3 →
    ∃ t, exec (.linkHoldExpire n) s = .next t ∧ (t.dev.port n).downHold = false ∧ (t.dev.port n).flushing = true ∧
      t.dev.evCnt n 5 = s.dev.evCnt n 5 + 1 ∧ s.sameBut egressParts t) ∧
  (∀ (s : State) (n : Fin 96), s.scopeFree (blkOf n) → (s.dev.port n).enabled = true →
    ∃ t, exec (.anRestart n) s = .next t ∧ (t.dev.port n).link = false ∧
      (t.dev.port n).an = (if s.env.b (pbReg n 0x50) 0 && (decide (n.val < 64) || decide (2 ≤ (s.dev.port n).fieldMode))
        then 1 else 0) ∧
      (t.dev.port n).lt = (if s.env.b (pbReg n 0x50) 1 && decide (n.val < 64) then 1 else 0) ∧
      s.wrote (pbReg n 0x50) (s.env.reg (pbReg n 0x50)) (egressParts ++ [.frames, .sends, .free, .qtz]) t) ∧
  (∀ (s : State) (n : Fin 96) (sg : Fin 3), (s.dev.port n).an = 1 →
    ∃ t, exec (.autonegEnd n false sg) s = .next t ∧ (t.dev.port n).an = 3 ∧
      s.dev.raised n 4 t.dev ∧ s.sameBut [.evt, .pmu, .ports] t ∧ s.dev.otherPorts n t.dev) ∧
  (∀ (s : State) (n : Fin 96) (sg : Fin 3), (s.dev.port n).an = 1 →
    ∃ t, exec (.autonegEnd n true sg) s = .next t ∧ (t.dev.port n).an = 2 ∧ s.sameBut (egressParts ++ [.qtz]) t)

/-- Cut-through underrun and its release (R44, R45): the frame is stomped and counted, the threshold rises by its step,
and at its maximum store-and-forward is forced; CT_RELEASE restores the threshold. -/
def Obligations.CutThroughUnderrun : Prop :=
  (∀ (s : State) (n : Fin 96) (x : Tx), (s.dev.port n).tx = some x → x.flow = none → x.ct = true →
    txEnding s.env s.dev n x = false → copyWhole (s.dev.copy x.copy) (s.dev.copyAsm x.copy) = false →
    copyBytesIn (s.dev.copy x.copy) (s.dev.copyAsm x.copy) ≤ x.sentBefore + txSent s.env s.dev n x →
    ∃ t x', exec (.underrun n) s = .next t ∧
      (t.dev.port n).tx = some x' ∧ x'.stomp = some (x.sentBefore + txSent s.env s.dev n x) ∧
      portCnt t.dev n 55 = (portCnt s.dev n 55 + 1) % 2 ^ 48 ∧ portCnt t.dev n 56 = (portCnt s.dev n 56 + 1) % 2 ^ 48 ∧
      (let mx := max 2 (s.env.f (pbReg n 0x20) 29 24)
       if (s.dev.port n).curThresh < mx then
         (t.dev.port n).curThresh = min mx ((s.dev.port n).curThresh + s.env.f (pbReg n 0x20) 19 16) ∧
           (t.dev.port n).sfForced = (s.dev.port n).sfForced
       else (t.dev.port n).curThresh = mx ∧ (t.dev.port n).sfForced = true) ∧
      s.sameBut [.evt, .stat, .pmu, .ports] t ∧ s.dev.otherPorts n t.dev) ∧
  (∀ (s : State) (n : Fin 96), s.scopeFree (blkOf n) →
    ∃ t, exec (.ctRelease n) s = .next t ∧ (t.dev.port n).curThresh = max 1 (s.env.f (pbReg n 0x20) 13 8) ∧
      (t.dev.port n).sfForced = false ∧ s.sameBut egressParts t)

/-- Received flow control and its watchdogs (R46, R48, R50, R52, R53): PAUSE_FRAME_RECEIVE loads timer 8 where the port
answers PAUSE, PFC_FRAME_RECEIVE the timers of the enabled priorities and never the Bedrock priority's, PAUSE_TIMER_EXPIRE
ends one. A watchdog's trip begins its hold, in ignore or discard mode, and raises its event; the hold ends. -/
def Obligations.PauseReception : Prop :=
  (∀ (s : State) (n : Fin 96) (q : BitVec 16), rxOpen s.dev n = true →
    ∃ t, exec (.pauseFrameReceive n q) s = .next t ∧
      (∀ k, k < 9 → tget 0 (t.dev.port n).pause k =
        if k = 8 ∧ s.env.b (pbReg n 0) 9 = true ∧ s.env.f (pbReg n 0x30) 15 8 = 0 ∧
            ¬ (wdHolding s.env (s.dev.port n) 8 = true ∧ ((s.dev.port n).dog 8).ignore = true)
        then (if q.toNat = 0 then 0 else s.env.third + quantaTime q.toNat (portRate s.dev n))
        else tget 0 (s.dev.port n).pause k) ∧
      s.sameBut egressParts t) ∧
  (∀ (s : State) (n : Fin 96) (vec : BitVec 8) (times : List (BitVec 16)), rxOpen s.dev n = true →
    ∃ t, exec (.pfcFrameReceive n vec times) s = .next t ∧
      (∀ k, k < 8 → tget 0 (t.dev.port n).pause k =
        if bit vec.toNat k = true ∧ k ≠ bedrockPri s.env n ∧ bit (s.env.f (pbReg n 0x30) 15 8) k = true ∧
            ¬ (wdHolding s.env (s.dev.port n) k = true ∧ ((s.dev.port n).dog k).ignore = true)
        then (let q := (times.getD k 0).toNat
              if q = 0 then 0 else s.env.third + quantaTime q (portRate s.dev n))
        else tget 0 (s.dev.port n).pause k) ∧
      s.sameBut egressParts t) ∧
  (∀ (s : State) (n : Fin 96) (k : Fin 9), tget 0 (s.dev.port n).pause k ≠ 0 →
    tget 0 (s.dev.port n).pause k ≤ s.env.third →
    ∃ t, exec (.pauseTimerExpire n k) s = .next t ∧
      (∀ j, tget 0 (t.dev.port n).pause j = if j = k then 0 else tget 0 (s.dev.port n).pause j) ∧ s.sameBut egressParts t) ∧
  (∀ (s : State) (n : Fin 96) (k : Fin 9), bit (wdReg s.env n k) 31 = true → wdHolding s.env (s.dev.port n) k = false →
    ms (clamp 1 10000 (bits (wdReg s.env n k) 13 0)) ≤ (((dogsUpdate s.env n s.dev).port n).dog k).run →
    ∃ t, exec (.pauseWatchdogTrip n k) s = .next t ∧
      ((t.dev.port n).dog k).hold = some (s.env.third + ms (clamp 1 60000 (bits (wdReg s.env n k) 29 14))) ∧
      ((t.dev.port n).dog k).ignore = bit (wdReg s.env n k) 30 ∧
      (bit (wdReg s.env n k) 30 = true → tget 0 (t.dev.port n).pause k = 0) ∧
      t.dev.evCnt n 1 = s.dev.evCnt n 1 + 1 ∧ s.sameBut egressParts t) ∧
  (∀ (s : State) (n : Fin 96) (k : Fin 9) (h : Nat), ((s.dev.port n).dog k).hold = some h → h ≤ s.env.third →
    ∃ t, exec (.watchdogHoldEnd n k) s = .next t ∧ ((t.dev.port n).dog k).hold = none ∧
      ((t.dev.port n).dog k).run = 0 ∧ s.sameBut [.ports] t ∧ s.dev.otherPorts n t.dev)

/-- Sent flow control (R51): FLOW_CONTROL_SEND asks for a pause when a pool of the key has reached W1 and none is
outstanding, and for a pause time of zero when all have dropped below; FLOW_CONTROL_REPEAT renews an outstanding one.
While the transmitter is busy the frame waits before every queue. -/
def Obligations.FlowControlSending : Prop :=
  (∀ (s : State) (n : Fin 96) (k : Fin 9), flowOn s.env n k = true → txAllowed s.env s.dev n = true →
    flowWants s.env s.dev n k = true → tget 0 (s.dev.port n).xoff k = 0 →
    ∃ t, exec (.flowControlSend n k) s = .next t ∧ tget 0 (t.dev.port n).xoff k = s.env.third + 1 ∧
      ((s.dev.port n).tx.isSome = true →
        (t.dev.port n).flowQ = (s.dev.port n).flowQ ++ [(k.val, txQuanta s.env n)]) ∧ s.sameBut egressParts t) ∧
  (∀ (s : State) (n : Fin 96) (k : Fin 9), flowOn s.env n k = true → txAllowed s.env s.dev n = true →
    flowWants s.env s.dev n k = false → tget 0 (s.dev.port n).xoff k ≠ 0 →
    ∃ t, exec (.flowControlSend n k) s = .next t ∧ tget 0 (t.dev.port n).xoff k = 0 ∧
      ((s.dev.port n).tx.isSome = true → (t.dev.port n).flowQ = (s.dev.port n).flowQ ++ [(k.val, 0)]) ∧
      s.sameBut egressParts t) ∧
  (∀ (s : State) (n : Fin 96) (k : Fin 9), flowOn s.env n k = true → txAllowed s.env s.dev n = true →
    flowWants s.env s.dev n k = true → tget 0 (s.dev.port n).xoff k ≠ 0 →
    tget 0 (s.dev.port n).xoff k + quantaTime (txQuanta s.env n) (portRate s.dev n) / 2 ≤ s.env.third + 1 →
    ∃ t, exec (.flowControlRepeat n k) s = .next t ∧ tget 0 (t.dev.port n).xoff k = s.env.third + 1 ∧
      ((s.dev.port n).tx.isSome = true →
        (t.dev.port n).flowQ = (s.dev.port n).flowQ ++ [(k.val, txQuanta s.env n)]) ∧ s.sameBut egressParts t)

/-- The preemption handshake (R56): PREEMPT_VERIFY_TIMER sends the next of three verify frames or fails,
PREEMPT_VERIFY_RESPONSE makes preemption active. -/
def Obligations.PreemptionHandshake : Prop :=
  (∀ (s : State) (n : Fin 96), (s.dev.port n).preState = 1 → txAllowed s.env s.dev n = true →
    ((s.dev.port n).verifySent = 0 ∨ (s.dev.port n).verifyAt + ms (verifyMs s.env n) ≤ s.env.third) →
    ∃ t, exec (.preemptVerifyTimer n) s = .next t ∧
      (if (s.dev.port n).verifySent < 3 then
         (t.dev.port n).verifySent = (s.dev.port n).verifySent + 1 ∧ (t.dev.port n).verifyAt = s.env.third ∧
           (t.dev.port n).preState = 1 ∧ t.dev.evt = s.dev.evt
       else (t.dev.port n).preState = 3 ∧ s.dev.raised n 3 t.dev) ∧
      s.sameBut [.evt, .pmu, .ports] t ∧ s.dev.otherPorts n t.dev) ∧
  (∀ (s : State) (n : Fin 96), (s.dev.port n).preState = 1 → (s.dev.port n).verifySent ≠ 0 →
    ∃ t, exec (.preemptVerifyResponse n) s = .next t ∧ (t.dev.port n).preState = 2 ∧ s.sameBut egressParts t)

/-- The MDIO buses (R62): a command starts on an idle bus and is dropped and counted on a busy one; its end comes 64
periods of MDC later and delivers what was read. -/
def Obligations.MdioOperations : Prop :=
  (∀ (s : State) (bus : Fin 2) (cmd : Word),
    ∃ t, exec (.mdioGo bus cmd) s = .next t ∧
      (let m := tget {} s.dev.mdio bus
       let m' := tget {} t.dev.mdio bus
       if m.busy then m' = { m with drops := min 255 (m.drops + 1) }
       else m' = { m with busy := true, cmd := w32 (setBits cmd.toNat 31 31 1), since := s.env.third }) ∧
      s.wrote (pbBlk bus 0x9000)
        ((s.env.reg (pbBlk bus 0x9000) &&& (0xFFFFFFFF ^^^ 0x7FFCFFFF)) ||| (setBits cmd.toNat 31 31 1 &&& 0x7FFCFFFF))
        [.mdio] t) ∧
  (∀ (s : State) (bus : Fin 2) (r : BitVec 16), (tget {} s.dev.mdio bus).busy = true →
    (tget {} s.dev.mdio bus).since + ns 25600 ≤ s.env.third →
    ∃ t, exec (.mdioOperationEnd bus r) s = .next t ∧ (tget {} t.dev.mdio bus).busy = false ∧
      (mdioReads (tget {} s.dev.mdio bus).cmd.toNat = true → (tget {} t.dev.mdio bus).rdata = r.toNat) ∧
      (mdioReads (tget {} s.dev.mdio bus).cmd.toNat = false →
        (tget {} t.dev.mdio bus).rdata = (tget {} s.dev.mdio bus).rdata) ∧
      s.sameBut [.mdio] t)

/-! ## Dispatch and engines (chapter 03) -/

/-- DISPATCH_ENTRY_WRITE (R85, R88): the oldest frame that is ready and needs an entry of a kind takes a free one; where
there is none it is counted as waiting. ENGINE_ROLE_CHANGE (R84): an engine with idle threads takes its new role. -/
def Obligations.DispatchEntries : Prop :=
  (∀ (s : State) (b : Fin 16) (br : Bool) (i : Nat), (entryCands s.env s.dev b br).head? = some i →
    (s.dev.blk b).sieve.length < 1024 →
    (let q := if br then (s.dev.blk b).dispBr else (s.dev.blk b).dispGen
     if (if br then 32 else 224) ≤ q.length then
       ∃ t, exec (.dispatchEntryWrite b br) s = .next t ∧ (t.dev.frame i).waitCounted = true ∧
         (t.dev.blk b).dispBr = (s.dev.blk b).dispBr ∧ (t.dev.blk b).dispGen = (s.dev.blk b).dispGen ∧
         s.sameBut [.frames, .evt, .stat, .pmu] t
     else ((s.dev.frame i).inSieve = true ∨ (∃ v, bearsVer s.env s.dev (s.dev.frame i) = some v) ∧
         ¬ ((s.dev.frame i).rxDone = true ∧ isBatten s.env (s.dev.frame i).bytes = true)) →
       ∃ t, exec (.dispatchEntryWrite b br) s = .next t ∧
         (if br then (t.dev.blk b).dispBr else (t.dev.blk b).dispGen) = q ++ [i] ∧
         (t.dev.frame i).stage = .entry ∧ (t.dev.frame i).entryAt = s.env.third ∧
         s.sameBut [.frames, .blks, .evt, .stat, .pmu] t ∧ s.dev.otherBlks b t.dev)) ∧
  (∀ (s : State) (c : Fin 16) (g : Fin 32), engReserved s.dev c g ≠ engWanted s.env c g →
    (∀ h, h < 4 → thFree s.env s.dev (thNum c g h) = true) →
    ∃ t, exec (.engineRoleChange c g) s = .next t ∧
      (∀ j, j < 32 → engReserved t.dev c j = if j = g then engWanted s.env c g else engReserved s.dev c j) ∧
      s.sameBut [.blks] t ∧ s.dev.otherBlks c t.dev)

/-- THREAD_DISPATCH hands the oldest entry to a free thread of the chosen engine, STEAL a neighbour's oldest entry to a
thief's (R79, R85-R87): the thread starts at its slot's entry, 8 cycles later, or 20 after a steal. -/
def Obligations.ThreadDispatch : Prop :=
  (∀ (s : State) (c : Fin 16) (br : Bool) (i g h sl : Nat),
    (if br then (s.dev.blk c).dispBr else (s.dev.blk c).dispGen).head? = some i →
    (if br then (s.dev.blk c).handBr else (s.dev.blk c).handGen) ≠ s.env.cycle + 1 → unitOn s.dev c = true →
    engineFor s.env s.dev c br = some g → freeThread s.env s.dev c g = some h → slotOf s.dev (s.dev.frame i).ver = some sl →
    ∃ t, exec (.threadDispatch c br) s = .next t ∧
      (let x := t.dev.thread (thNum c g h)
       x.frame = some i ∧ x.slot = sl ∧ x.bedrock = br ∧ x.readyAt = s.env.cycle + 8 ∧
         x.pc = (if br then (s.dev.prog sl).brEntry else (s.dev.prog sl).entry) ∧ x.issued = 0 ∧ x.slots = 0 ∧
         x.winLen = min 256 (s.dev.frame i).bytes.length) ∧
      (t.dev.frame i).stage = .running ∧
      (if br then (t.dev.blk c).dispBr else (t.dev.blk c).dispGen) =
        (if br then (s.dev.blk c).dispBr else (s.dev.blk c).dispGen).drop 1 ∧
      s.sameBut [.threads, .frames, .blks, .evt, .stat, .pmu] t ∧ s.dev.otherBlks c t.dev ∧
      (∀ j, j ≠ thNum c g h → t.dev.thread j = s.dev.thread j)) ∧
  (∀ (s : State) (c : Fin 16) (g : Fin 32) (v i h sl : Nat) (r : List Nat), freeThread s.env s.dev c g = some h →
    stealVictim s.env s.dev c = some v → (s.dev.blk v).dispGen = i :: r → maySteal s.dev c g = true →
    tget 0 (s.dev.blk c).stealLost g ≠ s.env.cycle + 1 →
    localTakes s.env s.dev v = false → slotOf s.dev (s.dev.frame i).ver = some sl →
    ∃ t, exec (.steal c g) s = .next t ∧
      (let x := t.dev.thread (thNum c g h)
       x.frame = some i ∧ x.slot = sl ∧ x.bedrock = false ∧ x.readyAt = s.env.cycle + 20 ∧
         x.pc = (s.dev.prog sl).entry) ∧
      (t.dev.blk v).dispGen = r ∧ blkCnt t.dev v 65 = (blkCnt s.dev v 65 + 1) % 2 ^ 48 ∧
      blkCnt t.dev c 66 = (blkCnt s.dev c 66 + 1) % 2 ^ 48 ∧
      s.sameBut [.threads, .frames, .blks, .evt, .stat, .pmu] t ∧ s.dev.otherBlks v t.dev ∧
      (∀ j, j ≠ thNum c g h → t.dev.thread j = s.dev.thread j))

/-! ## Gristo (chapter 04) -/

/-- The ALU instructions (R105) on 32-bit numbers: ADD, SUB, AND, OR, XOR, SHL, SHR, MIN, MAX, MOV, MOVI, CMP and SEL
write their result and flags and go on at the next word. -/
def Obligations.GristoAlu : Prop :=
  ∀ (s : State) (th : ThreadId) (i : Nat),
    let x := s.dev.thread (ThreadId.key th)
    let w := nextWord s.dev x
    let m := (s.dev.prog x.slot).compat
    let a : BitVec 32 := BitVec.ofNat 32 (x.getG (fS1 w))
    let b : BitVec 32 := BitVec.ofNat 32 (op2 x w)
    let n := op2 x w % 32
    let sg := bit (fSub w) 1
    let keep := [Part.threads, .frames, .blks, .pmu]
    let does := fun (c : Instr) (d : Nat) (r : BitVec 32) (fz fn fc fv : Bool) =>
      ∃ t x', exec c s = .next t ∧ s.goesOn t th i (x.pc + 1) false x' (s.dev.frame i) ∧
        Thread.wroteReg m d r fz fn fc fv x x' ∧ s.sameBut keep t
    s.inImage th (x.pc + 1) →
    (s.issuesWord th 0x01 i → does (.add th) (fD w) (a + b) (a + b == 0) (a + b).msb
      (decide (2 ^ 32 ≤ a.toNat + b.toNat)) (BitVec.saddOverflow a b)) ∧
    (s.issuesWord th 0x02 i → does (.sub th) (fD w) (a - b) (a - b == 0) (a - b).msb
      (decide (b.toNat ≤ a.toNat)) (BitVec.ssubOverflow a b)) ∧
    (s.issuesWord th 0x03 i → does (.and th) (fD w) (a &&& b) (a &&& b == 0) (a &&& b).msb x.c x.v) ∧
    (s.issuesWord th 0x04 i → does (.or th) (fD w) (a ||| b) (a ||| b == 0) (a ||| b).msb x.c x.v) ∧
    (s.issuesWord th 0x05 i → does (.xor th) (fD w) (a ^^^ b) (a ^^^ b == 0) (a ^^^ b).msb x.c x.v) ∧
    (s.issuesWord th 0x06 i → does (.shl th) (fD w) (a <<< n) (a <<< n == 0) (a <<< n).msb
      (n != 0 && a.getLsbD (32 - n)) x.v) ∧
    (s.issuesWord th 0x07 i →
      let r := if sg then a.sshiftRight n else a >>> n
      does (.shr th) (fD w) r (r == 0) r.msb (n != 0 && a.getLsbD (n - 1)) x.v) ∧
    (s.issuesWord th 0x08 i →
      let r := if (if sg then BitVec.sle a b else BitVec.ule a b) then a else b
      does (.min th) (fD w) r (r == 0) r.msb x.c x.v) ∧
    (s.issuesWord th 0x09 i →
      let r := if (if sg then BitVec.sle a b else BitVec.ule a b) then b else a
      does (.max th) (fD w) r (r == 0) r.msb x.c x.v) ∧
    (s.issuesWord th 0x0A i → does (.mov th) (fD w) a (a == 0) a.msb x.c x.v) ∧
    (s.issuesWord th 0x0B i →
      let r := BitVec.ofNat 32 (fImm w)
      does (.movi th) (fD w) r (r == 0) r.msb x.c x.v) ∧
    (s.issuesWord th 0x0C i → does (.cmp th) 0 (a - b) (a - b == 0) (a - b).msb
      (decide (b.toNat ≤ a.toNat)) (BitVec.ssubOverflow a b)) ∧
    (s.issuesWord th 0x0D i → does (.sel th) (fD w) (if condTrue x (fCs w) then a else b) x.z x.n x.c x.v)

/-- The field reads EXT and EXTM (R99, R100, R106): big-endian bits of a space, zero beyond its end; an address relative
to an invalid header gives zero and sets v. -/
def Obligations.GristoFieldReads : Prop :=
  ∀ (s : State) (th : ThreadId) (i : Nat),
    let x := s.dev.thread (ThreadId.key th)
    let f := s.dev.frame i
    let w := nextWord s.dev x
    let m := (s.dev.prog x.slot).compat
    let l := spaceBytes m x f (fSpace w)
    let p := 8 * effAddr { x := x, f := f } w
    s.inImage th (x.pc + 1) → fSpace w ≠ 3 →
    (s.issuesWord th 0x10 i →
      ∃ t x' r, exec (.ext th) s = .next t ∧ s.goesOn t th i (x.pc + 1) false x' f ∧
        Thread.wroteReg m (fD w) r (r == 0) r.msb x.c (badBase f w) x x' ∧
        (badBase f w = true → r = 0) ∧
        (badBase f w = false → ∀ j, j < 32 → r.getLsbD j =
          (decide (j < fWidth w) && bitAt l (p + fBit w + (fWidth w - 1 - j)))) ∧
        s.sameBut [.threads, .frames, .blks, .pmu] t) ∧
    (s.issuesWord th 0x12 i →
      ∃ t x' r, exec (.extm th) s = .next t ∧ s.goesOn t th i (x.pc + 1) false x' f ∧
        Thread.wroteReg m (fD w) r (r == 0) r.msb x.c (badBase f w) x x' ∧
        (badBase f w = true → r = 0) ∧
        (badBase f w = false → ∀ j, j < 32 → r.getLsbD j = (bitAt l (p + (31 - j)) && bit (x.getG (fS2 w)) j)) ∧
        s.sameBut [.threads, .frames, .blks, .pmu] t)

/-- The field writes INS and INSM (R73, R99, R100, R106): the named bits of a space change, of the metadata block only
those a program may write, and nothing else. -/
def Obligations.GristoFieldWrites : Prop :=
  ∀ (s : State) (th : ThreadId) (i : Nat),
    let x := s.dev.thread (ThreadId.key th)
    let f := s.dev.frame i
    let w := nextWord s.dev x
    let m := (s.dev.prog x.slot).compat
    let sp := fSpace w
    let a := effAddr { x := x, f := f } w
    let may := fun q => decide (sp ≠ 1) || bitAt (mdBytes mdWritable) q
    let only := fun (x' : Thread) (f' : Frame) =>
      x' = { x with win := x'.win, scratch := x'.scratch } ∧ f' = { f with md := f'.md } ∧
        ∀ o, o < 3 → o ≠ sp → spaceBytes m x' f' o = spaceBytes m x f o
    s.inImage th (x.pc + 1) → sp ≠ 3 → badBase f w = false →
    (s.issuesWord th 0x11 i → a + fieldBytes (fBit w) (fWidth w) ≤ spaceSize m sp →
      ∃ t x' f', exec (.ins th) s = .next t ∧ s.goesOn t th i (x.pc + 1) false x' f' ∧ only x' f' ∧
        (∀ q, q < 8 * spaceSize m sp → bitAt (spaceBytes m x' f' sp) q =
          if 8 * a + fBit w ≤ q ∧ q < 8 * a + fBit w + fWidth w ∧ may q = true
          then bit (x.getG (fS1 w)) (8 * a + fBit w + fWidth w - 1 - q) else bitAt (spaceBytes m x f sp) q) ∧
        s.sameBut [.threads, .frames, .blks, .pmu] t) ∧
    (s.issuesWord th 0x13 i → a + 4 ≤ spaceSize m sp →
      ∃ t x' f', exec (.insm th) s = .next t ∧ s.goesOn t th i (x.pc + 1) false x' f' ∧ only x' f' ∧
        (∀ q, q < 8 * spaceSize m sp → bitAt (spaceBytes m x' f' sp) q =
          if 8 * a ≤ q ∧ q < 8 * a + 32 ∧ may q = true ∧ bit (x.getG (fS2 w)) (8 * a + 31 - q) = true
          then bit (x.getG (fS1 w)) (8 * a + 31 - q) else bitAt (spaceBytes m x f sp) q) ∧
        s.sameBut [.threads, .frames, .blks, .pmu] t)

/-- The header window's shape (R69, R107-R109): HPUSH inserts zero bytes and HPOP deletes bytes, md.len and the header
index follow, and a length of zero does nothing (R98); HCOPY copies bytes between spaces as if through a buffer. -/
def Obligations.GristoHeaderShape : Prop :=
  ∀ (s : State) (th : ThreadId) (i : Nat),
    let x := s.dev.thread (ThreadId.key th)
    let f := s.dev.frame i
    let w := nextWord s.dev x
    let m := (s.dev.prog x.slot).compat
    let a := effAddr { x := x, f := f } w
    let n := fLen w
    s.inImage th (x.pc + 1) →
    (s.issuesWord th 0x20 i → n = 0 →
      ∃ t, exec (.hpush th) s = .next t ∧ s.goesOn t th i (x.pc + 1) false x f ∧
        s.sameBut [.threads, .frames, .blks, .pmu] t) ∧
    (s.issuesWord th 0x21 i → n = 0 →
      ∃ t, exec (.hpop th) s = .next t ∧ s.goesOn t th i (x.pc + 1) false x f ∧
        s.sameBut [.threads, .frames, .blks, .pmu] t) ∧
    (s.issuesWord th 0x20 i → fSpace w = 0 → badBase f w = false → 1 ≤ n → n ≤ 64 → a ≤ winEnd m x → (m = true → a < 128) →
      x.net + n ≤ 64 →
      ∃ t x' f', exec (.hpush th) s = .next t ∧ s.goesOn t th i (x.pc + 1) false x' f' ∧
        x'.win = x.win.take a ++ zeros n ++ x.win.drop a ∧ x'.winLen = x.winLen + n ∧ x'.net = x.net + n ∧
        x' = { x with win := x'.win, src := x'.src, winLen := x'.winLen, net := x'.net } ∧
        f'.hidx = f.hidx.map (hPush a n) ∧ f'.len = (f.len + n) % 2 ^ 16 ∧
        f' = { f with hidx := f'.hidx, md := f'.md } ∧ s.sameBut [.threads, .frames, .blks, .pmu] t) ∧
    (s.issuesWord th 0x21 i → fSpace w = 0 → badBase f w = false → 1 ≤ n → n ≤ 128 → a + n ≤ winEnd m x →
      -128 ≤ x.net - n →
      ∃ t x' f', exec (.hpop th) s = .next t ∧ s.goesOn t th i (x.pc + 1) false x' f' ∧
        (∀ j, j < 256 → x'.win.getD j 0 = (x.win.take a ++ x.win.drop (a + n)).getD j 0) ∧
        x'.winLen = x.winLen - n ∧ x'.net = x.net - n ∧
        x' = { x with win := x'.win, src := x'.src, winLen := x'.winLen, net := x'.net } ∧
        f'.hidx = f.hidx.map (hPop a n) ∧ f'.len = f.len - n ∧
        f' = { f with hidx := f'.hidx, md := f'.md } ∧ s.sameBut [.threads, .frames, .blks, .pmu] t) ∧
    (s.issuesWord th 0x22 i →
      let k := bits w 15 10 + 1
      let ds := bits w 9 8
      let ss := bits w 7 6
      let dst := (bits w 31 24 + x.getG (fS1 w)) % 2 ^ 32
      let org := (bits w 23 16 + x.getG (fS2 w)) % 2 ^ 32
      ds ≠ 3 → ss ≠ 3 → dst + k ≤ spaceSize m ds →
      ∃ t x' f', exec (.hcopy th) s = .next t ∧ s.goesOn t th i (x.pc + 1) false x' f' ∧
        x' = { x with win := x'.win, scratch := x'.scratch } ∧ f' = { f with md := f'.md } ∧
        (∀ o, o < 3 → o ≠ ds → spaceBytes m x' f' o = spaceBytes m x f o) ∧
        (∀ j, j < 8 * spaceSize m ds → bitAt (spaceBytes m x' f' ds) j =
          if 8 * dst ≤ j ∧ j < 8 * (dst + k) ∧ (ds = 1 → bitAt (mdBytes mdWritable) j = true)
          then bitAt (spaceBytes m x f ss) (8 * org + (j - 8 * dst)) else bitAt (spaceBytes m x f ds) j) ∧
        s.sameBut [.threads, .frames, .blks, .pmu] t)

/-- Control (R103, R110, R85): BR, JMP, CALL and RET go on at their target, a taken transfer within the Bedrock bound;
END ends the pass and frees the thread four cycles later. -/
def Obligations.GristoControl : Prop :=
  ∀ (s : State) (th : ThreadId) (i : Nat),
    let x := s.dev.thread (ThreadId.key th)
    let f := s.dev.frame i
    let w := nextWord s.dev x
    let keep := [Part.threads, .frames, .blks, .pmu]
    let room := ¬ (x.bedrock = true ∧ 158 < x.slots)
    (s.issuesWord th 0x30 i → condTrue x (fCs w) = false → s.inImage th (x.pc + 1) →
      ∃ t, exec (.br th) s = .next t ∧ s.goesOn t th i (x.pc + 1) false x f ∧ s.sameBut keep t) ∧
    (s.issuesWord th 0x30 i → condTrue x (fCs w) = true → room → s.inImage th (fTarget w) →
      ∃ t, exec (.br th) s = .next t ∧ s.goesOn t th i (fTarget w) true x f ∧ s.sameBut keep t) ∧
    (let pc := if bit (fSub w) 0 then x.getG (fS1 w) % 2 ^ 14 else fTarget w
     s.issuesWord th 0x31 i → room → s.inImage th pc →
      ∃ t, exec (.jmp th) s = .next t ∧ s.goesOn t th i pc true x f ∧ s.sameBut keep t) ∧
    (s.issuesWord th 0x32 i → room → x.stack.length < 4 → s.inImage th (fTarget w) →
      ∃ t, exec (.call th) s = .next t ∧
        s.goesOn t th i (fTarget w) true { x with stack := (x.pc + 1) % 2 ^ 14 :: x.stack } f ∧ s.sameBut keep t) ∧
    (∀ pc r, s.issuesWord th 0x33 i → room → x.stack = pc :: r → s.inImage th pc →
      ∃ t, exec (.ret th) s = .next t ∧ s.goesOn t th i pc true { x with stack := r } f ∧ s.sameBut keep t) ∧
    (s.issuesWord th 0x34 i →
      ∃ t, exec (.endPass th) s = .next t ∧ t.dev.thread (ThreadId.key th) = { freeAt := s.env.cycle + 4 } ∧
        (∀ j, j ≠ ThreadId.key th → t.dev.thread j = s.dev.thread j) ∧
        s.sameBut [.threads, .frames, .blks, .pmu, .stat, .evt, .slate] t)

/-- The table lookups (R111, R114-R116, R149): LKX, LKP, LKT and LKD send the key their registers, window and metadata
give, under the tag of the word. -/
def Obligations.GristoLookups : Prop :=
  ∀ (s : State) (th : ThreadId) (i : Nat),
    let x := s.dev.thread (ThreadId.key th)
    let f := s.dev.frame i
    let w := nextWord s.dev x
    let m := (s.dev.prog x.slot).compat
    let keep := [Part.threads, .frames, .blks, .pmu, .slate]
    s.inImage th (x.pc + 1) → s.maySend th →
    (s.issuesWord th 0x40 i → fS1 w ≤ 28 →
      ∃ t, exec (.lkx th) s = .next t ∧ s.asks t th i (.x (bits (fSub w) 3 0) (x.key (fS1 w))) ∧ s.sameBut keep t) ∧
    (s.issuesWord th 0x41 i → bit (fSub w) 0 = false →
      ∃ t, exec (.lkp th) s = .next t ∧ s.asks t th i (.p false (x.getG (fS1 w)) (x.getG (fS2 w) % 4096)) ∧
        s.sameBut keep t) ∧
    (s.issuesWord th 0x41 i → bit (fSub w) 0 = true → fS1 w ≤ 28 →
      ∃ t, exec (.lkp th) s = .next t ∧ s.asks t th i (.p true (x.key (fS1 w)) (x.getG (fS2 w) % 4096)) ∧
        s.sameBut keep t) ∧
    (s.issuesWord th 0x42 i →
      let key := buildKey s.dev f.ver (bits (fSub w) 3 0) (spaceBytes m x f 0) f.hidx f.md (x.getG (fS1 w))
      ∃ t, exec (.lkt th) s = .next t ∧ s.asks t th i (.t key.1 key.2 f.ver) ∧ s.sameBut keep t) ∧
    (s.issuesWord th 0x43 i →
      ∃ t, exec (.lkd th) s = .next t ∧
        s.asks t th i (.d (fSub w) ((x.getG (fS1 w) + bits (fImm w) 23 0) % 2 ^ 32)) ∧ s.sameBut keep t)

/-- Answers (R112, R113, R116, R175): LOOKUP_ANSWER brings the answer of a request that its unit or port has taken to its
tag, or discards it; a port takes two requests in a core cycle. LKW collects it into registers and flags and frees the tag;
LKC, in compatibility mode, frees the tag and has the answer discarded. -/
def Obligations.GristoAnswers : Prop :=
  (∀ (s : State) (n : Nat) (q : LkReq) (a : Answer), tfind s.dev.slate.reqs n = some q → q.kind = .done a →
    ∃ t, exec (.lookupAnswer n) s = .next t ∧ tfind t.dev.slate.reqs n = none ∧
      (q.dropped = false → t.dev.thread q.thread =
        (s.dev.thread q.thread).setTag q.tag { req := some n, ans := some a }) ∧
      (q.dropped = true → t.dev.threads = s.dev.threads) ∧
      (∀ j, j ≠ q.thread → t.dev.thread j = s.dev.thread j) ∧
      s.sameBut [.threads, .slate, .evt, .stat, .pmu] t) ∧
  (∀ (s : State) (n : Nat) (q : LkReq), tfind s.dev.slate.reqs n = some q → q.kind.waits = true →
    (s.dev.slate.reqs.filter (fun r => r.2.kind.waits)) = [(n, q)] → q.thread / 128 < 16 →
    portTaken s.env s.dev (q.thread / 128) < 2 →
    ∃ t, exec (.lookupAnswer n) s = .next t ∧ tfind t.dev.slate.reqs n = none ∧
      (q.dropped = false → t.dev.thread q.thread =
        (s.dev.thread q.thread).setTag q.tag { req := some n, ans := some (answerOf s.env q.kind s.dev).1 }) ∧
      portTaken s.env t.dev (q.thread / 128) = portTaken s.env s.dev (q.thread / 128) + 1 ∧
      (q.dropped = true → t.dev.threads = s.dev.threads) ∧
      (∀ j, j ≠ q.thread → t.dev.thread j = s.dev.thread j) ∧
      s.sameBut [.threads, .slate, .evt, .stat, .pmu] t) ∧
  (∀ (s : State) (th : ThreadId) (i : Nat),
    let x := s.dev.thread (ThreadId.key th)
    let f := s.dev.frame i
    let w := nextWord s.dev x
    let m := (s.dev.prog x.slot).compat
    s.inImage th (x.pc + 1) → fCs w < tagCnt m →
    (∀ a, s.issuesWord th 0x44 i → fD w < 31 → (x.tag (fCs w)).ans = some a →
      ∃ t x' f', exec (.lkw th) s = .next t ∧ s.goesOn t th i (x.pc + 1) false x' f' ∧
        x'.z = a.z ∧ x'.c = a.c ∧ x'.n = false ∧ x'.v = false ∧ x'.tag (fCs w) = {} ∧
        (∀ j, j < 4 → j ≠ fCs w → x'.tag j = x.tag j) ∧
        (∀ j, j < 32 → x'.getG j =
          if fD w = 0 ∨ (j ≠ fD w ∧ j ≠ fD w + 1) ∨ (m = true ∧ 16 ≤ j) then x.getG j
          else if j = fD w then a.value % 2 ^ 32 else a.value / 2 ^ 32 % 2 ^ 32) ∧
        (∀ v, a.colour = some v → mdGet f'.md 0 12 11 = v % 4) ∧ (∀ v, a.seq = some v → mdGet f'.md 5 31 0 = v % 2 ^ 32) ∧
        f' = { f with md := f'.md } ∧ s.sameBut [.threads, .frames, .blks, .pmu] t) ∧
    (s.issuesWord th 0x4F i →
      ∃ t, exec (.lkc th) s = .next t ∧ s.goesOn t th i (x.pc + 1) false (x.setTag (fCs w) {}) f ∧
        (∀ n q, (x.tag (fCs w)).req = some n → tfind s.dev.slate.reqs n = some q →
          tfind t.dev.slate.reqs n = some { q with dropped := true }) ∧
        s.sameBut [.threads, .frames, .blks, .pmu, .slate] t))

/-- Hash, counter and learning (R122-R124, R180, R335): HSH writes its hash, to md.hash too when asked; CNT adds one frame
and a length to a flow counter's accumulators; LEARN queues a request at the issuing cluster's block, or counts it lost. -/
def Obligations.GristoHashCountLearn : Prop :=
  ∀ (s : State) (th : ThreadId) (i : Nat),
    let x := s.dev.thread (ThreadId.key th)
    let f := s.dev.frame i
    let w := nextWord s.dev x
    let m := (s.dev.prog x.slot).compat
    let cl := th.cl.val
    s.inImage th (x.pc + 1) →
    (s.issuesWord th 0x50 i → fS1 w + fCs w < 32 → bits (fSub w) 1 0 < 2 → (bits (fSub w) 1 0 = 1 → fCs w < 9) →
      ∃ t x' f', exec (.hsh th) s = .next t ∧ s.goesOn t th i (x.pc + 1) false x' f' ∧
        x' = x.setG m (fD w) (hashOf s.dev f x w) ∧
        (bit (fSub w) 2 = false → f' = f) ∧
        (bit (fSub w) 2 = true → f' = { f with md := f'.md } ∧ mdGet f'.md 10 31 0 = hashOf s.dev f x w % 2 ^ 32 ∧
          mdKept [10] f.md f'.md) ∧
        s.sameBut [.threads, .frames, .blks, .pmu] t) ∧
    (s.issuesWord th 0x52 i →
      let n := if fS2 w = 0 then f.len else x.getG (fS2 w)
      let j := x.getG (fS1 w) % 2 ^ 19
      ∃ t, exec (.cnt th) s = .next t ∧ s.goesOn t th i (x.pc + 1) false x f ∧
        (t.dev.flow j).accF = min (2 ^ 20 - 1) ((s.dev.flow j).accF + 1) ∧
        (t.dev.flow j).accB = min (2 ^ 32 - 1) ((s.dev.flow j).accB + n) ∧
        (t.dev.flow j).frames = (s.dev.flow j).frames ∧ (t.dev.flow j).bytes = (s.dev.flow j).bytes ∧
        (∀ k, k ≠ j → t.dev.flow k = s.dev.flow k) ∧ s.sameBut [.threads, .frames, .blks, .pmu, .slate, .twin] t) ∧
    (s.issuesWord th 0x53 i → fS1 w ≤ 28 → fS2 w ≤ 30 →
      ∃ t, exec (.learn th) s = .next t ∧ s.goesOn t th i (x.pc + 1) false x f ∧
        (if (s.dev.blk cl).learnQ.length < 1024 then
           (t.dev.blk cl).learnQ = (s.dev.blk cl).learnQ ++
             [{ profile := bits (fSub w) 3 0, key := x.key (fS1 w),
                result := x.getG (fS2 w) + x.getG (fS2 w + 1) * 2 ^ 32, op := 0,
                thread := ThreadId.key th, after := s.dev.slate.nextReq }]
         else (t.dev.blk cl).learnQ = (s.dev.blk cl).learnQ ∧
           blkCnt t.dev cl 68 = (blkCnt s.dev cl 68 + 1) % 2 ^ 48) ∧
        s.sameBut [.threads, .frames, .blks, .pmu, .stat, .evt] t ∧ s.dev.otherBlks cl t.dev)

/-- Meters and sequence numbers (R117-R120): MTR colours the packet by the marker its profile selects and takes its bytes
from a bucket, SEQG gives the next number of a stream, SEQR judges a number by the recovery history. Of one core cycle's
requests of one meter or stream, those of a lower cluster, then a lower engine, come first (R118, R121): the statement is of a
request that no later one has come before. -/
def Obligations.GristoMetersSequences : Prop :=
  ∀ (s : State) (th : ThreadId) (i : Nat),
    let x := s.dev.thread (ThreadId.key th)
    let f := s.dev.frame i
    let w := nextWord s.dev x
    let keep := [Part.threads, .frames, .blks, .pmu, .slate, .twin]
    let last := fun item => ∀ o ∈ unitOps s.env s.dev, o.item = item → o.eng ≤ 32 * th.cl.val + th.eng.val
    s.inImage th (x.pc + 1) → s.maySend th →
    (s.issuesWord th 0x51 i →
      let k := x.getG (fS1 w) % 2 ^ 18
      let n := if fS2 w = 0 then f.len else x.getG (fS2 w)
      let p := meterProfile s.dev k
      let pre := if bit (fSub w) 0 then min 2 (mdGet f.md 0 12 11) else 0
      let b := meterFill p (tget {} s.dev.slate.meters k) s.env.third
      last (2 * k) →
      ∃ t col tc te, exec (.mtr th) s = .next t ∧
        s.asks t th i (.done { value := col, z := col == 0, colour := some col }) ∧
        tget {} t.dev.slate.meters k = { tc := some tc, te := some te, at3 := s.env.third } ∧
        (∀ j, j ≠ k → tget {} t.dev.slate.meters j = tget {} s.dev.slate.meters j) ∧
        (p.two = false → (pre = 0 → n * tok ≤ b.1 → col = 0 ∧ tc + n * tok = b.1 ∧ te = b.2) ∧
          ((pre ≠ 0 ∨ b.1 < n * tok) → pre ≤ 1 → n * tok ≤ b.2 → col = 1 ∧ tc = b.1 ∧ te + n * tok = b.2) ∧
          ((2 ≤ pre ∨ b.2 < n * tok) → (pre ≠ 0 ∨ b.1 < n * tok) → col = 2 ∧ tc = b.1 ∧ te = b.2)) ∧
        (p.two = true → ((pre = 2 ∨ b.2 < n * tok) → col = 2 ∧ tc = b.1 ∧ te = b.2) ∧
          (pre ≠ 2 → n * tok ≤ b.2 → (pre = 1 ∨ b.1 < n * tok) → col = 1 ∧ tc = b.1 ∧ te + n * tok = b.2) ∧
          (pre = 0 → n * tok ≤ b.2 → n * tok ≤ b.1 → col = 0 ∧ tc + n * tok = b.1 ∧ te + n * tok = b.2)) ∧
        s.sameBut keep t) ∧
    (s.issuesWord th 0x67 i →
      let st := x.getG (fS1 w) % 65536
      let v := tget s.dev.slate.genDef s.dev.slate.gen st
      ∃ t, exec (.seqg th) s = .next t ∧ s.asks t th i (.done { value := v, seq := some (v * 65536 + st) }) ∧
        (∀ j, tget t.dev.slate.genDef t.dev.slate.gen j =
          if j = st then (v + 1) % 65536 else tget s.dev.slate.genDef s.dev.slate.gen j) ∧ s.sameBut keep t) ∧
    (s.issuesWord th 0x68 i →
      let st := x.getG (fS1 w) % 65536
      let n := x.getG (fS2 w) % 65536
      let r := recovStep s.env.third (recovLen s.dev st) n (recovFresh s.env.third s.dev st)
      last (2 * st + 1) →
      ∃ t, exec (.seqr th) s = .next t ∧
        s.asks t th i (.done { value := r.1, z := r.1 == 0, seq := some (n * 65536 + st) }) ∧
        tget {} t.dev.slate.recov st = r.2 ∧
        ((recovFresh s.env.third s.dev st).takeAny = true → r.1 = 0 ∧ r.2.seq = n ∧ r.2.hist = 1) ∧
        (∀ j, j ≠ st → tget {} t.dev.slate.recov j = tget {} s.dev.slate.recov j) ∧ s.sameBut keep t)

/-- The destinations (R73, R125): FWD, MCAST, DROP, HOST and RECIRC write md.dst and leave the rest of the metadata but
a drop's reason; an absent port is a drop; MIRR sets or clears one mirror bit. -/
def Obligations.GristoDestinations : Prop :=
  ∀ (s : State) (th : ThreadId) (i : Nat),
    let x := s.dev.thread (ThreadId.key th)
    let f := s.dev.frame i
    let w := nextWord s.dev x
    let o := if fS1 w = 0 then fImm w else x.getG (fS1 w)
    let does := fun (c : Instr) (l : List Nat) (P : Frame → Prop) =>
      ∃ t f', exec c s = .next t ∧ s.goesOn t th i (x.pc + 1) false x f' ∧ f' = { f with md := f'.md } ∧
        mdKept l f.md f'.md ∧ P f' ∧ s.sameBut [.threads, .frames, .blks, .pmu] t
    s.inImage th (x.pc + 1) →
    (s.issuesWord th 0x60 i → o % 128 < 96 → does (.fwd th) [2] (fun g => g.dstKind = 1 ∧ g.dstVal = o % 128)) ∧
    (s.issuesWord th 0x60 i → 96 ≤ o % 128 → does (.fwd th) [1, 2] (fun g => g.dstKind = 6 ∧ g.dropReason = 0x8201)) ∧
    (s.issuesWord th 0x61 i → bit (fSub w) 0 = false →
      does (.mcast th) [2] (fun g => g.dstKind = 2 ∧ g.dstVal = o % 65536)) ∧
    (s.issuesWord th 0x61 i → bit (fSub w) 0 = true →
      does (.mcast th) [2] (fun g => g.dstKind = 3 ∧ g.dstVal = o % 4096)) ∧
    (s.issuesWord th 0x62 i →
      does (.drop th) [1, 2] (fun g => g.dstKind = 6 ∧ g.dropReason = bits (fImm w) 14 0 ∧ g.len = f.len)) ∧
    (s.issuesWord th 0x63 i → does (.mirr th) [3] (fun g => ∀ j, j < 32 →
      mdGet g.md 3 j j = if j = 16 + o % 16 then (if bit (fSub w) 0 then 0 else 1) else mdGet f.md 3 j j)) ∧
    (s.issuesWord th 0x64 i → does (.host th) [2] (fun g => g.dstKind = 4 ∧ g.dstVal = o % 64)) ∧
    (s.issuesWord th 0x65 i → f.blk < 16 → does (.recirc th) [2] (fun g => g.dstKind = 5 ∧ g.dstVal = 97 + f.blk))

/-- Requests for the end of the pass and for transmit (R126): SCAN records its mode and depth, STAMP and CSUM their kind
and address in the header window; a later request of the same kind replaces an earlier one. -/
def Obligations.GristoRequests : Prop :=
  ∀ (s : State) (th : ThreadId) (i : Nat),
    let x := s.dev.thread (ThreadId.key th)
    let f := s.dev.frame i
    let w := nextWord s.dev x
    let base := if fRel w then fN w + 1 else 0
    let off := (fOff w + x.getG (fX w)) % 2 ^ 32
    let kind := bits (fSub w) 1 0
    let keep := [Part.threads, .frames, .blks, .pmu]
    s.inImage th (x.pc + 1) →
    (s.issuesWord th 0x66 i →
      ∃ t f', exec (.scan th) s = .next t ∧ s.goesOn t th i (x.pc + 1) false x f' ∧
        f'.scan = some (bit (fSub w) 0, (bits (fImm w) 15 0 + x.getG (fS1 w)) % 2 ^ 32) ∧
        mdGet f'.md 4 27 26 = (if bit (fSub w) 0 then 2 else 1) ∧ mdGet f'.md 4 31 31 = 0 ∧ mdKept [4] f.md f'.md ∧
        f' = { f with md := f'.md, scan := f'.scan } ∧ s.sameBut keep t) ∧
    (s.issuesWord th 0x69 i → kind = 0 → fSpace w = 0 → badBase f w = false →
      ∃ t, exec (.stamp th) s = .next t ∧ s.goesOn t th i (x.pc + 1) false x { f with stamp := none } ∧
        s.sameBut keep t) ∧
    (s.issuesWord th 0x69 i → kind ≠ 0 → fSpace w = 0 → badBase f w = false →
      ∃ t, exec (.stamp th) s = .next t ∧ s.goesOn t th i (x.pc + 1) false x
        { f with stamp := some { kind := kind, dom := fCs w % 4, base := base, off := off } } ∧ s.sameBut keep t) ∧
    (s.issuesWord th 0x6A i → kind ≠ 3 → fSpace w = 0 → badBase f w = false →
      ∃ t f', exec (.csum th) s = .next t ∧ s.goesOn t th i (x.pc + 1) false x f' ∧
        (∀ j, tfind f'.csum j = if j = kind then some (base, off) else tfind f.csum j) ∧
        f' = { f with csum := f'.csum } ∧ s.sameBut keep t)

/-- Exceptions (R78, R93): a general thread that has issued 1,024 instructions, or whose word is undefined, stops with its
cause: the cluster's log names cause, engine, thread, version and word, and its event is raised. -/
def Obligations.GristoExceptions : Prop :=
  ∀ (s : State) (th : ThreadId) (i : Nat),
    let k := ThreadId.key th
    let x := s.dev.thread k
    let f := s.dev.frame i
    let cl := th.cl.val
    let log := fun cause => cause * 2 ^ 28 + th.eng.val * 2 ^ 23 + th.thr.val * 2 ^ 21 + f.ver * 2 ^ 14 + x.pc % 2 ^ 14
    x.frame = some i → issues s.env s.dev k = true → x.bedrock = false →
    (1024 ≤ x.issued → engReserved s.dev cl th.eng = false → fOp (nextWord s.dev x) = 0x01 →
      ∃ t, exec (.add th) s = .next t ∧ (t.dev.blk cl).excLog = log 1 ∧
        t.dev.evCnt (96 + cl) 0 = s.dev.evCnt (96 + cl) 0 + 1 ∧ t.dev.thread k = { freeAt := s.env.cycle + 4 }) ∧
    (x.issued < 1024 → opDefined (s.dev.prog x.slot).compat (fOp (nextWord s.dev x)) = false →
      ∃ t, exec (.add th) s = .next t ∧ (t.dev.blk cl).excLog = log 2 ∧
        t.dev.evCnt (96 + cl) 1 = s.dev.evCnt (96 + cl) 1 + 1 ∧ t.dev.thread k = { freeAt := s.env.cycle + 4 } ∧
        (t.dev.frame i).dropReason = 0x8102 ∧ (t.dev.frame i).dstKind = 6)

/-! ## The sieve and Mica (chapters 03 and 06) -/

/-- The sieve (R88, R90, R91): SIEVE_RELEASE takes a frame that nothing keeps back out of its sieve and sends it where its
metadata says, a bad one nowhere; a multicast or flood frame goes to stage 1 as one, spread there (R216). SIEVE_LATE marks
the oldest frame of a stream that has kept a complete one back for 20 us. -/
def Obligations.SieveOrder : Prop :=
  (∀ (s : State) (b : Fin 16) (i : Nat), canRelease s.env s.dev b i = true →
    let f := s.dev.frame i
    ∃ t, exec (.sieveRelease b i) s = .next t ∧
      (t.dev.blk f.blk).sieve = (s.dev.blk f.blk).sieve.erase i ∧
      tget 0 (t.dev.blk f.blk).relSeq f.stream = tget 0 (s.dev.blk f.blk).relSeq f.stream + 1 ∧
      (f.bad = true → t.dev.nextSend = s.dev.nextSend) ∧
      (f.bad = false → f.dstKind = 1 → f.dstVal < 96 → ∃ n, s.dev.nextSend ≤ n ∧ n < t.dev.nextSend ∧
        tfind t.dev.sends n = some (frameSend i f 0 f.dstVal (blkOf f.dstVal))) ∧
      (f.bad = false → f.dstKind = 2 ∨ f.dstKind = 3 → ∃ n, s.dev.nextSend ≤ n ∧ n < t.dev.nextSend ∧
        tfind t.dev.sends n = some { frameSend i f (f.dstKind - 1) (f.dstVal % 65536) 0 with
          group := some (f.dstKind - 1, f.dstVal) }) ∧
      (f.bad = false → f.dstKind = 4 → (t.dev.blk f.blk).hostQ = (s.dev.blk f.blk).hostQ ++
        [{ ring := f.dstVal % 64, bytes := [], len := f.bytes.length, inPort := f.inPort, ts := f.ts,
           hash := mdGet f.md 10 31 0, ver := f.ver, queue := f.queue, frame := i }]) ∧
      s.sameBut [.evt, .stat, .pmu, .blks, .frames, .sends, .gut] t) ∧
  (∀ (s : State) (b : Fin 16) (st : Fin 256) (i j c : Nat),
    i ∈ (s.dev.blk b).sieve → (s.dev.frame i).stream = st → (s.dev.frame i).late = false →
    (s.dev.frame i).complete s.env = false →
    (∀ k ∈ (s.dev.blk b).sieve, (s.dev.frame k).stream = st → k ≠ i →
      (s.dev.frame i).seq < (s.dev.frame k).seq) →
    j ∈ (s.dev.blk b).sieve → (s.dev.frame j).stream = st →
    (s.dev.frame j).completeAt = some c → c + us 20 ≤ s.env.third →
    ∃ t, exec (.sieveLate b st) s = .next t ∧ t.dev.frame i = { s.dev.frame i with late := true } ∧
      (∀ k, k ≠ i → t.dev.frame k = s.dev.frame k) ∧ s.sameBut [.frames] t)

/-- Scans (R155, R156, R161, R165, R166, R169, R170): SCAN_START gives a free lane the request it serves first,
COLD_STATE_FETCH_END fetches a cold state or ends the scan where there is none, SCAN_VERDICT records the winning hit or a
miss and applies the action in enforce mode, SCAN_HOLD_LIMIT ends a wait that has reached its limit. A tile that fails as
the lane reads it, or a frame found bad, ends the scan with outcome 6 (R168). -/
def Obligations.MicaScans : Prop :=
  (∀ (s : State) (b sc lane : Fin 16) (err : Option Nat) (r : ScanReq), nextScan (s.dev.blk b).scanQ = some r →
    mayServe s.env s.dev b sc = true → thas (s.dev.blk sc).lanes lane = false →
    ∃ t, exec (.scanStart b sc lane err) s = .next t ∧ (t.dev.blk b).scanQ = (s.dev.blk b).scanQ.erase r ∧
      (scanFail (s.dev.frame r.frame) r err = none → tfind (t.dev.blk sc).lanes lane = some { req := r, blk := b, start := s.env.third } ∧
        s.sameBut [.blks] t) ∧
      (scanFail (s.dev.frame r.frame) r err ≠ none → thas (t.dev.blk sc).lanes lane = false ∧ s.sameBut [.evt, .pmu, .blks, .frames, .loft, .stat] t)) ∧
  (∀ (s : State) (sc lane : Fin 16) (l : Lane), tfind (s.dev.blk sc).lanes lane = some l →
    (s.dev.set l.req.set).resident = false →
    ∃ t, exec (.coldStateFetchEnd sc lane) s = .next t ∧
      (if (s.dev.set l.req.set).lost = true ∨ loftServes s.dev = false then
         tfind (t.dev.blk sc).lanes lane = none ∧ s.sameBut [.evt, .stat, .pmu, .blks, .frames] t
       else tfind (t.dev.blk sc).lanes lane = some { l with fetched := true } ∧
         blkCnt t.dev l.blk 78 = (blkCnt s.dev l.blk 78 + 1) % 2 ^ 48 ∧ s.sameBut [.evt, .stat, .pmu, .blks] t)) ∧
  (∀ (s : State) (sc lane : Fin 16) (l : Lane), tfind (s.dev.blk sc).lanes lane = some l →
    let r := l.req
    let f := s.dev.frame r.frame
    let w := winner (s.dev.set r.set).patterns (scanBytes f r)
    f.bad = false → f.tileBad = false → f.stage ≠ .released → r.off + scanReads w r.len ≤ f.arrived s.env →
    l.start + 2 * scanReads w r.len ≤ s.env.third →
    ∃ t, exec (.scanVerdict sc lane none) s = .next t ∧ tfind (t.dev.blk sc).lanes lane = none ∧
      blkCnt t.dev l.blk 72 = (blkCnt s.dev l.blk 72 + 1) % 2 ^ 48 ∧
      (let g := t.dev.frame r.frame
       (w = none → mdGet g.md 4 31 0 = verdictWord false 0 (scanMode f) 0) ∧
       (∀ p o, w = some (p, o) →
         mdGet g.md 4 31 0 = verdictWord true (patCode p.action) (scanMode f) p.number.toNat ∧
         tget 0 (t.dev.set r.set).hits p.number.toNat = (tget 0 (s.dev.set r.set).hits p.number.toNat + 1) % 2 ^ 48 ∧
         (scanMode f = 2 → r.recirc = false → g.holdSince = none ∧
           g.completeAt = some (f.completeAt.getD s.env.third) ∧
           (p.action = .drop → g.dstKind = 6 ∧ g.dropReason = 0x8401) ∧
           (p.action = .host → g.dstKind = 4 ∧ g.dstVal = s.env.f 0xF00000 23 18) ∧
           (p.action = .mirror → mdGet g.md 3 31 16 = mdGet f.md 3 31 16 ||| 2 ^ s.env.f 0xF00000 17 14)))) ∧
      s.sameBut [.evt, .stat, .pmu, .blks, .frames, .sends, .gut, .sets] t) ∧
  (∀ (s : State) (sc lane : Fin 16) (err : Option Nat) (l : Lane), tfind (s.dev.blk sc).lanes lane = some l →
    let f := s.dev.frame l.req.frame
    f.stage ≠ .released → l.req.recirc = false →
    (f.bad = true ∨ f.tileBad = true ∨ scanFail f l.req err ≠ none) →
    ∃ t, exec (.scanVerdict sc lane err) s = .next t ∧ tfind (t.dev.blk sc).lanes lane = none ∧
      mdGet (t.dev.frame l.req.frame).md 4 31 0 = verdictWord false 0 (scanMode f) 6 ∧
      t.dev.evCnt 129 0 = s.dev.evCnt 129 0 + 1 ∧ t.dev.sets = s.dev.sets ∧
      s.sameBut [.evt, .stat, .pmu, .blks, .frames, .loft] t) ∧
  (∀ (s : State) (i : Nat) (since : Nat), (s.dev.frame i).holdSince = some since → (s.dev.frame i).stage ≠ .released →
    scanMode (s.dev.frame i) = 2 → since + us (max 1 (s.env.f 0xF00000 31 24)) ≤ s.env.third →
    let f := s.dev.frame i
    ∃ t, exec (.scanHoldLimit i) s = .next t ∧ (t.dev.frame i).holdSince = none ∧
      mdGet (t.dev.frame i).md 4 31 0 = verdictWord false (if s.env.b 0xF00000 9 then 1 else 0) 2 4 ∧
      (∀ r ∈ (t.dev.blk f.blk).scanQ, r.frame ≠ i) ∧
      (∀ sc, sc < 16 → ∀ l ∈ (t.dev.blk sc).lanes, l.2.req.frame ≠ i) ∧
      s.sameBut [.evt, .stat, .pmu, .blks, .frames] t)

/-- SCANNER_ENABLE asks the step governor for the scanner's new power state unless it is bound for it (R454); MICA_LOAD
fills a set slot and its region of Loft, resident when the image fits its quota, its hit table cleared, or is refused (R159,
R161, R172). -/
def Obligations.MicaLoading : Prop :=
  (∀ (s : State) (sc : Fin 16) (v : Word), s.scopeFree 54 →
    ∃ t, exec (.scannerEnable sc v) s = .next t ∧
      (unitTarget s.dev (16 + sc) = bit v.toNat 0 → t.dev.pwr = s.dev.pwr) ∧
      (unitTarget s.dev (16 + sc) ≠ bit v.toNat 0 → (∀ r ∈ s.dev.pwr.queue, r.unit ≠ 16 + sc) →
        { unit := 16 + sc, up := bit v.toNat 0, since := s.env.third } ∈ t.dev.pwr.queue) ∧
      (unitTarget s.dev (16 + sc) ≠ bit v.toNat 0 → ∀ r ∈ s.dev.pwr.queue, r.unit = 16 + sc → r ∉ t.dev.pwr.queue) ∧
      s.wrote (0xF00200 + 4 * sc) ((s.env.reg (0xF00200 + 4 * sc) &&& (0xFFFFFFFF ^^^ 1)) ||| (v.toNat &&& 1)) [.pwr] t) ∧
  (∀ (s : State) (k : Fin 4096) (img : MicaImage), canStart s.dev k 0x11 = true →
    let n := bits (argWord s.dev k 4) 3 0
    let quota := bits (argWord s.dev k 9) 14 0
    let x := s.dev.set n
    let fits := 4096 ≤ argWord s.dev k 7 ∧ argWord s.dev k 7 ≤ 2 ^ 28 ∧ 64 ≤ quota ∧ quota ≤ 16384 ∧
      img.crc.toNat = argWord s.dev k 8 ∧ img.forPart = true ∧ loftServes s.dev = true
    let free := setInUse s.dev n = false ∨ (x.lost = true ∧ argWord s.dev k 8 = x.crc)
    let room := ((List.range 16).filter (fun m => m != n && (s.dev.set m).valid)).foldl
      (fun a m => a + (s.dev.set m).quota) 0 + quota ≤ 16384
    ∃ t, exec (.micaLoad k img) s = .next t ∧
      (fits → free → room →
        t.dev.set n = { valid := true, resident := decide (argWord s.dev k 7 ≤ quota * 1024), quota := quota,
                        crc := argWord s.dev k 8, patterns := img.patterns } ∧ (t.dev.set n).hits = [] ∧
        t.loft = mwrite s.loft (256 * regionUnit s.dev (1 + n) 0) (img.bytes.take (argWord s.dev k 7)) ∧
        s.dev.finishes s.env k stOk [flagAt (decide (argWord s.dev k 7 ≤ quota * 1024)) 0] t.dev) ∧
      (fits → free → ¬ room → t.dev.sets = s.dev.sets ∧ s.dev.finishes s.env k stNoRoom [] t.dev) ∧
      (¬ (fits ∧ free) → t.dev.sets = s.dev.sets ∧ s.dev.finishes s.env k stRejected [] t.dev) ∧
      (¬ (fits ∧ free ∧ room) → t.loft = s.loft) ∧
      (∀ m, m ≠ n → t.dev.set m = s.dev.set m) ∧ s.sameBut (.sets :: s.dev.cplParts k) { t with loft := s.loft })

/-! ## Rule sets and Slate-T (chapter 05) -/

/-- Writes of a version's tables (R130, R132, R143, R144, R145, R147): PARAMETER_BANK_WRITE writes a free version's bank;
SLATE_T_CONTROL_WRITE commits an entry whole; SLT_T_BANK_WRITE changes the setting of an empty bank. Where the rule refuses
the write, the tables stand and rs_refused_write is raised. Bytes of a bank that R130 does not list are not written. -/
def Obligations.RuleTableWrites : Prop :=
  (∀ (s : State) (off : Fin 131072) (v : Word), off.val % 4 = 0 →
    ∃ t, exec (.parameterBankWrite off v) s = .next t ∧
      (rsFree s.dev (off / 8192) = true → s.sameBut [.rs] t ∧
        ∀ a, tget 0 t.dev.rs.banks a =
          if off.val ≤ a ∧ a < off.val + 4 ∧ bankListed (a % 8192) = true then BitVec.ofNat 8 (v.toNat / 256 ^ (a - off)) else tget 0 s.dev.rs.banks a) ∧
      (rsFree s.dev (off / 8192) = false → s.sameBut [.evt, .pmu] t ∧ s.dev.raised 128 2 t.dev)) ∧
  (∀ (s : State) (p : Fin 32768) (v : Word), (tWide s.env p && p.val % 2 == 1) = false →
    let w := setBits v.toNat 29 16 0
    ∃ t, exec (.slateTControlWrite p v) s = .next t ∧
      (∀ kv, kv ∈ t.dev.rs.tStage ↔ kv ∈ s.dev.rs.tStage ∧ kv.1 / 128 ∉ tGroup s.env p) ∧
      (tAccepts s.env s.dev p w = true → tCtl t.dev p = w ∧ s.sameBut [.rs, .slate] t ∧
        (∀ q b, b < 88 → (∀ kv ∈ s.dev.rs.tStage, kv.1 = 128 * q + b → q ∉ tGroup s.env p) →
          tByte t.dev q b = tByte s.dev q b) ∧
        (∀ q b x, b < 88 → q ∈ tGroup s.env p → (128 * q + b, x) ∈ s.dev.rs.tStage →
          (∀ kv ∈ s.dev.rs.tStage, kv.1 = 128 * q + b → kv.2 = x) → tByte t.dev q b = x)) ∧
      (tAccepts s.env s.dev p w = false → t.dev.rs.tTable = s.dev.rs.tTable ∧ s.dev.raised 128 2 t.dev ∧
        s.sameBut [.rs, .evt, .pmu] t)) ∧
  (∀ (s : State) (k : Fin 8) (v : Word),
    ∃ t, exec (.sltTBankWrite k v) s = .next t ∧
      (tBankUsed s.env s.dev k = false → s.wrote (0x70C100 + 4 * k) (v.toNat % 2) [] t) ∧
      (tBankUsed s.env s.dev k = true → s.sameBut [.evt, .pmu] t ∧ s.dev.raised 128 2 t.dev))

/-- A commit up to its switch (R94, R131, R135, R136): RS_COMMIT takes a free version and keeps its arguments,
in the order of acceptance; COMMIT_PROCEED checks them and begins to load the image into the free program slot, COMMIT_IMAGE_LOADED checks the image's
CRC and chooses the switch instant. A commit that fails completes REJECTED, its version free again. -/
def Obligations.CommitLoads : Prop :=
  (∀ (s : State) (k : Fin 4096), canStart s.dev k 0x10 = true → (waitingSlots s.dev 0x10).head? = some k.val →
    let v := bits (argWord s.dev k 4) 3 0
    ∃ t, exec (.rsCommit k) s = .next t ∧
      (rsHeld s.dev v = false → t.dev.rs.committed = s.dev.rs.committed ++ [v] ∧ (t.dev.slot k).running = true ∧
        (∃ c, t.dev.rs.commits = s.dev.rs.commits ++ [c] ∧ c.slot = k.val ∧ c.version = v ∧ c.step = 2 ∧
          c.imageAddr = argAddr s.dev k 5 ∧ c.imageLen = argWord s.dev k 7 % 2 ^ 15 ∧ c.imageCrc = argWord s.dev k 8 ∧
          c.entry = bits (argWord s.dev k 9) 13 0 ∧ c.brEntry = bits (argWord s.dev k 9) 29 16 ∧
          c.brValid = bit (argWord s.dev k 4) 6 ∧ c.compat = bit (argWord s.dev k 4) 7 ∧
          c.dom = bits (argWord s.dev k 4) 5 4 ∧ c.time = argTime s.dev k 10) ∧
        s.sameBut [.rs, .cmd] t) ∧
      (rsHeld s.dev v = true → s.dev.finishes s.env k stRejected [] t.dev ∧ s.sameBut (s.dev.cplParts k) t)) ∧
  (∀ (s : State) (c : Commit) (r : List Commit), s.dev.rs.commits = c :: r → c.step = 2 → s.dev.gns.dead = false →
    patchAhead s.dev c.slot = false →
    (s.dev.slot c.slot).used = true → (s.dev.slot c.slot).finished = false →
    let ok := 1 ≤ c.imageLen ∧ c.imageLen ≤ 16384 ∧ c.entry < c.imageLen ∧ c.brEntry < c.imageLen ∧
      ∀ n, setRef s.dev c.version = some n → (s.dev.set n).valid = true
    let g := freeProg s.dev
    ∃ t, exec .commitProceed s = .next t ∧
      (ok → t.dev.rs.commits = { c with step := 3, prog := g } :: r ∧ s.sameBut [.rs] t ∧
        (g < s.dev.rs.slots.length → (t.dev.rs.slots.getD g {}).state = 1 ∧
          (t.dev.rs.slots.getD g {}).version = c.version)) ∧
      (¬ ok → t.dev.rs.commits = r ∧ t.dev.rs.committed = s.dev.rs.committed.erase c.version ∧
        t.dev.rs.slots = s.dev.rs.slots ∧ s.dev.finishes s.env c.slot stRejected [] t.dev ∧
        s.sameBut (.rs :: s.dev.cplParts c.slot) t)) ∧
  (∀ (s : State) (img : List DWord) (c : Commit) (r : List Commit), s.dev.rs.commits = c :: r → c.step = 3 →
    s.dev.gns.dead = false → (s.dev.slot c.slot).used = true → (s.dev.slot c.slot).finished = false →
    c.imageLen ≤ img.length → c.prog < s.dev.rs.slots.length →
    let good := crc32c ((img.take c.imageLen).flatMap (fun w => natLE 8 w.toNat)) = c.imageCrc
    let first := s.env.ltNs + 1000 * max 2 (s.env.f 0x70C004 31 24)
    ∃ t, exec (.commitImageLoaded img) s = .next t ∧
      (good → s.sameBut [.rs] t ∧
        t.dev.rs.commits = { c with
          step := 5
          switchLt := max (if c.time = 0 then 0 else s.env.toLt c.dom c.time) first
          late := decide (c.time ≠ 0) && decide (s.env.toLt c.dom c.time < first) } :: r ∧
        t.dev.rs.slots.getD c.prog {} =
          { valid := true, compat := c.compat, state := 1, version := c.version, brValid := c.brValid,
            brEntry := c.brEntry, entry := c.entry, words := img.take c.imageLen }) ∧
      (¬ good → t.dev.rs.commits = r ∧ t.dev.rs.committed = s.dev.rs.committed.erase c.version ∧
        t.dev.rs.slots.getD c.prog {} = {} ∧ s.dev.finishes s.env c.slot stRejected [] t.dev ∧
        s.sameBut (.rs :: s.dev.cplParts c.slot) t))

/-- The switch and the retirement (R131, R133, R136, R138, R139): RS_SWITCH makes the committed version active and the
active one retiring; RS_RETIRE_SLOW reports a retirement that lasts; RETIREMENT_WALK_START begins once no frame bears the
version; RETIREMENT_WALK_END clears its bit in every version mask the walk has not passed yet, empties its slot and completes
the commit. -/
def Obligations.CommitSwitches : Prop :=
  (∀ (s : State) (c : Commit) (r : List Commit), s.dev.rs.commits = c :: r → c.step = 5 → c.switchLt ≤ s.env.ltNs →
    (s.dev.slot c.slot).used = true → (s.dev.slot c.slot).finished = false →
    let c' := { c with step := 7, retired := s.dev.rs.active, switchedAt := s.env.third }
    ∃ t, exec .rsSwitch s = .next t ∧ t.dev.rs.active = some c.version ∧ t.dev.rs.retiring = s.dev.rs.active ∧
      t.dev.rs.before = s.dev.rs.active ∧ t.dev.rs.switchLt = c.switchLt ∧
      t.dev.rs.committed = s.dev.rs.committed.erase c.version ∧
      (∀ g, g < 2 → (t.dev.rs.slots.getD g {}).state =
        if g = c.prog then 2 else if (s.dev.rs.slots.getD g {}).state = 2 then 3 else (s.dev.rs.slots.getD g {}).state) ∧
      t.dev.evCnt 128 0 = s.dev.evCnt 128 0 + 1 ∧
      (s.dev.rs.active ≠ none → t.dev.rs.commits = c' :: r ∧ s.sameBut [.rs, .evt, .pmu, .twin] t) ∧
      (s.dev.rs.active = none → t.dev.rs.commits = r ∧ s.dev.finishes s.env c.slot stOk (commitResults c') t.dev ∧
        s.sameBut ([.rs, .evt, .pmu, .twin] ++ s.dev.cplParts c.slot) t)) ∧
  (∀ (s : State) (c : Commit) (r : List Commit), s.dev.rs.commits = c :: r → c.step = 7 → c.slow = false →
    retireCount s.env s.dev ≠ 0 →
    c.switchedAt + ms (max 1 (s.env.f 0x70C004 15 0)) ≤ s.env.third →
    ∃ t, exec .rsRetireSlow s = .next t ∧ t.dev.rs.commits = { c with slow := true } :: r ∧
      s.dev.raised 128 1 t.dev ∧ s.sameBut [.rs, .evt, .pmu] t) ∧
  (∀ (s : State) (c : Commit) (r : List Commit), s.dev.rs.commits = c :: r → c.step = 7 → retireCount s.env s.dev = 0 →
    s.dev.gns.dead = false →
    ∃ t, exec .retirementWalkStart s = .next t ∧ t.dev.rs.commits = { c with step := 8 } :: r ∧
      t.dev.rs.walk = some s.env.third ∧ t.dev.rs.walkAt = 0 ∧ s.sameBut [.rs] t) ∧
  (∀ (s : State) (c : Commit) (r : List Commit) (w u : Nat), s.dev.rs.commits = c :: r → c.step = 8 →
    s.dev.rs.walk = some w → w + ns 262144 ≤ s.env.third → s.dev.rs.retiring = some u → u < 16 →
    (s.dev.slot c.slot).used = true → (s.dev.slot c.slot).finished = false →
    ∃ t, exec .retirementWalkEnd s = .next t ∧ t.dev.rs.retiring = none ∧ t.dev.rs.walk = none ∧ t.dev.rs.commits = r ∧
      t.dev.rs.active = s.dev.rs.active ∧
      (∀ p, p < s.dev.rs.walkAt → tCtl t.dev p = tCtl s.dev p) ∧
      (∀ p, s.dev.rs.walkAt ≤ p → p < 32768 → bit (tCtl t.dev p) u = false ∧
        (∀ v, v < 16 → v ≠ u → bit (tCtl t.dev p) v = bit (tCtl s.dev p) v) ∧
        (bit (tCtl s.dev p) u = true → tCtl t.dev p % 2 ^ 16 = 0 → bit (tCtl t.dev p) 31 = false)) ∧
      (∀ p b, b < 88 → tByte t.dev p b = tByte s.dev p b) ∧
      (∀ x ∈ t.dev.rs.slots, ¬ (x.state = 3 ∧ x.version = u)) ∧
      s.dev.finishes s.env c.slot stOk (commitResults c) t.dev ∧
      s.sameBut ([.rs, .twin] ++ s.dev.cplParts c.slot) t)

/-! ## Slate (chapter 07) -/

/-- Writes through the BAR2 window (R145, R179, R190, R194, R216, R217, R384, R385): the words of an entry wider than one are
staged until its last word makes it visible whole; a word whose region is not locked, or whose table is read-only, is
dropped and counted. An access that reaches a Slate host port or a Loft unit asks for it at Purlin as requester 33 (R359). -/
def Obligations.WindowWrites : Prop :=
  (∀ (s : State) (i : Fin 1048576) (v : Word),
    let l := xStaged s.dev i
    ∃ t, exec (.slateXControlWrite i v) s = .next t ∧
      (∀ kv ∈ t.dev.slate.xStage, kv.1 / 32 ≠ i) ∧
      (xLocked s.dev i = true → s.sameBut [.slate, .loft] t ∧ (∀ j, j ≠ i.val → t.dev.xSlot j = s.dev.xSlot j) ∧
        t.dev.xSlot i =
          { key := beAt l 0 16, result := beAt l 16 8, valid := bit v.toNat 31, static := bit v.toNat 30,
            activity := bit v.toNat 29, profile := bits v.toNat 27 24, idle := bits v.toNat 23 20 }) ∧
      (xLocked s.dev i = false → t.dev.slate.x = s.dev.slate.x ∧ s.sameBut [.slate, .loft, .stat, .evt, .pmu] t ∧
        devCnt t.dev 11 = (devCnt s.dev 11 + 1) % 2 ^ 48)) ∧
  (∀ (s : State) (i : Fin 524288) (v : Word),
    ∃ t, exec (.slateDHighWrite i v) s = .next t ∧
      tget 0 t.dev.slate.d i = v.toNat * 2 ^ 32 + (match s.dev.slate.dStage with
        | some (j, lo) => if j = i then lo else tget 0 s.dev.slate.d i % 2 ^ 32
        | none => tget 0 s.dev.slate.d i % 2 ^ 32) ∧
      (∀ j, j ≠ i.val → tget 0 t.dev.slate.d j = tget 0 s.dev.slate.d j) ∧ parFails t.dev tabD i = false ∧
      t.dev.slate.dStage = none ∧ s.sameBut [.slate, .loft] t) ∧
  (∀ (s : State) (i : Fin 69632) (v : Word),
    ∃ t, exec (.replicationWord3Write i v) s = .next t ∧ replWord t.dev i 3 = v.toNat / 2 ^ 31 * 2 ^ 31 ∧
      (∀ w, w < 3 → (∀ kv ∈ s.dev.slate.replStage, kv.1 ≠ 4 * i + w) → replWord t.dev i w = replWord s.dev i w) ∧
      (∀ w x, w < 3 → (4 * i.val + w, x) ∈ s.dev.slate.replStage →
        (∀ kv ∈ s.dev.slate.replStage, kv.1 = 4 * i + w → kv.2 = x) → replWord t.dev i w = x.toNat) ∧
      (∀ j w, j ≠ i.val → w < 4 → replWord t.dev j w = replWord s.dev j w) ∧ s.sameBut [.slate] t) ∧
  (∀ (s : State) (o : Fin 1073741824) (v : Word), o.val % 4 = 0 →
    let n := o.val
    let byte := fun j => BitVec.ofNat 8 (v.toNat / 256 ^ j)
    ∃ t, exec (.bar2Write o v) s = .next t ∧
      (n < 0x2000000 → n % 32 < 24 → xLocked s.dev (n / 32) = true → s.sameBut [.slate, .loft] t ∧
        t.dev.slate.x = s.dev.slate.x ∧ ∀ j, j < 4 → tfind t.dev.slate.xStage (n + j) = some (byte j)) ∧
      (n < 0x2000000 → n % 32 < 24 → xLocked s.dev (n / 32) = false → s.sameBut [.loft, .stat, .evt, .pmu] t ∧
        devCnt t.dev 11 = (devCnt s.dev 11 + 1) % 2 ^ 48) ∧
      (0x2000000 ≤ n → n < 0x2400000 → n % 128 < 88 → tLocked s.env s.dev ((n - 0x2000000) / 128) = false →
        s.sameBut [.rs, .loft] t ∧ t.dev.rs.tTable = s.dev.rs.tTable ∧
        ∀ j, j < 4 → tfind t.dev.rs.tStage (n - 0x2000000 + j) = some (byte j)) ∧
      (0x2000000 ≤ n → n < 0x2400000 → n % 128 < 88 → tLocked s.env s.dev ((n - 0x2000000) / 128) = true →
        s.sameBut [.loft, .evt, .pmu] t ∧ s.dev.raised 128 2 t.dev) ∧
      (0x2400000 ≤ n → n < 0x2800000 → n % 8 = 0 → s.sameBut [.slate, .loft] t ∧ t.dev.slate.d = s.dev.slate.d ∧
        t.dev.slate.dStage = some ((n - 0x2400000) / 8, v.toNat)) ∧
      (0x2800000 ≤ n → n < 0x3E00000 → s.sameBut [.loft, .stat, .evt, .pmu] t ∧
        devCnt t.dev 11 = (devCnt s.dev 11 + 1) % 2 ^ 48) ∧
      (0x3E20000 ≤ n → n < 0x3E22000 → s.sameBut [.slate, .loft] t ∧
        let i := (n - 0x3E20000) / 2
        ∀ j, tget 0 t.dev.slate.vrf j = if j = i then v.toNat % 65536 &&& 0x80FF
          else if j = i + 1 then v.toNat / 65536 &&& 0x80FF else tget 0 s.dev.slate.vrf j) ∧
      (0x4100000 ≤ n → n < 0x4210000 → n / 4 % 4 < 3 → s.sameBut [.slate] t ∧ t.dev.slate.repl = s.dev.slate.repl ∧
        tfind t.dev.slate.replStage ((n - 0x4100000) / 4) = some v) ∧
      (0x4400000 ≤ n → n < 0x4500000 → s.sameBut [.blks] t ∧ s.dev.otherBlks ((n - 0x4400000) / 65536) t.dev ∧
        ∀ j, tget 0 (t.dev.blk ((n - 0x4400000) / 65536)).edits j = if j = n / 4 % 16384
          then w32 (v.toNat &&& editMask (n / 4 % 4)) else tget 0 (s.dev.blk ((n - 0x4400000) / 65536)).edits j) ∧
      ((0x4800000 ≤ n ∧ n < 0x4C00000) ∨ (0x4C00000 ≤ n ∧ n < 0x4C20000 ∧ swapPending s.dev (2 * wredBit) = false) ∨
          (0x5000000 ≤ n ∧ n < 0x5100000) →
        s.sameBut [.slate] t ∧ ∀ j, tget 0 t.dev.slate.raw j = if j = n / 4 then v else tget 0 s.dev.slate.raw j) ∧
      (0x4C00000 ≤ n → n < 0x4C20000 → swapPending s.dev (2 * wredBit) = true → s.sameBut [.evt, .pmu] t ∧ s.dev.raised 132 0 t.dev) ∧
      (0x4E00000 ≤ n → n < 0x4E40000 → s.sameBut [.slate, .twin] t ∧ ∀ j, tget t.dev.slate.genDef t.dev.slate.gen j =
        if j = (n - 0x4E00000) / 4 then v.toNat % 65536 else tget s.dev.slate.genDef s.dev.slate.gen j) ∧
      (∀ a, bar2Port n = some a → t.dev.loft.asks = s.dev.loft.asks ++
        [{ id := 33, key := 65536 + s.dev.loft.askN, place := .port a }]) ∧
      (0x10000000 ≤ n →
        let a := s.env.f 0x200900 7 0 * 2 ^ 28 + (n - 0x10000000)
        t.env = s.env ∧ t.dev = hostAsk s.env n s.dev ∧ t.host = s.host ∧ t.hpt = s.hpt ∧ t.pending = s.pending ∧
        ∀ b, mget t.loft b = if s.dev.loft.reserved ≤ a / 256 ∧ unitServed s.dev (a / 256) = true ∧ a ≤ b ∧ b < a + 4
          then byte (b - a) else mget s.loft b))

/-- TBL_READ and TBL_WRITE (R200, R397): whole entries between host memory and a region's table. A read writes the entries
to the address given; a region code beyond 12 is rejected; a write of a table that only Gneiss writes is PARTIAL. -/
def Obligations.TableTransfers : Prop :=
  (∀ (s : State) (k : Fin 4096), canStart s.dev k 0x24 = true →
    let r := bits (argWord s.dev k 4) 3 0
    let n := tblCount s.dev k
    let a := argAddr s.dev k 7
    let l := (List.range n).flatMap (fun i => tblEntry s.dev r (bits (argWord s.dev k 4) 11 8) (argWord s.dev k 5 + i))
    ∃ t, exec (.tblRead k) s = .next t ∧ t.env = s.env ∧ t.loft = s.loft ∧ t.hpt = s.hpt ∧ t.pending = s.pending ∧
      s.dev.sameBut (s.dev.cplParts k) t.dev ∧
      (r ≤ 12 → s.dev.finishes s.env k stOk [n] t.dev ∧
        ∀ b, mget t.host b = if a ≤ b ∧ b < a + l.length then l.getD (b - a) 0 else mget s.host b) ∧
      (12 < r → t.host = s.host ∧ s.dev.finishes s.env k stRejected [] t.dev)) ∧
  (∀ (s : State) (k : Fin 4096) (data : List Byte), canStart s.dev k 0x25 = true →
    let r := bits (argWord s.dev k 4) 3 0
    let n := tblCount s.dev k
    let first := argWord s.dev k 5
    ∃ t, exec (.tblWrite k data) s = .next t ∧
      (12 < r → s.dev.finishes s.env k stRejected [] t.dev ∧ s.sameBut (s.dev.cplParts k) t) ∧
      (r = 2 → s.dev.finishes s.env k stOk [n] t.dev ∧ s.sameBut (.slate :: s.dev.cplParts k) t ∧
        ∀ j, tget 0 t.dev.slate.d j = if first ≤ j ∧ j < first + n
          then leAt (fitLen 8 (slice data (8 * (j - first)) 8)) 0 8 else tget 0 s.dev.slate.d j) ∧
      (r = 3 ∨ r = 4 ∨ r = 5 → 0 < n → s.dev.finishes s.env k stPartial [0] t.dev ∧
        t.dev.slate = s.dev.slate ∧ s.sameBut ([.stat, .evt, .pmu] ++ s.dev.cplParts k) t) ∧
      (r ≤ 12 → ∃ m st, m ≤ n ∧ (st = stOk ∨ st = stPartial) ∧ s.dev.finishes s.env k st [m] t.dev))

/-- Region locks (R198, R199): LOCK_TAKE asks for one or renews it, LOCK_EFFECT puts it into effect, LOCK_RELEASE ends it,
and after 10 ms SLATE_LOCK_EXPIRED ends it with an event. -/
def Obligations.SlateLocks : Prop :=
  (∀ (s : State) (way : Fin 2) (r : Fin 32), s.scopeFree 48 →
    let k := lockKey way r
    let off := 0x700300 + 4 * way.val
    ∃ t, exec (.lockTake way r) s = .next t ∧
      (thas s.dev.slate.held k = true → tfind t.dev.slate.held k = some s.env.third) ∧
      (thas s.dev.slate.held k = false → thas t.dev.slate.held k = false ∧ k ∈ t.dev.slate.lockWait) ∧
      s.wrote off (setBits (s.env.reg off) r r 1 &&& 0xFFFFFFFF) [.slate] t) ∧
  (∀ (s : State) (way : Fin 2) (r : Fin 32), lockKey way r ∈ s.dev.slate.lockWait →
    ∃ t, exec (.lockEffect way r) s = .next t ∧ tfind t.dev.slate.held (lockKey way r) = some s.env.third ∧
      lockKey way r ∉ t.dev.slate.lockWait ∧ s.sameBut [.slate] t) ∧
  (∀ (s : State) (way : Fin 2) (r : Fin 32), s.scopeFree 48 →
    let off := 0x700300 + 4 * way.val
    ∃ t, exec (.lockRelease way r) s = .next t ∧ tfind t.dev.slate.held (lockKey way r) = none ∧
      lockKey way r ∉ t.dev.slate.lockWait ∧
      s.wrote off (setBits (s.env.reg off) r r 0 &&& 0xFFFFFFFF) [.slate] t) ∧
  (∀ (s : State) (way : Fin 2) (r : Fin 32) (since : Nat), tfind s.dev.slate.held (lockKey way r) = some since →
    since + ms 10 ≤ s.env.third →
    let off := 0x700300 + 4 * way.val
    ∃ t, exec (.slateLockExpired way r) s = .next t ∧ tfind t.dev.slate.held (lockKey way r) = none ∧
      s.dev.raised 128 4 t.dev ∧ s.wrote off (setBits (s.env.reg off) r r 0) [.slate, .evt, .pmu] t)

/-- Learning (R180, R181, R182, R200): LEARN_REQUEST_SERVE serves the queue whose turn it is: it refreshes the stored entry,
stores a new one in the first usable candidate slot or by moves, or counts the request; X_INSERT and X_DELETE join the host
queue; X_FLUSH starts a walk over all buckets, and the walk that passes the last bucket has invalidated the entries that
match and completes. A request is served behind the lookups of its core cycle, and a LEARN waits for the earlier lookups of
its thread (R175, R187). A host insert that a lock stops is counted at block 0 by the model's choice (log 102). -/
def Obligations.SlateLearning : Prop :=
  (∀ (s : State) (q : Nat) (r : LearnReq) (rest : List LearnReq),
    let d := portsTake s.env s.dev
    learnNext d = some q → q < 16 → (d.blk q).learnQ = r :: rest →
    let key := xKey s.env r.profile r.key
    let on := s.env.b (0x700000 + 8 * r.profile) 24
    let lock := learnLocked s.env d r.profile key
    let waits := ∃ x ∈ d.slate.reqs, x.1 < r.after ∧ x.2.thread = r.thread ∧ x.2.kind.waits = true
    let new : XSlot := { key := key, result := r.result, valid := true, activity := true, profile := r.profile,
                         static := r.static }
    ∃ t, exec .learnRequestServe s = .next t ∧ s.sameBut [.evt, .stat, .pmu, .blks, .slate, .twin] t ∧
      (waits → t.dev = d) ∧
      (¬ waits → (t.dev.blk q).learnQ = rest ∧ t.dev.slate.learnRr = (q + 1) % 17 ∧ d.otherBlks q t.dev ∧
      (on = false → t.dev.slate.x = d.slate.x ∧ blkCnt t.dev q 69 = (blkCnt d q 69 + 1) % 2 ^ 48) ∧
      (on = true → lock = true → t.dev.slate.x = d.slate.x ∧
        blkCnt t.dev q 71 = (blkCnt d q 71 + 1) % 2 ^ 48) ∧
      (∀ i, on = true → lock = false → xFind s.env d r.profile key = some i → (d.xSlot i).static = true →
        t.dev.slate.x = d.slate.x ∧ blkCnt t.dev q 70 = (blkCnt d q 70 + 1) % 2 ^ 48) ∧
      (∀ i, on = true → lock = false → xFind s.env d r.profile key = some i → (d.xSlot i).static = false →
        t.dev.xSlot i = { d.xSlot i with result := r.result, activity := true, idle := 0, parBad := false } ∧
        (∀ j, j ≠ i → t.dev.xSlot j = d.xSlot j) ∧ devCnt t.dev 7 = (devCnt d 7 + 1) % 2 ^ 48) ∧
      (∀ i, on = true → lock = false → xFind s.env d r.profile key = none →
        (xCand s.env r.profile key).find? (xUsable d) = some i →
        t.dev.xSlot i = new ∧ (∀ j, j ≠ i → t.dev.xSlot j = d.xSlot j) ∧
        devCnt t.dev 6 = (devCnt d 6 + 1) % 2 ^ 48) ∧
      (on = true → lock = false → xFind s.env d r.profile key = none →
        (∃ i ∈ xCand s.env r.profile key, t.dev.xSlot i = new ∧ devCnt t.dev 6 = (devCnt d 6 + 1) % 2 ^ 48) ∨
        (t.dev.slate.x = d.slate.x ∧ d.raised 128 5 t.dev)))) ∧
  (∀ (s : State) (r : LearnReq) (rest : List LearnReq),
    let d := portsTake s.env s.dev
    learnNext d = some 16 → d.slate.hostQ = r :: rest →
    r.op = 1 ∨ r.op = 2 → (s.dev.slot r.slot).used = true → (s.dev.slot r.slot).finished = false →
    let key := xKey s.env r.profile r.key
    let lock := learnLocked s.env d r.profile key
    ∃ t, exec .learnRequestServe s = .next t ∧ t.dev.slate.hostQ = rest ∧
      (lock = true → t.dev.slate.x = d.slate.x ∧ s.dev.finishes s.env r.slot stRejected [] t.dev ∧
        (r.op = 1 → (s.dev.slot r.slot).forHead = false → blkCnt t.dev 0 71 = (blkCnt d 0 71 + 1) % 2 ^ 48)) ∧
      (lock = false → r.op = 2 → ∀ i, xFind s.env d r.profile key = some i →
        (t.dev.xSlot i).valid = false ∧ (∀ j, j ≠ i → t.dev.xSlot j = d.xSlot j) ∧
        s.dev.finishes s.env r.slot stOk [1] t.dev) ∧
      (lock = false → r.op = 2 → xFind s.env d r.profile key = none → t.dev.slate.x = d.slate.x ∧
        s.dev.finishes s.env r.slot stOk [0] t.dev) ∧
      (lock = false → r.op = 1 → ∃ st, (st = stOk ∨ st = stNoRoom) ∧ s.dev.finishes s.env r.slot st [] t.dev ∧
        (st = stOk → ∃ i ∈ xCand s.env r.profile key, (t.dev.xSlot i).key = key ∧ (t.dev.xSlot i).result = r.result ∧
          (t.dev.xSlot i).valid = true ∧ (t.dev.xSlot i).profile = r.profile ∧ (t.dev.xSlot i).static = r.static) ∧
        (st = stNoRoom → t.dev.slate.x = d.slate.x)) ∧
      s.sameBut ([.evt, .stat, .pmu, .blks, .slate, .twin] ++ s.dev.cplParts r.slot) t) ∧
  (∀ (s : State) (k : Fin 4096), canStart s.dev k 0x20 = true →
    ∃ t, exec (.xInsert k) s = .next t ∧ (t.dev.slot k).running = true ∧ s.sameBut [.cmd, .slate] t ∧
      t.dev.slate = { s.dev.slate with hostQ := s.dev.slate.hostQ ++
        [{ profile := bits (argWord s.dev k 4) 3 0, key := argKey s.dev k,
           result := argWord s.dev k 9 + 2 ^ 32 * argWord s.dev k 10, op := 1, static := bit (argWord s.dev k 4) 4,
           slot := k }] }) ∧
  (∀ (s : State) (k : Fin 4096), canStart s.dev k 0x21 = true →
    ∃ t, exec (.xDelete k) s = .next t ∧ (t.dev.slot k).running = true ∧ s.sameBut [.cmd, .slate] t ∧
      t.dev.slate = { s.dev.slate with hostQ := s.dev.slate.hostQ ++
        [{ profile := bits (argWord s.dev k 4) 3 0, key := argKey s.dev k, result := 0, op := 2, slot := k }] }) ∧
  (∀ (s : State) (k : Fin 4096), gnsStart s.dev k 0x22 = true → s.dev.slate.flush = none →
    ∃ t, exec (.xFlush k) s = .next t ∧ (t.dev.slot k).running = true ∧
      t.dev.slate = { s.dev.slate with flush := some { slot := k, since := s.env.third } } ∧ s.sameBut [.cmd, .slate] t) ∧
  (∀ (s : State) (f : FlushJob), s.dev.slate.flush = some f → s.dev.gns.dead = false → f.next < 262144 →
    (s.dev.slot f.slot).used = true → (s.dev.slot f.slot).finished = false → f.since + ns 16 * 262144 ≤ s.env.third →
    let go := s.dev.slate.x.filterMap (fun kv => if f.next ≤ kv.1 / 4 ∧ kv.1 / 4 < 262144 ∧
      xFlushes s.dev (bits (argWord s.dev f.slot 4) 3 0) (argAddr s.dev f.slot 5)
      (argAddr s.dev f.slot 7) (bit (argWord s.dev f.slot 4) 4) kv.1 kv.2 then some kv.1 else none)
    let d := flushTick s.env s.dev
    d.slate.flush = none ∧ s.dev.finishes s.env f.slot stOk [f.count + go.length] d ∧
      (∀ i, d.xSlot i = if i ∈ go then { s.dev.xSlot i with valid := false } else s.dev.xSlot i) ∧
      s.dev.sameBut (.slate :: s.dev.cplParts f.slot) d)

/-- The ager and the scrubber (R188, R189, R195, R197, R371): AGEING_SWEEP_START begins the epoch's sweep, AGER_BUCKET_READ
ages the slots of one bucket, behind the lookups of its core cycle; a device that has become a standby ends its sweep.
SCRUB_READ reads the next entry and poisons one that fails parity; whether its parity has been upset is the free value of
log 43. -/
def Obligations.SlateUpkeep : Prop :=
  (∀ (s : State), s.env.b 0x700100 0 = true → isStandby s.env = false → s.dev.slate.sweep = none →
    s.dev.slate.epochStart + ms (max 10 (s.env.f 0x700100 31 16)) ≤ s.env.third →
    ∃ t, exec .ageingSweepStart s = .next t ∧
      t.dev.slate = { s.dev.slate with sweep := some 0, epochStart := s.env.third } ∧ s.sameBut [.slate] t) ∧
  (∀ (s : State) (b : Nat), s.dev.slate.sweep = some b → isStandby s.env = true →
    ∃ t, exec .agerBucketRead s = .next t ∧ t.dev.slate = { s.dev.slate with sweep := none } ∧ s.sameBut [.slate] t) ∧
  (∀ (s : State) (b : Nat),
    let d := portsTake s.env s.dev
    s.dev.slate.sweep = some b → isStandby s.env = false →
    ∃ t, exec .agerBucketRead s = .next t ∧ t.dev.slate.sweep = (if b + 1 < 262144 then some (b + 1) else none) ∧
      (∀ i, i / 4 ≠ b → t.dev.xSlot i = d.xSlot i) ∧
      (∀ i, i / 4 = b →
        let x := d.xSlot i
        let lim := s.env.f (0x700000 + 8 * x.profile) 23 20
        if x.valid = false ∨ x.static = true ∨ x.poison = true ∨ lim = 0 ∨ xLocked d i = true then t.dev.xSlot i = x
        else if x.activity = true then t.dev.xSlot i = { x with activity := false, idle := 0 }
        else if x.idle + 1 = lim then t.dev.xSlot i = { x with valid := false }
        else t.dev.xSlot i = { x with idle := (x.idle + 1) % 16 }) ∧
      s.sameBut [.slate, .evt, .stat, .pmu, .twin] t) ∧
  (∀ (s : State), s.env.b 0x700400 0 = true →
    s.dev.slate.scrubTime + 2 * max 16 (s.env.f 0x700400 31 16) ≤ s.env.third →
    let e := scrubEntry s.dev.slate.scrubAt
    let d := if Config.parityUpset s.dev.free then parHurt e s.dev else s.dev
    ∃ t, exec .scrubRead s = .next t ∧ t.dev.slate.scrubAt = (s.dev.slate.scrubAt + 1) % 6586368 ∧
      t.dev.slate.scrubTime = s.env.third ∧
      (e.1 = tabX → (d.xSlot e.2).parBad = true → (d.xSlot e.2).poison = false →
        (t.dev.xSlot e.2).poison = true ∧ s.dev.raised 128 3 t.dev) ∧
      (e.1 = tabX → (d.xSlot e.2).parBad = false ∨ (d.xSlot e.2).poison = true →
        t.dev.slate.x = d.slate.x ∧ t.dev.evt = s.dev.evt) ∧
      (e.1 ≠ tabX → parFails d e.1 e.2 = true → tget false d.slate.poison (parKey e.1 e.2) = false →
        tget false t.dev.slate.poison (parKey e.1 e.2) = true ∧ s.dev.raised 128 3 t.dev) ∧
      s.sameBut [.slate, .evt, .pmu, .free] t)

/-- Slate-P (R192, R193, R200, R397): P_UPDATE begins a batch that fits whole, or changes nothing; the batch's subtrees
become visible one after another, one a core cycle by the model's choice (log 103), in the order of its records, and with
the last the command completes; NODE_FREE returns a replaced node no
sooner than 2 us after its parent was rewritten. -/
def Obligations.RouteUpdates : Prop :=
  (∀ (s : State) (k : Fin 4096) (l : List RouteRec), gnsStart s.dev k 0x23 = true → s.dev.slate.pJob = none →
    let recs := l.take (argWord s.dev k 7)
    let bad := argWord s.dev k 7 = 0 ∨ 65536 < argWord s.dev k 7 ∨ recs.any (recBad s.dev) = true
    let steps : List RouteStep := recs.map (fun r =>
      { root := (vrfRoot s.dev r.vrf.toNat r.v6).getD 0, v6 := r.v6, del := r.delete, pfx := recPfx r, len := r.len.toNat,
        result := r.result.toNat })
    let all := steps.foldl (fun (a : Option SlateSt) r => a.bind (pRecord s.env.third r)) (some s.dev.slate)
    ∃ t, exec (.pUpdate k l) s = .next t ∧ s.sameBut (.slate :: s.dev.cplParts k) t ∧
      (bad → t.dev.slate = s.dev.slate ∧ s.dev.finishes s.env k stRejected [] t.dev) ∧
      (¬ bad → all = none → t.dev.slate = s.dev.slate ∧
        s.dev.finishes s.env k stNoRoom [nodesFree s.dev, resultsFree s.dev] t.dev) ∧
      (∀ x, ¬ bad → all = some x → (t.dev.slot k).running = true ∧
        t.dev.slate = { s.dev.slate with pJob := some { slot := k, todo := steps } })) ∧
  (∀ (s : State) (j : PJob) (r : RouteStep) (rest : List RouteStep) (x : SlateSt), s.dev.slate.pJob = some j →
    j.todo = r :: rest → j.at_ = 0 → pEntries r = 1 → s.dev.gns.dead = false →
    (s.dev.slot j.slot).used = true → (s.dev.slot j.slot).finished = false →
    pRecord s.env.third r s.dev.slate = some x →
    let d := pTick s.env s.dev
    (rest ≠ [] → d = { s.dev with slate := { x with pJob := some { j with todo := rest, old := [] } } }) ∧
      (rest = [] → d.slate = { x with pJob := none } ∧ s.dev.sameBut (.slate :: s.dev.cplParts j.slot) d ∧
        s.dev.finishes s.env j.slot stOk [12288 - x.nodeUsed.length, 786432 - x.resUsed.length] d)) ∧
  (∀ (s : State) (j : PJob) (r : RouteStep) (rest : List RouteStep) (old : List Nat) (x y : SlateSt),
    s.dev.slate.pJob = some j → j.todo = r :: rest → j.at_ + 1 < pEntries r → s.dev.gns.dead = false →
    (if j.at_ = 0 then pRoute r s.dev.slate = some (old, x) else (old, x) = (j.old, s.dev.slate)) →
    pEntry s.env.third r j.at_ x = some y →
    pTick s.env s.dev =
      { s.dev with slate := { y with pJob := some { j with at_ := j.at_ + 1, old := old } } }) ∧
  (∀ (s : State) (n : Fin 12288) (p : Nat × Nat), s.dev.slate.nodeFree.find? (fun q => q.1 == n.val) = some p →
    p.2 + us 2 ≤ s.env.third →
    ∃ t, exec (.nodeFree n) s = .next t ∧ (∀ q ∈ t.dev.slate.nodeFree, q.1 ≠ n) ∧
      t.dev.slate.nodeUsed = s.dev.slate.nodeUsed.erase n ∧ t.dev.slate.nodes = s.dev.slate.nodes ∧ s.sameBut [.slate] t)

/-! ## Ridge (chapter 08) -/

/-- Ridge's shingles (R203, R204, R206, R207, R208, R210, R219, R232, R240): STAGE1_SHINGLE_SEND sends one shingle of the
crossing whose turn it is, the first under the stream's next sequence number, with its tag and CRC; SHINGLE_ARRIVE_MIDDLE queues it for its output in a tile of
the middle pool or its slack; STAGE2_SHINGLE_SEND sends the head of the queue its cycle meets. A shingle whose CRC fails, or
that finds no tile, is lost and counted. -/
def Obligations.RidgeShingles : Prop :=
  (∀ (s : State) (b : Fin 16) (err : Bool) (i : Nat), (s.dev.blk b).sent1 ≠ s.env.cycle + 1 →
    let j := midOf s.env b
    let d := stage1Ready s.env b s.dev
    pickSend s.env d b = some i →
    let x := d.send i
    let k := strm x.outBlk x.cg
    let seq := if x.next = 0 then tget 0 (d.blk b).seqCnt k else x.seq
    let bad := (d.frame x.frame).bad || x.badTile || err
    let last := decide (x.next + 1 = shingleCount x.data.length) || (bad && x.next != 0)
    let sh : Shingle := { send := i, src := b, out := x.outBlk, cg := x.cg, tag := seq % 1024, idx := x.next, last := last,
                          bad := last && bad, valid := if last then (x.data.length + 32) % 64 else 0, cycle := s.env.cycle }
    let crc := shingleCrc { x with desc := x.desc.set 0 (seq * 256 + (x.desc.getD 0 0) % 256) } sh
    ∃ t, exec (.stage1ShingleSend b err) s = .next t ∧
      (err = false ∨ x.badTile = true ∨ x.next ≠ 0 →
        (t.dev.blk j).toMid = (d.blk j).toMid ++ [{ sh with crc := crc }] ∧
        (t.dev.blk b).sent1 = s.env.cycle + 1 ∧ (t.dev.send i).next = x.next + 1 ∧ (t.dev.send i).seq = seq ∧
        (x.next = 0 → tget 0 (t.dev.blk b).seqCnt k = (seq + 1) % 2 ^ 24 ∧
          tget 0 (t.dev.blk b).unacked k = tget 0 (d.blk b).unacked k + 1)) ∧
      (err = true → x.badTile = false → x.next = 0 → (t.dev.blk j).toMid = (d.blk j).toMid ∧
        (t.dev.blk b).seqCnt = (d.blk b).seqCnt) ∧
      s.sameBut [.evt, .stat, .pmu, .blks, .frames, .sends, .loft, .gut] t) ∧
  (∀ (s : State) (m : Fin 16) (crc : Bool) (sh : Shingle) (rest : List Shingle), (s.dev.blk m).toMid = sh :: rest →
    let k := strm sh.out sh.cg
    let q := tget [] (s.dev.blk m).voq k
    let room := (∃ l, q.getLast? = some l ∧ tget 0 (s.dev.blk m).midTiles l.tile / 16 < 4) ∨
      (lowestFree (s.dev.blk m).alloc 0 < 32768 ∧
        (poolGrants s.env s.dev m (midPool s.env m sh.cg) 1 = true ∨ poolSlack s.dev m (midPool s.env m sh.cg) < 40))
    ∃ t, exec (.shingleArriveMiddle m crc) s = .next t ∧ (t.dev.blk m).toMid = rest ∧
      (crc = true → (t.dev.blk m).voq = (s.dev.blk m).voq ∧ blkCnt t.dev m 83 = (blkCnt s.dev m 83 + 1) % 2 ^ 48) ∧
      (crc = false → room → (∃ u, tget [] (t.dev.blk m).voq k = q ++ [{ sh with tile := u }]) ∧
        (t.dev.blk m).hwm = if sh.cg = 1 then max (s.dev.blk m).hwm (q.length + 1) else (s.dev.blk m).hwm) ∧
      (crc = false → ¬ room → (t.dev.blk m).voq = (s.dev.blk m).voq ∧
        blkCnt t.dev m 84 = (blkCnt s.dev m 84 + 1) % 2 ^ 48) ∧
      s.sameBut [.evt, .stat, .pmu, .blks] t ∧ s.dev.otherBlks m t.dev) ∧
  (∀ (s : State) (m : Fin 16) (crc : Bool) (sh : Shingle), (s.dev.blk m).sent2 ≠ s.env.cycle + 1 →
    pickStage2 s.env s.dev m = some sh →
    let k := strm sh.out sh.cg
    ∃ t, exec (.stage2ShingleSend m crc) s = .next t ∧ (t.dev.blk m).sent2 = s.env.cycle + 1 ∧
      tget [] (t.dev.blk m).voq k = (tget [] (s.dev.blk m).voq k).tail ∧
      (crc = false → (t.dev.blk sh.out).toOut = (s.dev.blk sh.out).toOut ++ [{ sh with cycle := s.env.cycle }]) ∧
      (crc = true → (t.dev.blk sh.out).toOut = (s.dev.blk sh.out).toOut ∧
        blkCnt t.dev m 83 = (blkCnt s.dev m 83 + 1) % 2 ^ 48) ∧
      s.sameBut [.evt, .stat, .pmu, .blks] t)

/-- Ordering at the output (R204, R209, R211, R212, R213, R214, R219, R221, R240): a descriptor that bears the expected number
is ordered, the number advances and a credit starts back; a later one is held, and shingles join it by tag; one behind the
expected number is discarded and counted; CREDIT_RETURN brings a credit home;
RIDGE_SEQ_SKIP passes over a missing number and RIDGE_ASM_DROP ends a frame that stays incomplete. FREEZE and UNFREEZE
write Ridge's freeze bit, HWM_CLEAR clears the greatest Bedrock depths of all middles and leaves the bit. -/
def Obligations.RidgeOrdering : Prop :=
  (∀ (s : State) (o : Fin 16) (crc : Bool) (sh : Shingle) (rest : List Shingle), (s.dev.blk o).toOut = sh :: rest →
    let k := strm sh.src sh.cg
    let ex := tget 0 (s.dev.blk o).expect k
    let desc := (s.dev.send sh.send).desc
    let seq := bits (desc.getD 0 0) 31 8
    let held := fun (kv : Nat × Asm) =>
      kv.2.out = o ∧ kv.2.src = sh.src ∧ kv.2.cg = sh.cg ∧ kv.2.desc.isSome = true ∧ kv.2.orderedAt = none
    ∃ t, exec (.shingleArriveOutput o crc) s = .next t ∧ (t.dev.blk o).toOut = rest ∧
      (crc = true → ((s.dev.send sh.send).done = false → t.dev.asms = s.dev.asms) ∧ blkCnt t.dev o 83 = (blkCnt s.dev o 83 + 1) % 2 ^ 48) ∧
      (crc = false → sh.idx = 0 → 2 ^ 23 ≤ (seq + 2 ^ 24 - ex) % 2 ^ 24 →
        ((s.dev.send sh.send).done = false → t.dev.asms = s.dev.asms) ∧
        blkCnt t.dev o 79 = (blkCnt s.dev o 79 + 1) % 2 ^ 48) ∧
      (crc = false → sh.idx = 0 → seq = ex → asmOf s.dev o sh = none → (∀ kv ∈ s.dev.asms, ¬ held kv) →
        tget 0 (t.dev.blk o).expect k = (seq + 1) % 2 ^ 24 ∧
        (t.dev.blk sh.src).credits = (s.dev.blk sh.src).credits ++ [(strm o sh.cg, s.env.third)]) ∧
      (crc = false → sh.idx = 0 → seq ≠ ex → (seq + 2 ^ 24 - ex) % 2 ^ 24 < 2 ^ 23 → asmOf s.dev o sh = none →
        (t.dev.blk o).expect = (s.dev.blk o).expect ∧ (t.dev.asm s.dev.nextAsm).orderedAt = none ∧
        (t.dev.asm s.dev.nextAsm).heldAt = s.env.third ∧ (t.dev.asm s.dev.nextAsm).seq = seq ∧
        (t.dev.asm s.dev.nextAsm).desc = some desc) ∧
      (∀ i, crc = false → sh.idx ≠ 0 → asmOf s.dev o sh = some i → (s.dev.asm i).orderedAt = none →
        (s.dev.asm i).copies = [] → (s.dev.asm i).dead = false → (t.dev.asm i).got = (s.dev.asm i).got ++ [sh.idx]) ∧
      s.sameBut (egressParts ++ [.sends, .free]) t) ∧
  (∀ (s : State) (inp out : Fin 16) (br : Bool) (c : Nat × Nat),
    let k := strm out br.toNat
    (s.dev.blk inp).credits.find? (fun c => c.1 == k) = some c →
    ∃ t, exec (.creditReturn inp out br) s = .next t ∧
      (t.dev.blk inp).credits = (s.dev.blk inp).credits.erase c ∧
      tget 0 (t.dev.blk inp).unacked k = tget 0 (s.dev.blk inp).unacked k - 1 ∧
      s.sameBut [.blks] t ∧ s.dev.otherBlks inp t.dev) ∧
  (∀ (s : State) (o src : Fin 16) (br : Bool) (i : Nat) (a : Asm),
    let k := strm src br.toNat
    let ex := tget 0 (s.dev.blk o).expect k
    let held := fun (kv : Nat × Asm) => kv.2.out = o ∧ kv.2.src = src ∧ kv.2.cg = br.toNat ∧
      kv.2.desc.isSome = true ∧ kv.2.orderedAt = none
    (i, a) ∈ s.dev.asms → held (i, a) → a.heldAt + us (skipUs s.env) ≤ s.env.third →
    (∀ kv ∈ s.dev.asms, held kv → kv.2.seq ≠ ex) →
    ∃ t, exec (.ridgeSeqSkip o src br) s = .next t ∧ t.dev.evCnt 130 0 = s.dev.evCnt 130 0 + 1 ∧
      (strm o br.toNat, s.env.third) ∈ (t.dev.blk src).credits ∧
      ((∀ kv ∈ s.dev.asms, held kv → kv.2.seq ≠ (ex + 1) % 2 ^ 24) →
        tget 0 (t.dev.blk o).expect k = (ex + 1) % 2 ^ 24) ∧
      s.sameBut (egressParts ++ [.free]) t) ∧
  (∀ (s : State) (o : Fin 16) (i at_ : Nat), (s.dev.asm i).out = o → (s.dev.asm i).orderedAt = some at_ →
    (s.dev.asm i).whole = false → (s.dev.asm i).dead = false → (∀ j, (s.dev.asm j).out < 16) → at_ + us (asmUs s.env) ≤ s.env.third →
    ∃ t, exec (.ridgeAsmDrop o i) s = .next t ∧ t.dev.evCnt 130 1 = s.dev.evCnt 130 1 + 1 ∧
      (thas t.dev.asms i = true → (t.dev.asm i).dead = true) ∧ s.sameBut egressParts t) ∧
  (∀ (s : State), s.scopeFree 49 →
    let old := s.env.reg 0x800000 &&& (0xFFFFFFFF ^^^ 1)
    (∃ t, exec .freeze s = .next t ∧ t.dev.frozen = true ∧ s.wrote 0x800000 (old ||| 1) [.frozen] t) ∧
    (∃ t, exec .unfreeze s = .next t ∧ t.dev.frozen = false ∧ s.wrote 0x800000 old [.frozen] t) ∧
    (∃ t, exec .hwmClear s = .next t ∧ (∀ j, j < 16 → (t.dev.blk j).hwm = 0) ∧
      (∀ j, (t.dev.blk j).voq = (s.dev.blk j).voq) ∧ t.dev.frozen = s.env.b 0x800000 0 ∧
      s.wrote 0x800000 (old ||| s.env.f 0x800000 0 0) [.frozen, .blks] t))

/-! ## Thatch and the egress (chapters 09 and 10) -/

/-- Deep queues and the Drip audit (R224, R225, R238, R239, R240, R244, R245, R351, R397): SPILL_WRITE_DONE puts the oldest copy
being spilled into Loft, with the checksum of each of its tiles, and returns its output charge; LOFT_READ_BACK brings the
oldest spilled copy back while the queue is below refill, tile by tile where it may go by cut-through (log 91), or loses it
where a tile of it is on a channel that does not serve; DRIP_AUDIT takes a snapshot of a region's allocation map, one at a time and a region there
is; DRIP_AUDIT_END finds what no chain holds now and at the audit before, reclaims it when asked, and completes. -/
def Obligations.DeepQueues : Prop :=
  (∀ (s : State) (n : Fin 96) (q : Fin 15) (c : Nat) (more : List Nat) (d : Dev),
    (s.dev.queue n q).find? (fun c => (s.dev.copy c).spilling && (s.dev.copyAsm c).whole && !(s.dev.copyAsm c).dead) =
      some c →
    let k := s.dev.copy c
    let a := s.dev.asm k.asm
    loftTake (ceilDiv a.len 256 - k.loft.length) s.dev = some (more, d) →
    ceilDiv a.len 256 ≤ k.loft.length ∨ loftRoom s.env s.dev n q (ceilDiv a.len 256 - k.loft.length) = true →
    let units := k.loft ++ more
    let place := csumPlace s.dev
    ∃ t, exec (.spillWriteDone n q) s = .next t ∧
      t.dev.copy c = { k with loft := units, spilled := true, spilling := false, charge := 0 } ∧
      poolC t.dev (blkOf n) k.pool = poolC s.dev (blkOf n) k.pool - k.charge ∧
      (units.Nodup → ∀ i u b, units[i]? = some u → b < 256 → mget t.loft (256 * u + b) = a.bytes.getD (256 * i + b) 0) ∧
      (units.Nodup → (∀ u ∈ units, place u / 256 ∉ units) → ∀ u ∈ units,
        leNat (mread t.loft (place u) 4) = crc32c (mread t.loft (256 * u) 256)) ∧
      (∀ x, x / 256 ∉ units → (∀ u ∈ units, x < place u ∨ place u + 4 ≤ x) → mget t.loft x = mget s.loft x) ∧
      t.env = s.env ∧ t.host = s.host ∧ t.hpt = s.hpt ∧ t.pending = s.pending ∧ s.dev.sameBut egressParts t.dev) ∧
  (∀ (s : State) (n : Fin 96) (q : Fin 15) (err : Bool) (c : Nat), backNext s.dev n q = some c →
    let k := s.dev.copy c
    let a := s.dev.asm k.asm
    let need := ceilDiv a.len 256
    let now := if k.started = true ∨ ctAllowed s.env s.dev n { k with readBack := true } a = true then k.loft.take 1
      else k.loft
    k.spilled = false ∨ queueCharge s.dev n q < bits (qLoft s.env n q) 31 16 →
    ∃ t, exec (.loftReadBack n q err) s = .next t ∧
      ((∀ u ∈ now, unitServed s.dev u = true) → err = false ∨ now = [] →
        (∀ u ∈ now, leNat (mread s.loft (csumPlace s.dev u) 4) = crc32c (mread s.loft (256 * u) 256)) →
        k.spilled = false ∨ poolGrants s.env s.dev (blkOf n) k.pool need = true → (s.dev.port n).tx.isSome = true →
        t.dev.copy c = { k with spilled := false, readBack := true, charge := need, loft := k.loft.drop now.length,
                                back := k.back + now.length } ∧
        poolC t.dev (blkOf n) k.pool = poolC s.dev (blkOf n) k.pool + (if k.spilled then need else 0)) ∧
      ((∃ u ∈ now, unitServed s.dev u = false) → k.started = false → tfind t.dev.copies c = none ∧
        queueCnt t.dev n q 4 = (queueCnt s.dev n q 4 + 1) % 2 ^ 48) ∧
      s.sameBut egressParts t) ∧
  (∀ (s : State) (k : Fin 4096), gnsStart s.dev k 0x40 = true → s.dev.loft.drip = none →
    let r := bits (argWord s.dev k 4) 4 0
    ∃ t, exec (.dripAudit k) s = .next t ∧
      (r ≤ 16 → t.dev.loft.drip = some (k.val, r, bit (argWord s.dev k 4) 5, dripMap s.dev r) ∧
        (t.dev.slot k).running = true ∧ (r < 16 → (t.dev.blk r).touched = []) ∧ (r = 16 → t.dev.loft.touched = []) ∧
        s.sameBut [.cmd, .blks, .loft] t) ∧
      (16 < r → s.dev.finishes s.env k stRejected [] t.dev ∧ s.sameBut (s.dev.cplParts k) t)) ∧
  (∀ (s : State) (k r : Nat) (rc : Bool) (snap : List Nat), s.dev.loft.drip = some (k, r, rc, snap) →
    s.dev.gns.dead = false → (s.dev.slot k).used = true → (s.dev.slot k).finished = false →
    let cand := snap.filter (fun u => !(dripReached s.dev r u) && !(dripTouched s.dev r u) && !(dripQuar s.dev r u))
    let leaked := cand.filter (fun u => (if r < 16 then (s.dev.blk r).dripOld else s.dev.loft.dripOld).contains u)
    ∃ t, exec .dripAuditEnd s = .next t ∧ t.dev.loft.drip = none ∧
      s.dev.finishes s.env k stOk [leaked.length, if rc then leaked.length else 0,
        min 4096 cand.length + flagAt (decide (4096 < cand.length)) 31] t.dev ∧
      (r < 16 → (t.dev.blk r).dripOld = cand.take 4096) ∧ (r = 16 → t.dev.loft.dripOld = cand.take 4096) ∧
      (rc = false → r = 16 → t.dev.loft.alloc = s.dev.loft.alloc) ∧
      s.sameBut ([.blks, .loft, .evt, .pmu] ++ s.dev.cplParts k) t)

/-- The end of a transmission (R34, R249, R332): a frame or a flow-control frame that has left whole, or stomped, is counted
at its port and queue; a tile failure found at the end stomps it,
for every copy of the frame (R240). -/
def Obligations.TransmitEnd : Prop :=
  ∀ (s : State) (n : Fin 96) (err : Bool) (x : Tx), (s.dev.port n).tx = some x → x.bytes ≠ [] →
    let out := match x.stomp with
      | some m => stompBytes (x.bytes.take m)
      | none => x.bytes
    ∃ t, exec (.frameTransmitEnd n err) s = .next t ∧
      (x.endAt ≤ s.env.third →
        (∃ k, x.flow = some k) ∨ (x.flow = none ∧ (err = false ∨ txEnding s.env s.dev n x = true) ∧
          (x.stomp.isSome = true ∨ copyWhole (s.dev.copy x.copy) (s.dev.copyAsm x.copy) = true)) →
        (t.dev.port n).lastTx = { bytes := out, tOut := x.tOut, stomped := x.stomp.isSome } ∧
        portCnt t.dev n 2 = (portCnt s.dev n 2 + 1) % 2 ^ 48 ∧
        portCnt t.dev n 3 = (portCnt s.dev n 3 + out.length) % 2 ^ 48 ∧
        (x.flow = none → x.queue < 16 → queueCnt t.dev n x.queue 0 = (queueCnt s.dev n x.queue 0 + 1) % 2 ^ 48)) ∧
      (∀ k, x.flow = some k → k.1 < 9 → x.stomp = none → x.endAt ≤ s.env.third →
        portCnt t.dev n (if k.1 = 8 then 37 else 38 + k.1) =
          (portCnt s.dev n (if k.1 = 8 then 37 else 38 + k.1) + 1) % 2 ^ 48) ∧
      (x.flow = none → x.stomp = none → err = true → (s.dev.copy x.copy).started = true → (s.dev.copy x.copy).port = n →
        x.copy ∈ (s.dev.copyAsm x.copy).copies → (s.dev.port n).preempted = none → ∃ x', (t.dev.port n).tx = some x' ∧ x'.copy = x.copy ∧
        x'.stomp = some (x.sentBefore + txSent s.env s.dev n x) ∧
        portCnt t.dev n 55 = (portCnt s.dev n 55 + 1) % 2 ^ 48) ∧
      s.sameBut egressParts t

/-- Preemption, gates, shapers and observations (R57, R249, R253, R256, R261, R269, R270, R277, R278): PREEMPT stops a
preemptable frame at a point that leaves both its parts long enough and starts the express frame that waits; in its preamble
it gives way to a Q15 copy, which goes out under that preamble; GATE_CHANGE puts the window set's gates into force;
SHAPER_BUCKET_REFILL brings every enabled bucket to now; QUEUE_SAMPLE takes every queue's depth and head delay at one instant,
when the period has passed; OBS_RESET clears a port's observations. -/
def Obligations.EgressInstants : Prop :=
  (∀ (s : State) (n : Fin 96) (x : Tx) (q c : Nat), (s.dev.port n).tx = some x → x.flow = none → x.stomp = none →
    preActive s.dev n = true → express s.env n x.queue = false → txAllowed s.env s.dev n = true →
    (s.dev.port n).flowQ = [] →
    let sent := txSent s.env s.dev n x
    let frag := 64 * (s.env.f (pbReg n 0x40) 9 8 + 1)
    let idle := s.dev.setPort n { s.dev.port n with tx := none }
    let d := s.dev.setPort n { s.dev.port n with tx := none, preempted := some { x with sentBefore := x.sentBefore + sent } }
    8 * 24000000 ≤ (s.env.third - x.startAt) * portRate s.dev n → frag ≤ sent → 64 ≤ x.bytes.length - x.sentBefore - sent →
    2 * frag + 4 ≤ x.bytes.length → expressWaits s.env idle n = true → expressWaits s.env d n = true →
    pickQueue s.env d n = some q → (d.queue n q).head? = some c →
    tooOld s.env n q (d.copyAsm c) = false → oversize s.env d n q (lenTx d c) = false →
    ((d.copyAsm c).whole = true → lenTx d c ≤ maxLen s.env n) →
    ∃ t, exec (.preempt n) s = .next t ∧
      (t.dev.port n).preempted = some { x with sentBefore := x.sentBefore + sent } ∧
      (∃ x', (t.dev.port n).tx = some x' ∧ x'.copy = c ∧ x'.queue = q ∧ x'.startAt = s.env.third) ∧
      s.sameBut egressParts t) ∧
  (∀ (s : State) (n : Fin 96) (x : Tx) (c : Nat), (s.dev.port n).tx = some x → x.flow = none → x.stomp = none →
    x.sentBefore = 0 → preActive s.dev n = true → express s.env n x.queue = false →
    (s.env.third - x.startAt) * portRate s.dev n < 8 * 24000000 →
    let d := s.dev.setPort n { s.dev.port n with tx := none }
    considered s.env d n 15 = true → (d.queue n 15).head? = some c → tooOld s.env n 15 (d.copyAsm c) = false →
    oversize s.env d n 15 (lenTx d c) = false → ((d.copyAsm c).whole = true → lenTx d c ≤ maxLen s.env n) →
    ∃ t, exec (.preempt n) s = .next t ∧ (t.dev.port n).preempted = some x ∧
      (∃ x', (t.dev.port n).tx = some x' ∧ x'.copy = c ∧ x'.queue = 15 ∧ x'.startAt = x.startAt ∧ x'.tOut = x.tOut) ∧
      s.sameBut egressParts t) ∧
  (∀ (s : State) (n : Fin 96), ∃ t, exec (.gateChange n) s = .next t ∧
    (t.dev.port n).gates = (gateNow s.env n).1 ∧ (t.dev.port n).hold = (gateNow s.env n).2 ∧ s.sameBut egressParts t) ∧
  (∀ (s : State) (n : Fin 96), ∃ t, exec (.shaperBucketRefill n) s = .next t ∧
    ((s.dev.port n).tx.isSome = true → ∀ i, i < 17 → shpOn s.env n i = true →
      tfind (t.dev.port n).bkt i = some (bktNow s.env s.dev n i) ∧ tget 0 (t.dev.port n).bktAt i = s.env.third) ∧
    s.sameBut egressParts t) ∧
  (∀ (s : State) (n : Fin 96), bit (s.env.reg (egsReg n 0x840)) 31 = true →
    (s.dev.port n).sampleAt + us (clamp 1 1000 (bits (s.env.reg (egsReg n 0x840)) 9 0)) ≤ s.env.third →
    ∃ t, exec (.queueSample n) s = .next t ∧ (t.dev.port n).sampleAt = s.env.third ∧
      (∀ q, q < 16 →
        let o := tget {} (s.dev.port n).obs q
        let o' := tget {} (t.dev.port n).obs q
        let depth := min (qBytes s.dev n q) 0xFFFFFFFF
        let delay := min (headDelay s.env s.dev n q) 0xFFFFFFFF
        o'.dlast = depth ∧ o'.dmin = min o.dmin depth ∧ o'.dmax = max o.dmax depth ∧
          o'.tlast = delay ∧ o'.tmin = min o.tmin delay ∧ o'.tmax = max o.tmax delay) ∧
      s.sameBut [.evt, .stat, .pmu, .ports, .gut] t ∧ s.dev.otherPorts n t.dev) ∧
  (∀ (s : State) (n : Fin 96), s.scopeFree 50 →
    ∃ t, exec (.obsReset n) s = .next t ∧ t.dev.port n = { s.dev.port n with obs := [] } ∧
      s.sameBut [.ports] t ∧ s.dev.otherPorts n t.dev)

/-- Shadow swaps (R262, R263, R264): SHADOW_SWAP arms the sets its descriptor names unless one of them already waits (sets as
masks: a bit for each port, then WRED and the policers), no earlier than its lead time after its acceptance; a set is pending
from the acceptance of the command on that will arm it;
SWAP_INSTANT makes shadow and active copies change places at the instant, and the command completes with its last set. -/
def Obligations.ShadowSwaps : Prop :=
  (∀ (s : State) (k : Fin 4096), gnsStart s.dev k 0x30 = true →
    let w := argWord s.dev k 4
    let ps := swapPorts s.dev k
    let early := (s.dev.slot k).acceptAt + 1000 * max 2 (s.env.f 0xAC0000 7 0)
    let at_ := max (if argTime s.dev k 8 = 0 then early else s.env.toLt (bits w 1 0) (argTime s.dev k 8)) early
    let clash := (swapStanding s.dev &&& swapNamed s.dev k) ≠ 0
    ∃ t, exec (.shadowSwap k) s = .next t ∧
      (clash → s.dev.finishes s.env k stRejected [] t.dev ∧ s.sameBut (s.dev.cplParts k) t) ∧
      (¬ clash → (∀ n, n < 96 → (t.dev.port n).swap = if n ∈ ps then some (at_, k.val) else (s.dev.port n).swap) ∧
        t.dev.wredSwap = (if bit w 2 then some (at_, k.val) else s.dev.wredSwap) ∧
        t.dev.policerSwap = (if bit w 3 then some (at_, k.val) else s.dev.policerSwap) ∧
        ((ps ≠ [] ∨ bit w 2 = true ∨ bit w 3 = true) → (t.dev.slot k).running = true ∧
          s.sameBut [.cmd, .ports, .swaps] t))) ∧
  (∀ (s : State) (k m : Nat), (waitingSlots s.dev 0x30).head? = some k → (swapStanding s.dev &&& swapNamed s.dev k) = 0 →
    (swapNamed s.dev k &&& m) ≠ 0 ∨ (swapStanding s.dev &&& m) ≠ 0 → swapPending s.dev m = true) ∧
  (∀ (s : State) (n : Fin 96) (t0 k at_ : Nat), (s.dev.port n).swap = some (t0, k) →
    portSwapAt s.env n t0 = some at_ →
    ∃ t, exec (.swapInstant (.port n)) s = .next t ∧ (t.dev.port n).swap = none ∧
      (t.dev.port n).setB = !(s.dev.port n).setB ∧
      Tbl.exchanged (shBetween (egsReg n 0) (egsReg n 0x2000)) s.env.regs.vals s.env.regs.active t.env.regs.vals
        t.env.regs.active ∧
      t.env = { s.env with regs := { s.env.regs with vals := t.env.regs.vals, active := t.env.regs.active } } ∧
      t.host = s.host ∧ t.loft = s.loft ∧ t.hpt = s.hpt ∧ t.pending = s.pending ∧
      s.dev.sameBut (egressParts ++ [.swaps, .frames, .sends] ++ s.dev.cplParts k) t.dev) ∧
  (∀ (s : State) (t0 k : Nat), s.dev.wredSwap = some (t0, k) → t0 ≤ s.env.ltNs →
    ∃ t, exec (.swapInstant .wred) s = .next t ∧ t.dev.wredSwap = none ∧
      Tbl.exchanged (shBetween 0x900000 0x980000) s.env.regs.vals s.env.regs.active t.env.regs.vals t.env.regs.active ∧
      t.env = { s.env with regs := { s.env.regs with vals := t.env.regs.vals, active := t.env.regs.active } } ∧
      s.dev.sameBut (.swaps :: s.dev.cplParts k) t.dev ∧
      (s.dev.policerSwap = none → (∀ p ∈ s.dev.ports, p.2.swap = none) → (s.dev.slot k).used = true →
        (s.dev.slot k).finished = false →
        let r := tget (0, false) s.dev.swapRes k
        s.dev.finishes s.env k stOk [max r.1 t0 % 2 ^ 32, max r.1 t0 / 2 ^ 32 % 2 ^ 32, flagAt r.2 0] t.dev)) ∧
  (∀ (s : State) (t0 k : Nat), s.dev.policerSwap = some (t0, k) → t0 ≤ s.env.ltNs →
    ∃ t, exec (.swapInstant .policer) s = .next t ∧ t.dev.policerSwap = none ∧
      Tbl.exchanged policerKey s.dev.slate.raw s.dev.slate.rawActive t.dev.slate.raw t.dev.slate.rawActive ∧
      s.sameBut ([.swaps, .slate] ++ s.dev.cplParts k) t)

/-! ## Quartz (chapter 12) -/

/-- LT and the time domains (R286, R287, R288, R290, R292, R293, R376): the PLL's lock and loss, captures, a change of ratio
that leaves the count, and the operations cancel, set, step and slew, at once or at their apply time, behind a pending
operation whose time has come. A cancel is never refused (log 104). -/
def Obligations.TimeDomains : Prop :=
  (∀ (s : State), ∃ t, exec .pllLock s = .next t ∧
    t = { s with env := { s.env with ltBase := some (s.env.ltBase.getD s.env.third) }, dev := t.dev } ∧
    t.dev.pwr = { s.dev.pwr with locked := true } ∧ s.dev.sameBut [.pwr] t.dev) ∧
  (∀ (s : State), s.dev.pwr.locked = true → ∃ t, exec .qtzRefLoss s = .next t ∧ t.dev.pwr = { s.dev.pwr with locked := false } ∧
    s.dev.raised 133 0 t.dev ∧ s.sameBut [.pwr, .evt, .pmu] t) ∧
  (∀ (s : State), s.scopeFree 51 → ∃ t, exec .ltCapture s = .next t ∧ t.dev.qtz.capLt = s.env.ltStamp % 2 ^ 80 ∧
    (∀ k, k < 4 → tget 0 t.dev.qtz.capD k = s.env.domN k) ∧
    t.dev.qtz = { s.dev.qtz with capLt := t.dev.qtz.capLt, capD := t.dev.qtz.capD } ∧ s.sameBut [.qtz] t) ∧
  (∀ (s t0 : State) (k : Fin 4) (c : Instr), s.scopeFree 51 → exec (.domainOpApply k) s = .next t0 →
    (c ∈ [Instr.domainCancel k, .domainSet k, .domainStep k, .domainSlew k] ∨ ∃ hi, c = .domainRatioWrite k hi) →
    exec c s = exec c t0) ∧
  (∀ (s : State) (k : Fin 4) (hi : Word), s.scopeFree 51 → s.env.doms.length = 4 →
    (∀ o, (s.env.dom k).pend = some o → s.env.ltNs < o.atNs) →
    let off := 0xB00104 + 0x40 * k.val
    let lo := match tfind s.env.regs.staged ((off - 4) / 4) with
      | some w => w.toNat
      | none => s.env.reg (off - 4)
    ∃ t, exec (.domainRatioWrite k hi) s = .next t ∧
      t.env.dom k = { (s.env.dom k).now s.env.lt3 with adj := toSigned 40 (hi.toNat % 256 * 2 ^ 32 + lo) } ∧
      t.env.domN k = s.env.domN k ∧ (∀ j, j ≠ k.val → t.env.dom j = s.env.dom j) ∧
      t.env.reg off = hi.toNat % 256 ∧ tfind t.env.regs.staged ((off - 4) / 4) = none ∧
      t = { s with env := { s.env with doms := t.env.doms, regs := t.env.regs } }) ∧
  (∀ (s : State) (k : Fin 4) (c : Instr) (op : Nat), s.scopeFree 51 → s.env.doms.length = 4 →
    (∀ o, (s.env.dom k).pend = some o → s.env.ltNs < o.atNs) →
    (c, op) ∈ [(Instr.domainCancel k, 0), (Instr.domainSet k, 1), (Instr.domainStep k, 2), (Instr.domainSlew k, 3)] →
    let m := (s.env.dom k).now s.env.lt3
    let at_ := s.env.reg (0xB00114 + 0x40 * k.val) * 2 ^ 32 + s.env.reg (0xB00118 + 0x40 * k.val)
    let V := domVal s.env k
    let S := toSigned 96 V
    let refused := op ≠ 0 ∧ (m.pend.isSome = true ∨ (op = 3 ∧ 65536 * 1000000000 < S.natAbs))
    ∃ t, exec c s = .next t ∧ (∀ j, j ≠ k.val → t.env.dom j = s.env.dom j) ∧
      t = { s with env := { s.env with doms := t.env.doms }, dev := t.dev } ∧ s.dev.sameBut [.evt, .pmu, .qtz] t.dev ∧
      (disciplining s.env s.dev = true → op ≠ 0 → t.env = s.env ∧ s.dev.raised 133 1 t.dev) ∧
      (op = 0 →
        t.env.dom k = { m with slewRem := 0, slewing := false, pend := none } ∧ t.dev = s.dev) ∧
      (disciplining s.env s.dev = false → refused → t.env.dom k = m ∧ s.dev.raised 133 1 t.dev) ∧
      (disciplining s.env s.dev = false → op ≠ 0 → ¬ refused → s.env.ltNs < at_ → t.dev = s.dev ∧
        t.env.dom k = { m with pend := some { op := op, val := if op = 1 then V else S, atNs := at_,
                                              rate := max 1 (s.env.reg (0xB0011C + 0x40 * k.val)) } }) ∧
      (disciplining s.env s.dev = false → op ≠ 0 → ¬ refused → at_ ≤ s.env.ltNs →
        (op = 1 → t.env.domN k = V % 2 ^ 96) ∧ (op = 2 → (t.env.domN k : Int) = (s.env.domN k + S) % 2 ^ 96) ∧
        (op = 3 → t.env.domN k = s.env.domN k ∧ (t.env.dom k).slewRem = S * domUnit ∧
          (t.env.dom k).slewing = decide (S ≠ 0) ∧
          (t.env.dom k).slewRate = max 1 (s.env.reg (0xB0011C + 0x40 * k.val))) ∧
        (at_ ≠ 0 → at_ ≠ s.env.ltNs → t.dev.evCnt 133 2 = s.dev.evCnt 133 2 + 1) ∧
        (at_ = 0 ∨ at_ = s.env.ltNs → t.dev.evCnt 133 2 = s.dev.evCnt 133 2))) ∧
  (∀ (s : State) (k : Fin 4) (o : DomOp), s.env.doms.length = 4 → (s.env.dom k).pend = some o → o.atNs ≤ s.env.ltNs →
    ∃ t, exec (.domainOpApply k) s = .next t ∧ (t.env.dom k).pend = none ∧ t.env.domN k = s.env.domN k ∧
      (∀ j, j ≠ k.val → t.env.dom j = s.env.dom j) ∧
      t = { s with env := { s.env with doms := t.env.doms }, dev := t.dev } ∧ s.dev.sameBut [.evt, .pmu, .qtz] t.dev) ∧
  (∀ (s : State) (k : Fin 4), s.env.doms.length = 4 → ((s.env.dom k).now s.env.lt3).slewing = true →
    ((s.env.dom k).now s.env.lt3).slewRem = 0 →
    ∃ t, exec (.slewEnd k) s = .next t ∧ (t.env.dom k).slewing = false ∧ t.env.domN k = s.env.domN k ∧
      (∀ j, j ≠ k.val → t.env.dom j = s.env.dom j) ∧ t = { s with env := { s.env with doms := t.env.doms } })

/-- Time signals (R306, R307, R308, R309, R310): TOUT_EDGE begins a pulse when its domain has reached it, TOUT_PULSE_END
ends it; TIN_EDGE stamps an edge whose level holds for the filter time into a queue of sixteen or counts it lost, TIN_POP removes the oldest; PPS_IN_EDGE stamps
and counts the wanted edge. -/
def Obligations.TimeSignals : Prop :=
  (∀ (s : State) (n : Fin 8), s.env.b (toutReg n 0) 31 = true → (s.dev.tout n).running = true →
    let x := s.dev.tout n
    ∃ t, exec (.toutEdge n) s = .next t ∧ (∀ j, j ≠ n.val → t.dev.tout j = s.dev.tout j) ∧
      ((toutStart s.env n + x.k * toutPeriod s.env n) * 65536 ≤ s.env.domN (toutDom s.env n) → s.sameBut [.qtz] t ∧
        t.dev.tout n = { running := toutPeriodic s.env n, k := x.k + 1, level := toutActive s.env n,
                         pulseEnd := some (s.env.ltNs + toutWidth s.env n) }) ∧
      (s.env.domN (toutDom s.env n) < (toutStart s.env n + x.k * toutPeriod s.env n) * 65536 → t = s)) ∧
  (∀ (s : State) (n : Fin 8) (x : Nat), (s.dev.tout n).pulseEnd = some x → x ≤ s.env.ltNs →
    ∃ t, exec (.toutPulseEnd n) s = .next t ∧
      t.dev.tout n = { s.dev.tout n with level := !(toutActive s.env n), pulseEnd := none } ∧
      (∀ j, j ≠ n.val → t.dev.tout j = s.dev.tout j) ∧ s.sameBut [.qtz] t) ∧
  (∀ (s : State) (n : Fin 4) (up : Bool) (held : Nat),
    let r := 0xB00A00 + 0x20 * n.val
    held < s.env.f r 7 0 → exec (.tinEdge n ⟨up, held⟩) s = .next s) ∧
  (∀ (s : State) (n : Fin 4) (up : Bool) (held : Nat),
    let r := 0xB00A00 + 0x20 * n.val
    s.env.f r 7 0 ≤ held → s.env.b r 31 = true → (s.env.f r 30 29 = 3 ∨ (s.env.f r 30 29 = 2 ∧ up = false) ∨ (s.env.f r 30 29 < 2 ∧ up = true)) →
    ∃ t, exec (.tinEdge n ⟨up, held⟩) s = .next t ∧
      ((tget [] s.dev.qtz.tin n).length < 16 → s.sameBut [.qtz] t ∧ ∀ j, tget [] t.dev.qtz.tin j =
        if j = n then tget [] s.dev.qtz.tin n ++ [2 * (s.env.ltStamp % 2 ^ 80) + (if up then 1 else 0)]
        else tget [] s.dev.qtz.tin j) ∧
      (16 ≤ (tget [] s.dev.qtz.tin n).length → s.sameBut [.evt, .pmu] t ∧ s.dev.raised 133 4 t.dev)) ∧
  (∀ (s : State) (n : Fin 4), s.scopeFree 51 → ∃ t, exec (.tinPop n) s = .next t ∧ s.sameBut [.qtz] t ∧
    ∀ j, tget [] t.dev.qtz.tin j = if j = n then (tget [] s.dev.qtz.tin n).tail else tget [] s.dev.qtz.tin j) ∧
  (∀ (s : State) (down : Bool), s.env.b 0xB00B00 31 = true → s.env.b 0xB00B00 30 = down →
    ∃ t, exec (.ppsInEdge down) s = .next t ∧ s.sameBut [.qtz] t ∧
      t.dev.qtz = { s.dev.qtz with ppsLast := s.env.ltStamp % 2 ^ 80, ppsCount := (s.dev.qtz.ppsCount + 1) % 2 ^ 32 })

/-! ## Gutter, statistics and performance counters (chapter 13) -/

/-- The Gutter rings (R313, R315, R316, R317, R327): RECORD_DRAIN moves the oldest staged record to the ring in use, its
sequence number in word 7, or discards it in stop mode when it does not fit; an overwrite overrules the host's write of GUT_RD
in the same core cycle. GUT_RD_WRITE consumes records; EXPORT_SEND sends whole records in ring order. -/
def Obligations.GutterRing : Prop :=
  (∀ (s : State) (err : Bool) (r : GutRec) (rest : List GutRec), s.dev.gut.staging = r :: rest →
    s.env.b 0xC00000 31 = true → (∀ x, s.dev.gut.rdWas = some x → x.1 ≠ s.env.cycle + 1) →
    let g := s.dev.gut
    let l := if err && r.tile.isSome then fitLen r.bytes.length (r.bytes.take 32) else r.bytes
    let k := l.length / 32
    let n := gutUnits s.dev
    let mem := fun (x : GutSt) => if x.fallback then x.fall else x.ring
    ∃ t, exec (.recordDrain err) s = .next t ∧ t.dev.gut.staging = rest ∧ t.dev.gut.fallback = g.fallback ∧
      (g.wr + k ≤ n → gutUsed s.dev + k ≤ n → t.dev.gut.wr = (g.wr + k) % n ∧ t.dev.gut.rd = g.rd ∧
        t.dev.gut.recs = g.recs ++ [{ unit := g.wr, units := k, at_ := s.env.third }] ∧ t.dev.gut.seq = (g.seq + 1) % 2 ^ 32 ∧
        t.dev.gut.full = false ∧ devCnt t.dev 12 = (devCnt s.dev 12 + 1) % 2 ^ 48 ∧
        ∀ a, mget (mem t.dev.gut) a = if 32 * g.wr ≤ a ∧ a < 32 * g.wr + l.length
          then (splice l 28 (natLE 4 g.seq)).getD (a - 32 * g.wr) 0 else mget (mem g) a) ∧
      (g.wr + k ≤ n → n < gutUsed s.dev + k → s.env.b 0xC00000 30 = false →
        t.dev.gut = { g with staging := rest, full := true } ∧ devCnt t.dev 13 = (devCnt s.dev 13 + 1) % 2 ^ 48) ∧
      (g.wr + k ≤ n → n < gutUsed s.dev + k → s.env.b 0xC00000 30 = true → t.dev.gut.wr = (g.wr + k) % n ∧
        t.dev.gut.seq = (g.seq + 1) % 2 ^ 32 ∧ (∃ gone left, g.recs = gone ++ left ∧
          t.dev.gut.recs = left ++ [{ unit := g.wr, units := k, at_ := s.env.third }])) ∧
      s.sameBut [.evt, .stat, .pmu, .blks, .loft, .gut] t) ∧
  (∀ (s : State) (err : Bool) (r : GutRec) (rest : List GutRec) (rd : Nat) (l : List RingRec),
    s.dev.gut.staging = r :: rest → s.dev.gut.rdWas = some (s.env.cycle + 1, rd, l) → s.env.b 0xC00000 30 = true →
    let g := { s.dev.gut with rd := rd, recs := l ++ s.dev.gut.recs, rdWas := none }
    let k := (if err && r.tile.isSome then fitLen r.bytes.length (r.bytes.take 32) else r.bytes).length / 32
    0 < gutShort { s.dev with gut := g } k → s.env.b 0xC00000 31 = true →
    exec (.recordDrain err) s = exec (.recordDrain err) { s with dev := { s.dev with gut := g } }) ∧
  (∀ (s : State) (v : Word), s.dev.gut.overAt = s.env.cycle + 1 → exec (.gutRdWrite v) s = .next s) ∧
  (∀ (s : State) (v : Word), s.env.b 0xC02000 31 = false → s.dev.gut.overAt ≠ s.env.cycle + 1 →
    let g := s.dev.gut
    let n := gutUnits s.dev
    let u := v.toNat % 2 ^ 27
    let k := (u + n - g.rd) % n
    let inside := u < n ∧ k ≤ gutUsed s.dev
    ∃ t, exec (.gutRdWrite v) s = .next t ∧ t.dev.gut.wr = g.wr ∧ t.dev.gut.seq = g.seq ∧
      (inside → t.dev.gut.rd = u ∧ t.dev.gut.recs = gutConsume (k + gutPart s.dev) g.recs) ∧
      (¬ inside → t.dev.gut.rd = g.wr ∧ t.dev.gut.recs = gutConsume (gutUsed s.dev + gutPart s.dev) g.recs) ∧
      t.dev.gut = { g with rd := t.dev.gut.rd, recs := t.dev.gut.recs, rdWas := t.dev.gut.rdWas } ∧
      s.sameBut [.gut] t) ∧
  (∀ (s : State), s.env.b 0xC02000 31 = true →
    let hdr := expHeader s.env
    let x := expGather s.dev.gut (expMss s.env) (expMax s.env - hdr.length) s.dev.gut.recs [] 0
    x.2.1 ≠ 0 → x.2.2 = true ∨ expMax s.env ≤ hdr.length + x.1.length ∨
      (∃ r, s.dev.gut.recs.head? = some r ∧ r.at_ + us (max 1 (s.env.f 0xC02004 31 16)) ≤ s.env.third) →
    ∃ t, exec .exportSend s = .next t ∧ t.dev.gut.recs = s.dev.gut.recs.drop x.2.1 ∧
      (tsoOk (hdr ++ x.1) hdr.length (expMss s.env) = true → devCnt t.dev 14 = (devCnt s.dev 14 + 1) % 2 ^ 48) ∧
      (tsoOk (hdr ++ x.1) hdr.length (expMss s.env) = false → devCnt t.dev 15 = (devCnt s.dev 15 + 1) % 2 ^ 48 ∧
        t.dev.frames = s.dev.frames) ∧
      s.sameBut [.evt, .stat, .pmu, .blks, .frames, .sends, .gut] t)

/-- Snapshots and flow counters (R25, R333, R334, R335, R336, R397): SNAPSHOT takes its instant from its acceptance on,
SNAPSHOT_INSTANT copies the groups it names, each counter as it stood at its domain's copy edge, and completes; ACCUMULATOR_SPILL leaves a flow counter's value; FLOW_READ writes values to
host memory, FLOW_SET sets them. -/
def Obligations.SnapshotsAndFlows : Prop :=
  (∀ (s : State) (k : Fin 4096), gnsStart s.dev k 0x31 = true →
    let w := argWord s.dev k 4
    let t0 := argTime s.dev k 5
    let first := (s.dev.slot k).acceptAt + 1000 * max 2 (s.env.f 0xC80000 7 0)
    let want := if t0 = 0 then 0 else s.env.toLt (bits w 6 5) t0
    ∃ t, exec (.snapshot k) s = .next t ∧ (t.dev.slot k).running = true ∧ s.sameBut [.stat, .cmd] t ∧
      t.dev.stat = { s.dev.stat with snaps := s.dev.stat.snaps ++
        [{ lt := max (max want first) ((s.dev.stat.snaps.getLast?.map (·.lt)).getD 0), groups := bits w 4 0,
           late := decide (t0 ≠ 0) && decide (want < first), slot := k }] }) ∧
  (∀ (s : State) (lt groups k : Nat) (late : Bool) (saved : Tbl Nat) (rest : List SnapReq),
    s.dev.stat.snaps = ⟨lt, groups, late, k, saved⟩ :: rest → lt ≤ s.env.ltNs → s.dev.gns.dead = false →
    Tbl.risesFrom 0 saved = true →
    (s.dev.slot k).used = true → (s.dev.slot k).finished = false →
    let gen := (s.dev.stat.gen + 1) % 2 ^ 32
    ∃ t, exec .snapshotInstant s = .next t ∧ t.dev.stat.snaps = rest ∧ t.dev.stat.gen = gen ∧ t.dev.stat.snapLt = lt ∧
      (∀ g, g < 5 → tget 0 t.dev.stat.gens g = if bit groups g then gen else tget 0 s.dev.stat.gens g) ∧
      (∀ j v, (j, v) ∈ saved → tget 0 t.dev.stat.held j = v) ∧
      (∀ j, bit groups (statGroup j) = false → thas saved j = false →
        tfind t.dev.stat.held j = tfind s.dev.stat.held j) ∧
      (∀ j, bit groups (statGroup j) = true → thas saved j = false → thas t.dev.stat.held j = thas s.dev.stat.live j ∧
        ∀ v, tfind t.dev.stat.held j = some v → (j, v) ∈ s.dev.stat.live) ∧
      (bit groups 4 = true → tget 0 t.dev.pmu.hold 64 = snapEdge s.env lt % 2 ^ 64 ∧
        tget 0 t.dev.pmu.hold 65 = lt % 2 ^ 64 ∧ ∀ i, i < 64 → tget 0 t.dev.pmu.hold i =
          pmuHolds s.env i (tget (tget 0 s.dev.pmu.ctr i) s.dev.pmu.saved (64 * k + i)) % 2 ^ 48) ∧
      s.dev.finishes s.env k stOk [gen, lt % 2 ^ 32, lt / 2 ^ 32 % 2 ^ 32, flagAt late 0] t.dev ∧
      s.sameBut ([.stat, .pmu] ++ s.dev.cplParts k) t) ∧
  (∀ (s : State) (i : Fin 524288), loftServes s.dev = true →
    let x := s.dev.flow i
    ∃ t, exec (.accumulatorSpill i) s = .next t ∧ (t.dev.flow i).frameTotal = x.frameTotal ∧
      (t.dev.flow i).byteTotal = x.byteTotal ∧ (t.dev.flow i).accF = (if bit x.accF 19 then 0 else x.accF) ∧
      (t.dev.flow i).accB = (if bit x.accB 31 then 0 else x.accB) ∧ (t.dev.flow i).sat = x.sat ∧
      (t.dev.flow i).lost = x.lost ∧ (∀ j, j ≠ i.val → t.dev.flow j = s.dev.flow j) ∧ s.sameBut [.slate] t) ∧
  (∀ (s : State) (k : Fin 4096), canStart s.dev k 0x32 = true →
    let ok := flowArgsOk s.dev k = true ∧ loftServes s.dev = true
    let a := argAddr s.dev k 6
    let l := (List.range (argWord s.dev k 5)).flatMap (fun i => flowBytes (s.dev.flow (argWord s.dev k 4 + i)))
    ∃ t, exec (.flowRead k) s = .next t ∧ t.env = s.env ∧ t.loft = s.loft ∧ t.hpt = s.hpt ∧ t.pending = s.pending ∧
      s.dev.sameBut (s.dev.cplParts k) t.dev ∧
      (ok → s.dev.finishes s.env k stOk [] t.dev ∧
        ∀ b, mget t.host b = if a ≤ b ∧ b < a + l.length then l.getD (b - a) 0 else mget s.host b) ∧
      (¬ ok → t.host = s.host ∧ s.dev.finishes s.env k stRejected [] t.dev)) ∧
  (∀ (s : State) (k : Fin 4096), canStart s.dev k 0x33 = true →
    let ok := flowArgsOk s.dev k = true ∧ loftServes s.dev = true
    let first := argWord s.dev k 4
    ∃ t, exec (.flowSet k) s = .next t ∧ s.sameBut ([.slate, .twin] ++ s.dev.cplParts k) t ∧
      (ok → s.dev.finishes s.env k stOk [] t.dev ∧ ∀ i, t.dev.flow i =
        if first ≤ i ∧ i < first + argWord s.dev k 5 then { frames := argAddr s.dev k 6, bytes := argAddr s.dev k 8 }
        else s.dev.flow i) ∧
      (¬ ok → t.dev.slate = s.dev.slate ∧ s.dev.finishes s.env k stRejected [] t.dev))

/-- Performance counters and bandwidth monitors (R337, R339, R340, R342, R435): PMU_COUNTER_WRITE sets a counter with the low
word staged before it, what the counter has added in the same core cycle on top, after an overflow of an earlier cycle; PMU_OVERFLOW reloads or wraps it and takes a sample, BW_WINDOW_END ends a port's window, BW_PEAK_CLEAR
clears the peaks. -/
def Obligations.PerformanceCounters : Prop :=
  (∀ (s : State) (i : Fin 64) (v : Word),
    let low := (0xD01108 + 0x10 * i.val) / 4
    let n := pmuNow s.env s.dev i
    ∃ t, exec (.pmuCounterWrite i v) s = .next t ∧
      tget 0 t.dev.pmu.ctr i = v.toNat % 65536 * 2 ^ 32 + (match tfind s.env.regs.staged low with
        | some w => w.toNat
        | none => tget 0 s.dev.pmu.ctr i % 2 ^ 32) + n ∧
      (2 ^ 48 ≤ tget 0 s.dev.pmu.ctr i - n → s.dev.raised 134 4 t.dev) ∧
      (tget 0 s.dev.pmu.ctr i - n < 2 ^ 48 → (∀ j, j ≠ i.val → tget 0 t.dev.pmu.ctr j = tget 0 s.dev.pmu.ctr j) ∧
        t.dev.pmu = { s.dev.pmu with ctr := t.dev.pmu.ctr, saved := t.dev.pmu.saved } ∧ s.dev.sameBut [.pmu] t.dev) ∧
      (∀ j, tfind t.env.regs.staged j = if j = low then none else tfind s.env.regs.staged j) ∧
      t.env.regs.vals = s.env.regs.vals ∧ s.dev.sameBut [.pmu, .evt] t.dev ∧ t.host = s.host) ∧
  (∀ (s : State) (i : Fin 64), 2 ^ 48 ≤ tget 0 s.dev.pmu.ctr i →
    let x := tget 0 s.dev.pmu.ctr i - 2 ^ 48
    ∃ t, exec (.pmuOverflow i) s = .next t ∧
      (s.dev.pmu.freeze = true ∨ (∀ j ∈ pmuEnabled s.env, bits (s.env.reg (0xD01100 + 16 * j)) 31 29 ≠ 5) →
        tget 0 t.dev.pmu.ctr i =
        if s.env.b (0xD01104 + 16 * i) 30 then pmuReload s.env i + x else x) ∧
      (s.env.b 0xD01000 30 = true → t.dev.pmu.freeze = true) ∧
      t.dev.evCnt 134 4 = s.dev.evCnt 134 4 + 1 ∧
      (∀ j, j < 4 → tget 0 t.dev.pmu.smp (4 * ((s.dev.evCnt 134 4).toNat % 64) + j) =
        (smpWords s.env i (tget none s.dev.pmu.ctx i)).getD j 0) ∧
      s.sameBut [.pmu, .evt] t) ∧
  (∀ (s : State) (n : Fin 96), tget 0 s.dev.pmu.bwStart n + us (bwWindow s.env) ≤ s.env.third →
    ∃ t, exec (.bwWindowEnd n) s = .next t ∧ tget 0 t.dev.pmu.bwStart n = s.env.third ∧
      (∀ dir, dir < 2 →
        let k := 2 * n.val + dir
        let last := tget 0 s.dev.pmu.bwBytes k * 8000 / bwWindow s.env % 2 ^ 32
        tget 0 t.dev.pmu.bwBytes k = 0 ∧ tget 0 t.dev.pmu.bwLast k = last ∧
          tget 0 t.dev.pmu.bwPeak k = max (tget 0 s.dev.pmu.bwPeak k) last) ∧
      (∀ k, k / 2 ≠ n.val → tget 0 t.dev.pmu.bwBytes k = tget 0 s.dev.pmu.bwBytes k) ∧
      t.dev.pmu.ctr = s.dev.pmu.ctr ∧ s.sameBut [.pmu] t) ∧
  (∀ (s : State), s.scopeFree 52 → ∃ t, exec .bwPeakClear s = .next t ∧
    t.dev.pmu = { s.dev.pmu with bwPeak := t.dev.pmu.bwPeak } ∧ s.sameBut [.pmu] t ∧
    ∀ k, tget 0 t.dev.pmu.bwPeak k =
      if 0 < tget 0 s.dev.pmu.bwStart (k / 2) ∧ tget 0 s.dev.pmu.bwStart (k / 2) / 2 = s.env.cycle
      then tget 0 s.dev.pmu.bwLast k else 0)

/-! ## Purlin and Loft (chapter 14) -/

/-- The Purlin arbiters (R360, R361, R362, R364, R365, R366): ARBITER_DECISION grants the request of the highest priority,
the first at or after that priority's pointer, and puts its accesses into the channel's queue, those that find no entry
behind it; parked losers enter their pending queue; nothing is granted while frozen or in an empty slot. REQUEST_WITHDRAW takes
a request back, granted or not, QUOTA_WINDOW_END begins a new quota window. A Slate port's slot of one core cycle is the
model's choice (log 66). -/
def Obligations.PurlinArbiters : Prop :=
  (∀ (s : State) (a : Fin 18) (odd : Bool),
    let d := s.dev
    let x := d.arb a
    let all := wants s.env d a odd
    let served := keepServed all odd x
    let fresh := all.filter (fun r => !(served.contains (r.id, r.key, odd)))
    let open_ := fun (r : PurReq) => !(decide (6 ≤ purPrio s.env r.id) && decide (s.env.f 0xE40008 15 0 ≤ tget 0 x.wins r.id)) &&
      !(sideMasked d r.id) && accepts d a r
    let l := (contenders x odd fresh).filter open_
    let runs := s.env.b 0xE40000 0 = false ∧ tget 0 x.nextAt odd.toNat ≤ arbCycle a s.env.third
    let turn := fun (r : PurReq) => if tget 0 x.ptr (purPrio s.env r.id) ≤ r.id then r.id else r.id + 64
    ∃ t, exec (.arbiterDecision a odd) s = .next t ∧ s.sameBut [.loft] t ∧ (∀ b, b ≠ a.val → t.dev.arb b = d.arb b) ∧
      (¬ runs → t = s) ∧
      (runs → (t.dev.arb a).pipelined = pipeWanted s.env d ∧
        (t.dev.arb a).winStart = x.winStart ∧ (t.dev.arb a).dead = x.dead) ∧
      (runs → l = [] → t.dev.loft.chans = d.loft.chans ∧ t.dev.loft.asks = d.loft.asks ∧ (t.dev.arb a).pend = x.pend ∧
        (t.dev.arb a).ptr = x.ptr ∧ (t.dev.arb a).wins = x.wins ∧ (t.dev.arb a).grant = x.grant) ∧
      (runs → l ≠ [] → ∃ w ∈ l,
        (∀ r ∈ l, purPrio s.env r.id ≤ purPrio s.env w.id ∧
          (purPrio s.env r.id = purPrio s.env w.id → turn w ≤ turn r)) ∧
        (∀ p, tget 0 (t.dev.arb a).ptr p = if p = purPrio s.env w.id then (w.id + 1) % 64 else tget 0 x.ptr p) ∧
        (∀ id, tget 0 (t.dev.arb a).wins id = tget 0 x.wins id + if id = w.id then 1 else 0) ∧
        tfind (t.dev.arb a).grant odd.toNat = some (w, s.env.third) ∧
        t.dev.loft.asks = d.loft.asks.filter (fun q => !(q.id == w.id && q.key == w.key)) ∧
        (a.val < 16 →
          let q := d.chan (2 * a + odd.toNat)
          let acc : List Access := w.acc.map (fun p => { req := w.id, bank := p.1, row := p.2, since := s.env.third })
          t.dev.chan (2 * a + odd.toNat) = { q with
            queue := q.queue ++ acc.take (32 - q.queue.length), feed := q.feed ++ acc.drop (32 - q.queue.length) }) ∧
        (∀ c, (16 ≤ a.val ∨ c ≠ 2 * a.val + odd.toNat) → t.dev.chan c = d.chan c) ∧
        (∀ r ∈ fresh.filter open_, r ≠ w → isParked r.id = true →
          (fresh.filter open_).find? (fun q => q.id == r.id) = some r →
          if pendCount d r.id < 16 then r ∈ (t.dev.arb a).pend
          else min 65535 (x.pendFull + 1) ≤ (t.dev.arb a).pendFull))) ∧
  (∀ (s : State) (a : Fin 18) (odd : Bool) (id : Fin 64) (w : PurReq) (at_ : Nat),
    tfind (s.dev.arb a).grant odd.toNat = some (w, at_) → w.id = id.val → untouched s.env s.dev a odd w at_ = true →
    let x := s.dev.arb a
    let c := 2 * a.val + odd.toNat
    let late := (id.val = 33 ∨ id.val = 34) ∧ s.env.b (0xE40100 + 4 * id.val) 8 = true
    let gone := fun (dead : Nat) (u : State) => s.sameBut [.loft] u ∧
      u.dev.arb a = { x with grant := tdel x.grant odd.toNat, dead := min 65535 (x.dead + dead) } ∧
      (∀ b, b ≠ a.val → u.dev.arb b = s.dev.arb b) ∧
      u.dev.loft.asks = s.dev.loft.asks ∧
      (a.val < 16 → u.dev.chan c = { s.dev.chan c with
        queue := (s.dev.chan c).queue.filter (fun q => q.req != id.val || q.since != at_)
        feed := (s.dev.chan c).feed.filter (fun q => q.req != id.val || q.since != at_) }) ∧
      ∀ m, m ≠ c → u.dev.chan m = s.dev.chan m
    (late → ∃ u t, gone 1 u ∧ exec (.arbiterDecision a odd) u = .next t ∧
      exec (.requestWithdraw a odd id) s = .next t) ∧
    (¬ late → x.pipelined = true → arbCycle a s.env.third ≤ arbCycle a at_ + 1 →
      let len := if a.val < 16 then 4 * max 1 w.acc.length else 1
      ∃ u t, gone len u ∧ exec (.requestWithdraw a odd id) s = .next t ∧ u.sameBut [.loft] t ∧
        t.dev.loft.chans = u.dev.loft.chans ∧ (∀ b, b ≠ a.val → t.dev.arb b = u.dev.arb b) ∧
        t.dev.arb a = { u.dev.arb a with nextAt := tput x.nextAt odd.toNat (arbCycle a at_ + len) })) ∧
  (∀ (s : State) (a : Fin 18) (odd : Bool) (id : Fin 64), tfind (s.dev.arb a).grant odd.toNat = none →
    let x := s.dev.arb a
    let first := (wants s.env s.dev a odd).find? (fun r => r.id == id.val && !(x.served.contains (r.id, r.key, odd)))
    ∃ t, exec (.requestWithdraw a odd id) s = .next t ∧ s.sameBut [.loft] t ∧ t.dev.loft.chans = s.dev.loft.chans ∧
      (∀ b, b ≠ a.val → t.dev.arb b = s.dev.arb b) ∧
      (∀ r, first = some r → t.dev.arb a = { x with served := x.served ++ [(id.val, r.key, odd)] } ∧
        t.dev.loft.asks = s.dev.loft.asks.filter (fun q => !(q.id == r.id && q.key == r.key))) ∧
      (∀ r, first = none → x.pend.find? (fun r => r.id == id.val && r.odd == odd) = some r →
        t.dev.arb a = { x with pend := x.pend.erase r })) ∧
  (∀ (s : State) (a : Fin 18), (s.dev.arb a).winStart + quotaLen s.env a ≤ s.env.third →
    ∃ t, exec (.quotaWindowEnd a) s = .next t ∧
      t.dev.arb a = { s.dev.arb a with wins := [], winStart := s.env.third } ∧
      (∀ b, b ≠ a.val → t.dev.arb b = s.dev.arb b) ∧ t.dev.loft.chans = s.dev.loft.chans ∧ s.sameBut [.loft] t)

/-- Loft's traffic (R347, R349, R352, R353): LOFT_ACCESS_ISSUE issues the access that R347 puts first and counts its
activation, an access that waits behind the queue taking the entry left, and none while a test window of the channel runs
(R354); REFRESH_DUE issues the due refresh, postpones it or forces it; POSTPONED_REFRESH, RFM, TEMP_REPORT_READ,
THROTTLE_END and AGGRESSOR_TABLE_CLEAR do the upkeep. -/
def Obligations.LoftTraffic : Prop :=
  (∀ (s : State) (c : Fin 32), (s.dev.chan c).state = 2 →
    let x := s.dev.chan c
    let may := x.queue.filter (mayIssue s.env x)
    let old := fun (a : Access) => decide (a.since + us 2 < s.env.third)
    let lim := max 1 (s.env.f 0xE00010 31 16)
    (windowOn s.env s.dev c = true → exec (.loftAccessIssue c) s = .next s) ∧
    (may = [] → exec (.loftAccessIssue c) s = .next s) ∧
    (windowOn s.env s.dev c = false → may ≠ [] → ∃ t, ∃ a ∈ may, exec (.loftAccessIssue c) s = .next t ∧
      (may.any (inBurst x) = true → inBurst x a = true) ∧
      (may.any (inBurst x) = false → may.any old = true → may.find? old = some a) ∧
      (may.any (inBurst x) = false → may.any old = false → may.any (fun r => !(activates x r)) = true →
        may.find? (fun r => !(activates x r)) = some a) ∧
      (may.any (inBurst x) = false → may.any old = false → may.any (fun r => !(activates x r)) = false →
        may.head? = some a) ∧
      (t.dev.chan c).queue = x.queue.erase a ++ x.feed.take 1 ∧ (t.dev.chan c).feed = x.feed.drop 1 ∧ (t.dev.chan c).window = x.window ∧ (t.dev.chan c).post = x.post ∧
      (activates x a = false → t.dev.chan c = { x with
        queue := x.queue.erase a ++ x.feed.take 1, feed := x.feed.drop 1, burst := (t.dev.chan c).burst }) ∧
      (∀ k, k ∈ (t.dev.chan c).burst ↔ if k = (a.req, a.since) ∧ 16 ≤ a.req ∧ a.req < 32
        then ∃ r ∈ x.queue.erase a ++ x.feed, r.req = a.req ∧ r.since = a.since else k ∈ x.burst) ∧
      (activates x a = true →
        let g := a.row / 8
        let l := tget [] x.aggr a.bank
        let m := tget [] (t.dev.chan c).aggr a.bank
        tfind (t.dev.chan c).openRow a.bank = some a.row ∧
        (∀ b, b ≠ a.bank → tget [] (t.dev.chan c).aggr b = tget [] x.aggr b) ∧
        (∀ i en, l.findIdx? (fun r => r.group == g) = some i → l[i]? = some en →
          let en' := { en with
            count := en.count + 1
            lead := if en.lead = a.req ∨ en.vote ≠ 0 then en.lead else a.req
            vote := if en.lead = a.req then en.vote + 1 else if en.vote = 0 then 1 else en.vote - 1 }
          (en.count + 1 ≤ lim → m = l.set i en' ∧ (t.dev.chan c).rfm = x.rfm) ∧
          (lim < en.count + 1 → m = l.set i { en' with count := 0 } ∧ a.bank ∈ (t.dev.chan c).rfm ∧
            t.dev.evCnt 135 1 = s.dev.evCnt 135 1 + 1 ∧
            tget 0 t.dev.loft.rhLog (2 * ((s.dev.evCnt 135 1).toNat % 16)) =
              c.val * 2 ^ 27 + a.bank * 2 ^ 23 + g * 2 ^ 10 + en'.lead * 2 ^ 4 ∧
            (s.env.f 0xE00014 15 0 ≠ 0 → ∃ w, tfind (t.dev.chan c).thr en'.lead =
              some (s.env.third + us (s.env.f 0xE00014 15 0), w)))) ∧
        ((∀ r ∈ l, r.group ≠ g) → l.length < 16 → m = l ++ [{ group := g, count := 1, lead := a.req, vote := 1 }]) ∧
        ((∀ r ∈ l, r.group ≠ g) → 16 ≤ l.length → ∃ i en, l[i]? = some en ∧ (∀ r ∈ l, en.count ≤ r.count) ∧
          (∀ j r, l[j]? = some r → r.count = en.count → i ≤ j) ∧
          m = l.set i { group := g, count := if lim < en.count + 1 then 0 else en.count + 1, lead := a.req, vote := 1 })) ∧
      (∀ m, m ≠ c.val → t.dev.chan m = s.dev.chan m) ∧ s.sameBut [.evt, .pmu, .loft] t)) ∧
  (∀ (s : State) (c : Fin 32), (s.dev.chan c).state = 2 → (s.dev.chan c).dueAt + trefi (s.dev.chan c) ≤ 8 * s.env.third →
    let x := s.dev.chan c
    let b := x.dueBank
    let p := tget 0 x.post b
    let hold := s.env.third + trfc s.env c
    let x1 := { x with dueAt := x.dueAt + trefi x, dueBank := (b + 1) % 16 }
    let forced := fun m => m < 16 ∧ m ≠ b ∧ bankQueued x b = true ∧ 8 ≤ p ∧ x.burst ≠ [] ∧
      tget 0 x.post m = 8 ∧ nextDue x1 b m < 8 * hold + 90 * burstLeft x
    ∃ t, exec (.refreshDue c) s = .next t ∧
      t.dev.chan c = { x1 with post := (t.dev.chan c).post, window := (t.dev.chan c).window } ∧
      (bankQueued x b = true → p < 8 → tget 0 (t.dev.chan c).post b = p + 1 ∧
        tget 0 (t.dev.chan c).window b = tget 0 x.window b) ∧
      (bankQueued x b = false ∨ 8 ≤ p → tget 0 (t.dev.chan c).post b = p ∧ tget 0 (t.dev.chan c).window b = hold) ∧
      (∀ m, forced m → tget 0 (t.dev.chan c).post m = 7 ∧ tget 0 (t.dev.chan c).window m = hold) ∧
      (∀ m, m ≠ b → ¬ forced m → tget 0 (t.dev.chan c).post m = tget 0 x.post m ∧
        tget 0 (t.dev.chan c).window m = tget 0 x.window m) ∧
      (∀ m, m ≠ c.val → t.dev.chan m = s.dev.chan m) ∧ s.sameBut [.loft] t) ∧
  (∀ (s : State) (c : Fin 32) (b : Fin 16), (s.dev.chan c).state = 2 → (s.dev.chan c).burst = [] →
    bankHeld s.env (s.dev.chan c) b = false →
    let x := s.dev.chan c
    let w := tput x.window b (s.env.third + trfc s.env c)
    (tget 0 x.post b ≠ 0 → bankQueued x b = false → ∃ t, exec (.postponedRefresh c b) s = .next t ∧
      t.dev.chan c = { x with post := tset 0 x.post b (tget 0 x.post b - 1), window := w } ∧
      (∀ m, m ≠ c.val → t.dev.chan m = s.dev.chan m) ∧ s.sameBut [.loft] t) ∧
    (b.val ∈ x.rfm → ∃ t, exec (.rfm c b) s = .next t ∧
      t.dev.chan c = { x with rfm := x.rfm.erase b, window := w } ∧
      (∀ m, m ≠ c.val → t.dev.chan m = s.dev.chan m) ∧ s.sameBut [.loft] t)) ∧
  (∀ (s : State) (k : Fin 8) (above : Bool), ∃ t, exec (.tempReportRead k above) s = .next t ∧
    (∀ c, t.dev.chan c = if c / 4 = k.val then { s.dev.chan c with hot := above } else s.dev.chan c) ∧
    s.sameBut [.loft] t) ∧
  (∀ (s : State), s.dev.loft.aggrAt + ms (max 1 (s.env.f 0xE00010 15 8)) ≤ s.env.third →
    ∃ t, exec .aggressorTableClear s = .next t ∧ (∀ c, t.dev.chan c = { s.dev.chan c with aggr := [] }) ∧
      t.dev.loft.aggrAt = s.env.third ∧ s.sameBut [.loft] t) ∧
  (∀ (s : State) (c : Fin 32) (r : Fin 64) (stop last : Nat), tfind (s.dev.chan c).thr r = some (stop, last) →
    stop ≤ s.env.third → ∃ t, exec (.throttleEnd c r) s = .next t ∧
      t.dev.chan c = { s.dev.chan c with thr := tdel (s.dev.chan c).thr r } ∧
      (∀ m, m ≠ c.val → t.dev.chan m = s.dev.chan m) ∧ s.sameBut [.loft] t)

/-- Training and restart (R354, R355, R356): LOFT_TRAIN begins a sweep or is rejected, TEST_WINDOW tests the next setting
in a window of no more than 1 us (its length is the free value of log 63), LOFT_TRAIN_END writes the pass map and completes with the longest run or NO_EYE; LOFT_RESTART takes Loft out of service and
LOFT_RESTART_END rebuilds it on the channels of the mask. Either command wakes the packages it uses and waits for them, and
a package whose last channel goes offline is powered down (R456). -/
def Obligations.LoftTraining : Prop :=
  let pkgs := fun (m : Nat) => (List.range 8).filter (fun p => decide (bits m (4 * p + 3) (4 * p) ≠ 0))
  (∀ (s : State) (k : Fin 4096), gnsStart s.dev k 0x41 = true →
    let w4 := argWord s.dev k 4
    let w5 := argWord s.dev k 5
    let ok := s.dev.loft.train = none ∧ s.dev.loft.restart = none ∧
      bits w4 12 8 < [2, 2, 16, 8, 1, 1].getD (bits w4 7 5) 0 ∧ bits w5 7 0 ≤ bits w5 15 8 ∧ bits w5 23 16 ≠ 0
    ∃ t, exec (.loftTrain k) s = .next t ∧
      (ok → (t.dev.slot k).running = true ∧ (t.dev.slot k).finished = (s.dev.slot k).finished ∧
        (∃ x, t.dev.loft = { s.dev.loft with train := some x } ∧ x.slot = k ∧ x.ch = bits w4 4 0 ∧ x.next = bits w5 7 0 ∧
          x.last = bits w5 15 8 ∧ x.stride = bits w5 23 16 ∧ x.passed = [] ∧ x.mapAddr = argAddr s.dev k 9 ∧
          x.wasOnline = chanOn s.dev (bits w4 4 0) ∧ x.windowTo = none ∧
          x.pattern = if bit (argWord s.dev k 6) 0 then some (mread s.host (argAddr s.dev k 7) 64) else none) ∧
        t.dev.pwr = (powerRequest s.env (130 + bits w4 4 0 / 4) true s.dev).pwr ∧
        (∀ j, j ≠ k.val → t.dev.slot j = s.dev.slot j) ∧ s.sameBut [.loft, .cmd, .pwr] t) ∧
      (¬ ok → s.dev.finishes s.env k stRejected [] t.dev ∧ s.sameBut (s.dev.cplParts k) t)) ∧
  (∀ (s : State) (passed : Bool) (x : TrainSt), s.dev.loft.train = some x → x.next ≤ x.last → s.dev.gns.dead = false →
    (∀ w, x.windowTo = some w → w + (if x.wasOnline then us (max 1 (s.env.f 0xE00004 7 0)) else 0) ≤ s.env.third) →
    (unitOn s.dev (130 + x.ch / 4) = false → exec (.testWindow passed) s = .next s) ∧
    (unitOn s.dev (130 + x.ch / 4) = true →
      ∃ t, exec (.testWindow passed) s = .next t ∧ t.dev.loft = { s.dev.loft with train := some { x with
        next := x.next + x.stride, passed := if passed then x.passed ++ [x.next] else x.passed,
        windows := x.windows + 1
        windowTo := some (s.env.third + min (us 1) (Config.testWindow x.windows).toNat) } } ∧ s.sameBut [.loft] t)) ∧
  (∀ (s : State) (x : TrainSt), s.dev.loft.train = some x → x.last < x.next → s.dev.gns.dead = false →
    (∀ w, x.windowTo = some w → w ≤ s.env.third) →
    (s.dev.slot x.slot).used = true → (s.dev.slot x.slot).finished = false →
    let offline := x.passed = [] ∧ chanOn s.dev x.ch = true
    let last := ∀ c, c / 4 = x.ch / 4 → c ≠ x.ch → (s.dev.chan c).state ≠ 2
    ∃ t, exec .loftTrainEnd s = .next t ∧ t.dev.loft.train = none ∧ (t.dev.chan x.ch).noEye = decide (x.passed = []) ∧
      (∀ a, mget t.host a = if x.mapAddr ≤ a ∧ a < x.mapAddr + 32
        then (natLE 32 (x.passed.foldl (fun n p => n + 2 ^ p) 0)).getD (a - x.mapAddr) 0 else mget s.host a) ∧
      (x.passed = [] → s.dev.finishes s.env x.slot stNoEye [] t.dev) ∧
      (x.passed ≠ [] → s.dev.finishes s.env x.slot stOk
        [(passRun x.stride x.passed (0, 0, 0) (0, 0, 0)).2.1 +
          (passRun x.stride x.passed (0, 0, 0) (0, 0, 0)).2.2 * 256] t.dev) ∧
      (offline → (t.dev.chan x.ch).state = 0 ∧ t.dev.loft.deepOff = true) ∧
      (¬ offline → (t.dev.chan x.ch).state = (s.dev.chan x.ch).state ∧ t.dev.loft.deepOff = s.dev.loft.deepOff) ∧
      (offline → (s.dev.slot x.slot).forHead = false → t.dev.gut.fallback = true ∧
        t.dev.evCnt 135 0 = s.dev.evCnt 135 0 + 1) ∧
      (offline ∧ last → t.dev.pwr = (powerRequest s.env (130 + x.ch / 4) false s.dev).pwr) ∧
      (¬ (offline ∧ last) → t.dev.pwr = s.dev.pwr) ∧
      (∀ m, m ≠ x.ch → t.dev.chan m = s.dev.chan m) ∧ t.env = s.env ∧ t.loft = s.loft ∧ t.hpt = s.hpt ∧
      t.pending = s.pending ∧ s.dev.sameBut (egressParts ++ [.pwr] ++ s.dev.cplParts x.slot) t.dev) ∧
  (∀ (s : State) (k : Fin 4096), gnsStart s.dev k 0x42 = true → s.dev.loft.train = none → s.dev.loft.restart = none →
    (∀ c, (s.dev.copy c).started = true → (s.dev.copy c).spilled = false) →
    let m := argWord s.dev k 4
    let bad := ∃ c, c < 32 ∧ bit m c = true ∧ (s.dev.chan c).noEye = true
    ∃ t, exec (.loftRestart k) s = .next t ∧
      (bad → s.dev.finishes s.env k stRejected [] t.dev ∧ s.sameBut (s.dev.cplParts k) t) ∧
      (¬ bad → t.dev.loft.restart = some (k.val, m) ∧ (t.dev.slot k).running = true ∧ t.dev.gut.fallback = true ∧
        t.dev.slate.flowLost = true ∧ (∀ i, (t.dev.flow i).frames = 0 ∧ (t.dev.flow i).bytes = 0) ∧
        (∀ c, (t.dev.copy c).spilled = false) ∧ (∀ c, t.dev.chan c = s.dev.chan c) ∧
        t.dev.pwr = ((pkgs m).foldl (fun d p => powerRequest s.env (130 + p) true d) s.dev).pwr ∧
        s.sameBut (egressParts ++ [.cmd, .slate, .pwr]) t)) ∧
  (∀ (s : State) (k m : Nat), s.dev.loft.restart = some (k, m) → (∃ p ∈ pkgs m, unitOn s.dev (130 + p) = false) →
    exec .loftRestartEnd s = .next s) ∧
  (∀ (s : State) (k m : Nat), s.dev.loft.restart = some (k, m) → s.dev.gns.dead = false →
    (s.dev.slot k).used = true → (s.dev.slot k).finished = false →
    (∀ p ∈ pkgs m, unitOn s.dev (130 + p) = true) →
    let on := (List.range 32).filter (fun c => bit m c)
    let gone := (List.range 8).filter (fun p => decide (p ∉ pkgs m ∧ ∃ c, c < 4 * p + 4 ∧ c / 4 = p ∧ (s.dev.chan c).state = 2))
    ∃ t, exec .loftRestartEnd s = .next t ∧ t.dev.loft.restart = none ∧ t.dev.loft.inter = on ∧ t.dev.loft.up = true ∧
      t.dev.loft.lostEye = false ∧ t.dev.loft.deepOff = decide (on = []) ∧ t.dev.loft.alloc = [] ∧
      (∀ c, c < 32 → bit m c = true → (t.dev.chan c).state = 2 ∧ (t.dev.chan c).queue = [] ∧ (t.dev.chan c).feed = [] ∧
        (t.dev.chan c).aggr = (s.dev.chan c).aggr) ∧
      (∀ c, c < 32 → bit m c = false → (s.dev.chan c).state = 2 → (t.dev.chan c).state = 0) ∧
      (∀ c, c < 32 → bit m c = false → (s.dev.chan c).state ≠ 2 → t.dev.chan c = s.dev.chan c) ∧
      ((s.dev.slot k).forHead = false → t.dev.gut.size = min 8 (s.env.f 0xC00000 3 0) ∧
        t.dev.gut.fallback = decide (on = [])) ∧
      (∀ i, (s.dev.set i).valid = true → (s.dev.set i).resident = false → (t.dev.set i).lost = true) ∧
      s.dev.finishes s.env k stOk [on.length] t.dev ∧
      t.dev.pwr = (gone.foldl (fun d p => powerRequest s.env (130 + p) false d) s.dev).pwr ∧
      s.sameBut ([.loft, .gut, .evt, .pmu, .sets, .pwr] ++ s.dev.cplParts k) t)

/-! ## Twin (chapter 15) -/

/-- The twin pair's state copy (R368, R370-R373, R376, R379): ROLE_EXCHANGE settles the pair once the Flashing lanes are on, TWIN_CYCLE_BOUNDARY closes a
delta or hands the role over, STATE_COPY sends what one cycle of the link carries, DELTA_RECORD_RECEIVE applies a record at
the standby, whose learning engine serves its learn and age-out records in turn (a full copy is applied with the last of
them), TWIN_SWITCH arms a handover. -/
def Obligations.TwinStateCopy : Prop :=
  (∀ (s : State) (partner : Option Bool), s.env.b 0x1100000 31 = true → s.dev.twin.state = 1 →
    s.dev.twin.enabledAt.isSome = true → s.env.b 0x1200004 0 = true →
    let own := s.env.b 0x1100004 0
    ((unitOn s.dev 128 = false ∨ unitOn s.dev 129 = false) → exec (.roleExchange partner) s = .next s) ∧
    (unitOn s.dev 128 = true → unitOn s.dev 129 = true → ∃ t, exec (.roleExchange partner) s = .next t ∧ s.sameBut [.twin, .evt, .pmu] t ∧ (partner = none → t = s) ∧
      (partner = some own → t.dev.twin.state = 5 ∧ s.dev.raised 136 4 t.dev) ∧
      (partner = some (!own) → t.dev.twin.state = 2 ∧ t.dev.twin.eligible = false ∧ t.dev.twin.full = !own ∧
        t.dev.evt = s.dev.evt ∧ (own = true → t.dev.twin.toSend = []) ∧
        (own = false → t.dev.twin.toSend = fullItems s.dev ∧ t.dev.twin.flowSent = [])))) ∧
  (∀ (s : State), s.env.b 0x1100000 31 = true → s.dev.twin.state = 2 ∨ s.dev.twin.state = 3 →
    s.dev.twin.k ≠ twinK s.env →
    let x := s.dev.twin
    let k := twinK s.env
    let due := ∃ slot dom n, x.handover = some (slot, dom, n) ∧ n ≤ s.env.domNs dom
    ∃ t, exec .twinCycleBoundary s = .next t ∧ t.dev.twin.k = k ∧ t.dev.twin.kAt = s.env.third ∧
      t.env = s.env ∧ t.host = s.host ∧ t.pending = s.pending ∧
      (s.env.b 0x1100004 0 = true → s.sameBut [.twin] t ∧
        t.dev.twin = { x with k := k, kAt := s.env.third, counting := true }) ∧
      (s.env.b 0x1100004 0 = false → ¬ due → s.sameBut [.twin, .evt, .pmu] t ∧
        t.dev.twin.sentHb = some ⟨k, s.env.ltNs, false, false⟩ ∧ t.dev.twin.sentRecs = [quartzRec s.env] ∧
        t.dev.twin.copyDue = true ∧ t.dev.twin.changed = [] ∧ t.dev.twin.lagging = decide (x.toSend ≠ []) ∧
        t.dev.twin.lag = min 0xFFFFFFFF (itemBytes x.toSend) ∧
        (∀ i, i ∈ t.dev.twin.toSend ↔ 3 ≤ i.1 ∧ i.1 ≤ 9 ∧ (i ∈ x.changed ∨
          (i ∈ x.toSend ∧ (i.1 = 5 → (6, i.2) ∉ x.changed) ∧ (i.1 = 6 → (5, i.2) ∉ x.changed)))) ∧
        t.dev.twin.toSend.Pairwise (fun a b => a.1 ≤ b.1) ∧
        t.dev.evCnt 136 2 = s.dev.evCnt 136 2 + if x.toSend ≠ [] ∧ x.lagging = false then 1 else 0) ∧
      (s.env.b 0x1100004 0 = false → due → s.sameBut (.twin :: egressParts) t ∧
        t.dev.twin.state = 4 ∧ t.dev.twin.fenceOut = false ∧ t.dev.twin.handover = none ∧
        t.dev.twin.sentHb = some ⟨k, s.env.ltNs, true, false⟩ ∧ t.dev.twin.sentRecs = [quartzRec s.env] ∧
        (∀ slot r, x.handover = some (slot, r) → t.dev.twin.handed = some (slot, k)))) ∧
  (∀ (s : State), s.env.b 0x1100000 31 = true → s.dev.twin.state = 2 ∨ s.dev.twin.state = 3 →
    s.env.b 0x1100004 0 = false → s.dev.twin.copyDue = true → s.dev.gns.dead = false →
    let x := s.dev.twin
    let room := twinCyc s.env * 265 / 10 - 128
    ∃ t, ∃ gone, exec .stateCopy s = .next t ∧ x.toSend = gone ++ t.dev.twin.toSend ∧ itemBytes gone ≤ room ∧
      (∀ i l, t.dev.twin.toSend = i :: l → room < itemBytes gone + recBytes i.1) ∧
      t.dev.twin.sentRecs = x.sentRecs ++ gone.filterMap (recOf s.env s.dev) ++
        (if x.full = true ∧ t.dev.twin.toSend = [] then [.fullCopyEnd] else []) ∧
      t.dev.twin.state = (if x.full = true ∧ t.dev.twin.toSend = [] then 3 else x.state) ∧
      t.dev.twin.copyDue = false ∧ t.dev.twin.full = (x.full && decide (t.dev.twin.toSend ≠ [])) ∧
      s.sameBut [.twin] t) ∧
  (∀ (s : State) (r : DeltaRec), s.env.b 0x1100000 31 = true → s.dev.twin.state = 2 ∨ s.dev.twin.state = 3 →
    s.env.b 0x1100004 0 = true →
    ∃ t, exec (.deltaRecordReceive r) s = .next t ∧ t.host = s.host ∧ t.loft = s.loft ∧ t.hpt = s.hpt ∧
      t.pending = s.pending ∧ t.env.regs = s.env.regs ∧ t.env.third = s.env.third ∧
      match r with
      | .quartz adj _ => s.dev.sameBut [.twin, .evt, .pmu, .qtz] t.dev ∧
          (s.env.b 0x1100000 29 = false → t = s) ∧
          (s.env.b 0x1100000 29 = true → s.env.doms.length = 4 →
            (∀ k, k < 4 → (t.env.dom k).adj = (adj.getD k 0).toInt) ∧
            t.dev.twin.timeLocked = decide (t.dev.twin.lockN = 8) ∧
            (t.dev.twin.lockN = 0 ∨ t.dev.twin.lockN = min 8 (s.dev.twin.lockN + 1)))
      | .identifiers a b sets => s.sameBut [.twin, .evt, .pmu] t ∧
          t.dev.twin = { s.dev.twin with mismatch := t.dev.twin.mismatch } ∧
          (t.dev.twin.mismatch = false ↔
            a = verFin s.dev.rs.active ∧ b = verFin s.dev.rs.retiring ∧ sets = setBits96 s.dev) ∧
          t.dev.evCnt 136 3 = s.dev.evCnt 136 3 + if t.dev.twin.mismatch then 1 else 0
      | .frerGen st n => s.sameBut [.slate] t ∧ tget t.dev.slate.genDef t.dev.slate.gen st.toNat = n.toNat ∧
          t.dev.slate.genDef = s.dev.slate.genDef
      | .frerRecovery st h => s.sameBut [.slate] t ∧
          (tget {} t.dev.slate.recov st.toNat).hist = h.toNat % 2 ^ 32 ∧
          (tget {} t.dev.slate.recov st.toNat).seq = h.toNat / 2 ^ 32 % 65536 ∧
          (∀ j, j ≠ st.toNat → tget {} t.dev.slate.recov j = tget {} s.dev.slate.recov j)
      | .learn p key res => s.sameBut [.slate] t ∧ t.dev.slate = { s.dev.slate with hostQ := s.dev.slate.hostQ ++
          [{ profile := p.val, key := key.toNat, result := res.toNat, op := 3 }] }
      | .ageOut p key => s.sameBut [.slate] t ∧ t.dev.slate = { s.dev.slate with hostQ := s.dev.slate.hostQ ++
          [{ profile := p.val, key := key.toNat, result := 0, op := 4 }] }
      | .meter i tc te => s.sameBut [.slate] t ∧
          tget {} t.dev.slate.meters i.toNat = { tc := some tc, te := some te, at3 := s.env.third } ∧
          ∀ j, j ≠ i.toNat → tget {} t.dev.slate.meters j = tget {} s.dev.slate.meters j
      | .shaper n q v => s.sameBut [.ports, .twin] t ∧ s.dev.otherPorts n t.dev ∧
          (t.dev.port n).still = (s.dev.port n).still ∧ (t.dev.port n).tx = (s.dev.port n).tx ∧
          (tfind (t.dev.port n).bkt ((q.map (·.val)).getD 16) = some v)
      | .flow i fr by_ => s.sameBut [.slate, .twin] t ∧
          t.dev.flow i.toNat = { s.dev.flow i.toNat with
            frames := ((s.dev.flow i.toNat).frames + fr) % 2 ^ 64, bytes := ((s.dev.flow i.toNat).bytes + by_) % 2 ^ 64 } ∧
          ∀ j, j ≠ i.toNat → t.dev.flow j = s.dev.flow j
      | .fullCopyEnd => s.sameBut [.twin] t ∧
          let left := (s.dev.slate.hostQ.filter (fun r => decide (3 ≤ r.op))).length
          (left = 0 → t.dev.twin = { s.dev.twin with copyLeft := none, eligible := true, state := 3 }) ∧
          (left ≠ 0 → t.dev.twin = { s.dev.twin with copyLeft := some left })) ∧
  (∀ (s : State) (r : LearnReq) (rest : List LearnReq),
    let d := portsTake s.env s.dev
    learnNext d = some 16 → d.slate.hostQ = r :: rest → r.op = 3 ∨ r.op = 4 →
    let key := xKey s.env r.profile r.key
    let lock := learnLocked s.env d r.profile key
    let failed := fun (t : State) => t.dev.twin.applyFail = (s.dev.twin.applyFail + 1) % 2 ^ 32
    ∃ t, exec .learnRequestServe s = .next t ∧ t.dev.slate.hostQ = rest ∧
      (∀ n, s.dev.twin.copyLeft = some n → (1 < n → t.dev.twin.copyLeft = some (n - 1)) ∧
        (n ≤ 1 → t.dev.twin.copyLeft = none ∧ t.dev.twin.eligible = true ∧ t.dev.twin.state = 3)) ∧
      (s.dev.twin.copyLeft = none → t.dev.twin.copyLeft = none ∧ t.dev.twin.state = s.dev.twin.state) ∧
      (r.op = 3 → lock = true → t.dev.slate.x = d.slate.x ∧ failed t ∧
        blkCnt t.dev 0 71 = (blkCnt d 0 71 + 1) % 2 ^ 48) ∧
      (r.op = 3 → lock = false → (t.dev.slate.x = d.slate.x ∧ failed t ∧ d.raised 128 5 t.dev) ∨
        ∃ i ∈ xCand s.env r.profile key, (t.dev.xSlot i).key = key ∧ (t.dev.xSlot i).result = r.result ∧
          (t.dev.xSlot i).valid = true ∧ (t.dev.xSlot i).profile = r.profile) ∧
      (r.op = 4 → t.dev.twin.applyFail = s.dev.twin.applyFail) ∧
      (r.op = 4 → (lock = true ∨ xFind s.env d r.profile key = none) → t.dev.slate.x = d.slate.x) ∧
      (r.op = 4 → lock = false → ∀ i, xFind s.env d r.profile key = some i → (t.dev.xSlot i).valid = false ∧
        ∀ j, j ≠ i → t.dev.xSlot j = d.xSlot j) ∧
      s.sameBut [.evt, .stat, .pmu, .blks, .slate, .twin] t) ∧
  (∀ (s : State) (k : Fin 4096), canStart s.dev k 0x50 = true → s.dev.twin.handover = none →
    let ok := s.env.b 0x1100000 31 = true ∧ s.env.b 0x1100004 0 = false ∧ s.dev.twin.state = 3
    ∃ t, exec (.twinSwitch k) s = .next t ∧
      (ok → t.dev.twin = { s.dev.twin with handover := some (k.val, argWord s.dev k 4 % 4, argTime s.dev k 5) } ∧
        (t.dev.slot k).running = true ∧ (∀ j, j ≠ k.val → t.dev.slot j = s.dev.slot j) ∧ s.sameBut [.twin, .cmd] t) ∧
      (¬ ok → s.dev.finishes s.env k stRejected [] t.dev ∧ s.sameBut (s.dev.cplParts k) t))

/-- Heartbeats, takeover and fence (R374, R375, R377, R380): a heartbeat is acknowledged and may hand the role over; the
second missed heartbeat in a row makes an eligible standby take over; the third missed acknowledgement in a row, or the
wired fence input rising, fences the active; a fenced device leaves the fence as an unpaired standby. What TWN_DELAY holds at a
standby is a free value (log 67). -/
def Obligations.TwinTakeover : Prop :=
  let inPair := fun (s : State) => s.env.b 0x1100000 31 = true ∧ (s.dev.twin.state = 2 ∨ s.dev.twin.state = 3)
  let standby := fun (s : State) => s.env.b 0x1100004 0 = true
  let skip := fun (s : State) (n : Nat) => (n + s.env.f 0x1100000 15 0) % 65536
  let takes := fun (s t : State) => t.env = s.env.setReg 0x1100004 0 ∧ t.dev.twin.state = 1 ∧
    t.dev.twin.fenceOut = true ∧ t.dev.twin.eligible = false ∧ forwarding t.env t.dev = true ∧
    t.dev.evCnt 136 0 = s.dev.evCnt 136 0 + 1 ∧
    (∀ st, tget t.dev.slate.genDef t.dev.slate.gen st = skip s (tget s.dev.slate.genDef s.dev.slate.gen st)) ∧
    (∀ n, (s.dev.port n).link = true → (t.dev.port n).pause = []) ∧
    t.dev.slate = { s.dev.slate with gen := t.dev.slate.gen, genDef := t.dev.slate.genDef,
                                     epochStart := t.dev.slate.epochStart } ∧
    s.dev.sameBut [.twin, .slate, .ports, .evt, .pmu] t.dev
  let fenced := fun (s t : State) => t.dev.twin.state = 4 ∧ t.dev.twin.fenceOut = false ∧
    forwarding t.env t.dev = false ∧ (∀ n, (t.dev.port n).tx = none ∧ (t.dev.port n).preempted = none) ∧
    ((∀ j, (s.dev.asm j).out < 16) → t.dev.evCnt 136 1 = s.dev.evCnt 136 1 + 1)
  (∀ (s : State) (k : Nat) (handover fault : Bool), inPair s → standby s →
    ∃ t, exec (.heartbeatReceive k handover fault) s = .next t ∧ t.dev.twin.sentAck = some k ∧ t.dev.twin.hbK = k ∧
      ((handover || fault) = true → s.dev.twin.eligible = true → takes s t) ∧
      ((handover || fault) = false ∨ s.dev.twin.eligible = false → s.sameBut [.twin, .free] t ∧
        t.dev.twin = { s.dev.twin with hbK := k, sentAck := some k, missHb := t.dev.twin.missHb,
                                       delay := t.dev.twin.delay } ∧
        t.dev.twin.delay = (Config.freeValue s.dev.free).toNat % 65536 ∧
        t.dev.twin.missHb = if s.dev.twin.hbJudged = k then s.dev.twin.missHb else 0)) ∧
  (∀ (s : State), inPair s → standby s → s.dev.twin.counting = true → s.dev.twin.hbK ≠ s.dev.twin.k →
    s.dev.twin.hbJudged ≠ s.dev.twin.k → s.dev.twin.kAt + us 1 ≤ s.env.third →
    let n := s.dev.twin.missHb + 1
    ∃ t, exec .heartbeatMiss s = .next t ∧ t.dev.evCnt 136 5 = s.dev.evCnt 136 5 + 1 ∧
      (2 ≤ n → s.dev.twin.eligible = true → takes s t) ∧
      (n < 2 ∨ s.dev.twin.eligible = false → s.sameBut [.twin, .evt, .pmu] t ∧
        t.dev.twin = { s.dev.twin with hbJudged := s.dev.twin.k, missHb := n })) ∧
  (∀ (s : State) (k turn : Nat),
    let x := s.dev.twin
    ∃ t, exec (.heartbeatAckReceive k turn) s = .next t ∧
      (x.handed = none → inPair s → ¬ standby s → s.sameBut [.twin] t ∧ t.dev.twin = { x with
        ackK := k
        delay := if k = x.k then min 65535 (((s.env.third - x.kAt) / 3 - turn) / 2) else x.delay
        missAck := if x.ackJudged = k then x.missAck else 0 }) ∧
      (∀ slot, x.handed = some (slot, k) → (s.dev.slot slot).used = true → (s.dev.slot slot).finished = false →
        t.dev.twin = { x with handed := none, ackK := k } ∧ s.dev.finishes s.env slot stOk [] t.dev ∧
        s.sameBut (.twin :: s.dev.cplParts slot) t)) ∧
  (∀ (s : State), inPair s → ¬ standby s → s.dev.twin.handover = none → s.dev.twin.counting = true →
    s.dev.twin.ackK ≠ s.dev.twin.k → s.dev.twin.ackJudged ≠ s.dev.twin.k → s.dev.twin.kAt + us 3 ≤ s.env.third →
    let n := s.dev.twin.missAck + 1
    let apart := s.env.b 0x1100000 30 = true ∧ s.dev.twin.fenceIn = false
    ∃ t, exec .ackMiss s = .next t ∧ t.env = s.env ∧ t.host = s.host ∧
      (3 ≤ n → ¬ apart → fenced s t ∧ s.sameBut (.twin :: egressParts) t) ∧
      (n < 3 ∨ apart → s.sameBut [.twin, .evt, .pmu] t ∧ t.dev.evCnt 136 5 = s.dev.evCnt 136 5 + 1 ∧
        t.dev.twin = { s.dev.twin with ackJudged := s.dev.twin.k, missAck := n })) ∧
  (∀ (s : State), s.dev.twin.handover = none →
    let active := s.env.b 0x1100000 31 = true ∧ s.env.b 0x1100000 30 = true ∧ s.env.b 0x1100004 0 = false ∧
      (s.dev.twin.state = 1 ∨ s.dev.twin.state = 2 ∨ s.dev.twin.state = 3)
    ∃ t, exec .fenceInRise s = .next t ∧ t.dev.twin.fenceIn = true ∧
      (active → fenced s t ∧ s.sameBut (.twin :: egressParts) t) ∧
      (¬ active → t.dev.twin = { s.dev.twin with fenceIn := true } ∧ s.sameBut [.twin] t)) ∧
  (∀ (s : State), inPair s → ¬ standby s → s.dev.twin.handover = none →
    ∃ t, exec .withdrawNoticeReceive s = .next t ∧ t.dev.twin.state = 1 ∧ t.dev.twin.counting = false ∧
      t.dev.twin.missAck = 0 ∧ forwarding t.env t.dev = true ∧ s.sameBut [.twin] t) ∧
  (∀ (s : State), s.dev.twin.state = 4 → ∃ t, exec .unfence s = .next t ∧
    t.dev.twin = { s.dev.twin with state := 0 } ∧ (s.env.b 0x1100000 31 = true → forwarding t.env t.dev = false) ∧
    s.wrote 0x1100004 1 [.twin] t)

/-! ## Host port, commands and epochs (chapter 16) -/

/-- The host port's rings (R37, R383, R386-R389, R442): HOST_SEND_TAKE takes a send at HEAD in its ring's turn and gives it to
the host slice or counts it; HOST_RECEIVE_DELIVER writes the oldest frame or echo into the buffers at HEAD; RING_VECTOR_TIMER sends the message
left to the end of its interval; PF1_FLR stops all rings and discards what the host port holds. -/
def Obligations.HostRings : Prop :=
  let ahead := fun (s t : State) (r k : Nat) (m : Memory) =>
    let x := s.dev.ring r
    let head := (x.head + k) % ringLen s.hpt r
    let wb := hptGet s.hpt r 0x14 + 2 ^ 32 * hptGet s.hpt r 0x18
    (t.dev.ring r).head = head ∧ t.host = (if wb = 0 then m else mwrite m wb (natLE 4 head)) ∧
      ((∀ w, x.vecAt = some w → w + us 2 ≤ s.env.third) →
        (t.dev.ring r).vecSent = x.vecSent + 1 ∧ (t.dev.ring r).vecAt = some s.env.third) ∧
      (∀ w, x.vecAt = some w → s.env.third < w + us 2 →
        (t.dev.ring r).vecSent = x.vecSent ∧ (t.dev.ring r).vecPend = true) ∧
      ∀ j, j ≠ r → t.dev.ring j = s.dev.ring j
  (∀ (s : State) (r : Fin 64) (ds : List TxDesc) (data : List Byte) (x : TxDesc), s.env.b 0x1200004 0 = true →
    sendTurn s r = true → ds.head? = some x → oneSend ds = true → ds.length ≤ ringAvail s r → data.length = ds.foldl (fun a y => a + y.len) 0 →
    let bad := 16 < ds.length ∨ (x.tso = true ∧ tsoOk data x.hdrLen x.mss = false) ∨ (x.tso = false ∧ 9212 < data.length)
    let l := data ++ zeros (60 - data.length)
    let b := r.val % 16
    let pool := inPool s.env b 6 (classOf s.env b 6 l)
    let need := ceilDiv (l ++ fcsOf l).length 256
    let f := s.dev.nextFrame
    ∃ t, exec (.hostSendTake r ds data) s = .next t ∧ ahead s t r ds.length s.host ∧
      (bad → (t.dev.ring r).err = ((s.dev.ring r).err + 1) % 2 ^ 32 ∧ t.dev.frames = s.dev.frames ∧
        t.dev.blk b = { s.dev.blk b with hostRr := (r.val / 16 + 1) % 4 } ∧ s.dev.otherBlks b t.dev) ∧
      (¬ bad → (t.dev.ring r).err = (s.dev.ring r).err) ∧
      (¬ bad → x.tso = false → takesFrames s.env s.dev = true → (grantRun s.env b pool need s.dev).1 = need →
        (verAt s.env s.dev s.env.ltStamp).isSome = true → thas t.dev.frames f = true ∧
        (t.dev.frame f).bytes = l ++ fcsOf l ∧ (t.dev.frame f).inPort = 96 ∧ (t.dev.frame f).blk = b ∧
        (t.dev.frame f).pool = pool ∧ (t.dev.frame f).charge = need ∧ (t.dev.frame f).cookie = x.cookie.toNat ∧
        (t.dev.blk b).waitGen = (s.dev.blk b).waitGen ++ [f]) ∧
      (t.dev.blk b).hostRr = (r.val / 16 + 1) % 4 ∧
      t.env = s.env ∧ t.loft = s.loft ∧ t.hpt = s.hpt ∧ t.pending = s.pending ∧
      s.dev.sameBut [.evt, .stat, .pmu, .blks, .frames, .sends, .gut, .rings] t.dev) ∧
  (∀ (s : State) (r : Fin 64) (ds : List TxDesc) (data : List Byte), sendTurn s r = false →
    exec (.hostSendTake r ds data) s = .next s) ∧
  (∀ (s : State) (b : Fin 16) (bufs : List RxBuf) (x : HostRx) (rest : List HostRx) (used : List RxBuf),
    (s.dev.blk b).hostQ = x :: rest → (s.dev.frame x.frame).rxDone = true →
    let f := s.dev.frame x.frame
    let y : HostRx := { x with bytes := f.bytes.take (f.bytes.length - 4) }
    let r := 64 + x.ring
    (f.bad = true → ∃ t, exec (.hostReceiveDeliver b bufs) s = .next t ∧ (t.dev.blk b).hostQ = rest ∧ t.host = s.host ∧
      t.dev.rings = s.dev.rings ∧ s.dev.sameBut (egressParts ++ [.frames, .sends]) t.dev) ∧
    (f.bad = false → bufsFor (max 1 y.bytes.length) (bufs.take (ringAvail s r)) = some used →
      ∃ t, exec (.hostReceiveDeliver b bufs) s = .next t ∧ (t.dev.blk b).hostQ = rest ∧
        ahead s t r used.length
          (rxWrite (ringBase s.hpt r) (ringLen s.hpt r) y used (s.dev.ring r).head y.bytes s.host) ∧
        (t.dev.ring r).err = (s.dev.ring r).err ∧ t.env = s.env ∧
        s.dev.sameBut (egressParts ++ [.frames, .sends, .rings]) t.dev) ∧
    (f.bad = false → ringAvail s r ≤ bufs.length → bufsFor (max 1 y.bytes.length) (bufs.take (ringAvail s r)) = none →
      ∃ t, exec (.hostReceiveDeliver b bufs) s = .next t ∧ (t.dev.blk b).hostQ = rest ∧ t.host = s.host ∧
        (t.dev.ring r).err = ((s.dev.ring r).err + 1) % 2 ^ 32 ∧ (t.dev.ring r).head = (s.dev.ring r).head)) ∧
  (∀ (s : State) (b : Fin 16) (bufs used : List RxBuf) (x : Echo) (rest : List Echo), (s.dev.blk b).hostQ = [] →
    (s.dev.blk b).echoes = x :: rest →
    let y : HostRx := { ring := s.env.f 0xB00D00 5 0, bytes := x.bytes, len := x.bytes.length, inPort := x.port,
                        ts := x.tOut, hash := 0, ver := 0, echo := some (x.status, x.cookie) }
    let r := 64 + s.env.f 0xB00D00 5 0
    (bufsFor (max 1 x.bytes.length) (bufs.take (ringAvail s r)) = some used →
      ∃ t, exec (.hostReceiveDeliver b bufs) s = .next t ∧ (t.dev.blk b).echoes = rest ∧
        ahead s t r used.length
          (rxWrite (ringBase s.hpt r) (ringLen s.hpt r) y used (s.dev.ring r).head x.bytes s.host) ∧
        t.env = s.env ∧ s.dev.sameBut [.rings, .blks] t.dev) ∧
    (ringAvail s r ≤ bufs.length → bufsFor (max 1 x.bytes.length) (bufs.take (ringAvail s r)) = none →
      ∃ t, exec (.hostReceiveDeliver b bufs) s = .next t ∧ (t.dev.blk b).echoes = rest ∧ t.host = s.host ∧
        blkCnt t.dev b 85 = (blkCnt s.dev b 85 + 1) % 2 ^ 48 ∧
        (t.dev.ring r).err = (s.dev.ring r).err)) ∧
  (∀ (s : State) (v : Fin 128),
    let r := v.val / 2 + 64 * (v.val % 2)
    let x := s.dev.ring r
    x.vecPend = true → (∀ w, x.vecAt = some w → w + us 2 ≤ s.env.third) →
    ∃ t, exec (.ringVectorTimer v) s = .next t ∧
      t.dev.ring r = { x with vecAt := some s.env.third, vecPend := false, vecSent := x.vecSent + 1 } ∧
      (∀ j, j ≠ r → t.dev.ring j = s.dev.ring j) ∧ s.sameBut [.rings] t) ∧
  (∀ (s : State), ∃ t, exec .pf1Flr s = .next t ∧ t.hpt = [] ∧ t.dev.rings = [] ∧
    (∀ b, (t.dev.blk b).hostQ = [] ∧ (t.dev.blk b).echoes = []) ∧
    (∀ i, (∀ b, ∀ x ∈ (s.dev.blk b).hostQ, x.frame ≠ i) → thas s.dev.frames i = true →
      ((s.dev.frame i).fromHost = true ∧ (s.dev.frame i).stage ≠ .released → thas t.dev.frames i = true →
        (t.dev.frame i).bad = true ∧ (t.dev.frame i).echoed = true) ∧
      (¬ ((s.dev.frame i).fromHost = true ∧ (s.dev.frame i).stage ≠ .released) → t.dev.frame i = s.dev.frame i)) ∧
    t.env = s.env ∧ t.host = s.host ∧ t.loft = s.loft ∧ t.pending = s.pending ∧
    s.dev.sameBut (egressParts ++ [.frames, .sends, .rings, .pwr]) t.dev)

/-- Commands (R391, R392, R393, R394, R396, R397, R402, R405, R423): CMD_ISSUE takes the staged descriptor into a free slot
and returns its handle or a reason, COMMAND_RING_FETCH does so for a descriptor of the ring and writes the answer into it,
COMPLETION_POST writes the oldest completion into the ring, CPL_HEAD_WRITE frees the slots it moves past, and a posting
of its management cycle still sees the head before it (R396). NOP completes,
SET_DEVID changes the device's ID, KEY_WRITE makes a member's key valid, PATCH_LOAD loads an image that keeps its layout. -/
def Obligations.Commands : Prop :=
  let reason := fun (s : State) => if 4096 ≤ freeSlot s.dev.cmd.slots 0 then 1
    else if s.dev.cmd.rebuilding = true ∨ s.dev.pwr.bistRun = true ∨ s.dev.pwr.phase = 0 then 2
    else if s.env.f 0x200058 3 0 = 0 then 3 else 0
  let handle := fun (s : State) =>
    ((s.dev.slot (freeSlot s.dev.cmd.slots 0)).gen + 1) % 16 * 4096 + freeSlot s.dev.cmd.slots 0
  let answer := fun (s : State) => if reason s ≠ 0 then reason s * 2 ^ 28 else 2 ^ 31 + handle s
  let frameParts : List Part := [.evt, .stat, .pmu, .blks, .frames, .sends, .gut]
  let issued := fun (s : State) (desc : List Word) (t : State) =>
    let w0 := (desc.getD 0 0).toNat
    let k := freeSlot s.dev.cmd.slots 0
    let m := w0 % 64
    let local_ := m = s.env.f 0x200100 5 0
    let member := ¬ local_ ∧ s.env.b 0x200100 6 = true ∧ bit (s.env.reg 0x200104 + 2 ^ 32 * s.env.reg 0x200108) m = true ∧
      bit s.dev.cmd.keyValid m = true ∧ w0 / 2 ^ 24 ≠ 2
    let known := w0 / 2 ^ 24 ∈ knownOpcodes
    (reason s ≠ 0 → t.dev.cmd.slots = s.dev.cmd.slots ∧ t.dev.cmd.cpls = s.dev.cmd.cpls) ∧
    (reason s = 0 → (t.dev.slot k).used = true ∧ (t.dev.slot k).gen = ((s.dev.slot k).gen + 1) % 16 ∧
      (t.dev.slot k).desc = desc ∧ (t.dev.slot k).order = s.dev.cmd.issued ∧ (t.dev.slot k).acceptAt = s.env.ltNs ∧ t.dev.cmd.issued = s.dev.cmd.issued + 1 ∧
      (t.dev.slot k).running = false ∧ (∀ j, j ≠ k → t.dev.slot j = s.dev.slot j) ∧
      (local_ ∧ known ∨ member → (t.dev.slot k).finished = false ∧ t.dev.cmd.cpls = s.dev.cmd.cpls ∧
        ((t.dev.slot k).member = if local_ then none else some m)) ∧
      (¬ (local_ ∧ known ∨ member) → (t.dev.slot k).finished = true ∧ ∃ c, t.dev.cmd.cpls = s.dev.cmd.cpls ++ [c] ∧
        c.slots = [k] ∧ c.handle = handle s ∧ c.status = stRejected ∧ c.tag = desc.getD 1 0 ∧
        c.opcode = w0 / 2 ^ 24 ∧ c.devid = s.env.f 0x200100 5 0) ∧
      (member → (s.dev.memb m).queue = [] →
        let ms := freeMslot (s.dev.memb m).out 0
        let o : MSlot := { slot := k, gen := (tget 0 (s.dev.memb m).gens ms + 1) % 16, sentAt := s.env.third, resends := 0,
                           acked := false }
        (ms < 256 → (t.dev.memb m).queue = [] ∧ tfind (t.dev.memb m).out ms = some o) ∧
        (256 ≤ ms → (t.dev.memb m).queue = [k] ∧ (t.dev.memb m).out = (s.dev.memb m).out)))
  (∀ (s : State),
    let desc := (List.range 16).map (fun w => w32 (s.env.reg (0x200000 + 4 * w)))
    ∃ t, exec .cmdIssue s = .next t ∧ t.dev.mgmt.readData = answer s ∧ issued s desc t ∧
      s.sameBut (.mgmt :: .cmd :: frameParts) t) ∧
  (∀ (s : State) (desc : List Word),
    let n := 32 * 2 ^ min (s.env.f 0x200078 3 0) 8
    let h := s.dev.cmd.ringHead % n
    s.env.f 0x200078 3 0 ≠ 0 → h ≠ s.env.f 0x20007C 12 0 % n → reason s = 0 ∨ reason s = 3 →
    ∃ t, exec (.commandRingFetch desc) s = .next t ∧ t.dev.cmd.ringHead = (h + 1) % n ∧ issued s desc t ∧
      t.host = mwrite s.host (s.env.reg 0x200070 + 2 ^ 32 * s.env.reg 0x200074 + 64 * h + 8) (natLE 4 (answer s)) ∧
      t.env = s.env ∧ t.loft = s.loft ∧ t.hpt = s.hpt ∧ t.pending = s.pending ∧
      s.dev.sameBut (.cmd :: frameParts) t.dev) ∧
  (∀ (s : State) (c : Cpl) (rest : List Cpl), s.dev.cmd.cpls = c :: rest → cplSize s.env ≠ 0 →
    cplBlocked s.env s.dev = false → s.dev.pwr.pcieUp = true →
    let n := cplSize s.env
    let i := s.dev.cmd.tail % n
    let words := [flagAt s.dev.cmd.phase 31 + c.status * 2 ^ 24 + c.devid * 2 ^ 16 + c.handle, c.tag.toNat,
      c.opcode * 2 ^ 24 + s.dev.cmd.epoch] ++ ((c.results ++ List.replicate 5 0).take 5).map BitVec.toNat
    ∃ t, exec .completionPost s = .next t ∧
      t.host = mwrite s.host (s.env.reg 0x200050 + 2 ^ 32 * s.env.reg 0x200054 + 32 * i) (words.flatMap (natLE 4)) ∧
      t.dev.cmd.cpls = rest ∧ t.dev.cmd.tail = (i + 1) % n ∧ t.dev.cmd.inRing = s.dev.cmd.inRing ++ [c.slots] ∧
      t.dev.cmd.phase = (if (i + 1) % n = 0 then !s.dev.cmd.phase else s.dev.cmd.phase) ∧
      t.dev.cmd.stall = decide (((i + 1) % n + 1) % n = s.env.f 0x200060 12 0 % n) ∧
      t.dev.evCnt 137 0 = s.dev.evCnt 137 0 + (if c.opcode = 0xFF then 1 else 0) ∧
      t.dev.evCnt 137 1 = s.dev.evCnt 137 1 + (if t.dev.cmd.stall = true ∧ s.dev.cmd.stall = false then 1 else 0) ∧
      t.dev.cmd.slots = s.dev.cmd.slots ∧ t.env = s.env ∧ s.dev.sameBut [.cmd, .evt, .pmu] t.dev) ∧
  (∀ (s : State) (v : Word), cplSize s.env ≠ 0 →
    let n := cplSize s.env
    let k := (v.toNat % 8192 % n + n - s.env.f 0x200060 12 0 % n) % n
    ∃ t, exec (.cplHeadWrite v) s = .next t ∧ t.dev.cmd.inRing = s.dev.cmd.inRing.drop k ∧
      (∀ l ∈ s.dev.cmd.inRing.take k, ∀ j ∈ l, (t.dev.slot j).used = false ∧ (t.dev.slot j).gen = (s.dev.slot j).gen) ∧
      (∀ j, (∀ l ∈ s.dev.cmd.inRing.take k, j ∉ l) → t.dev.slot j = s.dev.slot j) ∧
      t.dev.cmd.cpls = s.dev.cmd.cpls ∧ cplHeadNow t.env t.dev = cplHeadNow s.env s.dev ∧
      s.wrote 0x200060 (v.toNat % 8192) [.cmd, .evt, .pmu] t) ∧
  (∀ (s : State) (k : Fin 4096), canStart s.dev k 0x01 = true →
    ∃ t, exec (.nop k) s = .next t ∧ s.dev.finishes s.env k stOk [] t.dev ∧ s.sameBut (s.dev.cplParts k) t) ∧
  (∀ (s : State) (k : Fin 4096), canStart s.dev k 0x02 = true →
    ∃ t, exec (.setDevid k) s = .next t ∧ s.dev.finishes t.env k stOk [] t.dev ∧
      s.wrote 0x200100 (s.env.reg 0x200100 / 64 * 64 + argWord s.dev k 4 % 64) (s.dev.cplParts k) t) ∧
  (∀ (s : State) (m : Fin 64) (v : Word), ∃ t, exec (.keyWrite m v) s = .next t ∧
    tget 0 t.dev.cmd.keys (4 * m.val + 3) = v ∧ (∀ i, i ≠ 4 * m.val + 3 → tget 0 t.dev.cmd.keys i = tget 0 s.dev.cmd.keys i) ∧
    bit t.dev.cmd.keyValid m = true ∧ (∀ j, j ≠ m.val → bit t.dev.cmd.keyValid j = bit s.dev.cmd.keyValid j) ∧
    s.sameBut [.cmd] t) ∧
  (∀ (s : State) (k : Fin 4096) (image : List Byte), gnsStart s.dev k 0x60 = true → gnsBusyFor s.dev k = false →
    let len := argWord s.dev k 7
    let l := fitLen len image
    let ok := 128 ≤ len ∧ len ≤ 33136 ∧ patchOk l = true
    ∃ t, exec (.patchLoad k image) s = .next t ∧
      (ok → t.dev.gns.loaded = true ∧ t.dev.gns.version = leAt l 4 2 ∧
        s.dev.finishes s.env k stOk [leAt l 4 2] t.dev ∧
        (∀ i, tget 0 t.dev.gns.patch i = if i < leAt l 8 2 then BitVec.ofNat 128 (leAt l (16 + 16 * i) 16)
          else tget 0 s.dev.gns.patch i) ∧
        (∀ i, tget 0 t.dev.gns.matchRegs i =
          if i < beAt l 7 1 then w32 (leAt l (16 + 16 * leAt l 8 2 + 4 * i) 4 &&& 0x87FFFFFF) else 0) ∧
        s.sameBut (.gns :: s.dev.cplParts k) t) ∧
      (¬ ok → t.dev.gns = s.dev.gns ∧ s.dev.finishes s.env k stRejected [] t.dev ∧ s.sameBut (s.dev.cplParts k) t))

/-- Fault epochs and device groups (R398-R400, R403-R408, R380): FORCE_EPOCH and DEVICE_FAULT void the outstanding commands,
lose the frames and keep the registers and tables; REBUILD_END adds the epoch completion. BATTEN_FRAME_RECEIVE checks the tag
and the counter and takes a command, an acknowledgement, a completion or an epoch notice; BATTEN_RETRY sends again or times
out. -/
def Obligations.EpochsAndGroups : Prop :=
  let faulted := fun (s : State) (cause : Nat) (t : State) =>
    t.dev.cmd.epoch = (s.dev.cmd.epoch + 1) % 65536 ∧ t.dev.cmd.cause = cause ∧ t.dev.cmd.rebuilding = true ∧
    t.dev.cmd.cpls = s.dev.cmd.cpls ∧
    (∀ kv ∈ s.dev.cmd.slots, kv.2.used = true → kv.2.finished = false → kv.2.forHead = false → kv.1 ∈ t.dev.cmd.voided) ∧
    t.dev.frames = [] ∧ t.dev.sends = [] ∧ t.dev.asms = [] ∧ t.dev.copies = [] ∧ t.dev.threads = [] ∧
    (∀ n, (t.dev.port n).queues = [] ∧ (t.dev.port n).preempted = none ∧ (t.dev.port n).swap = none ∧
      (t.dev.port n).link = (s.dev.port n).link ∧ (t.dev.port n).pause = (s.dev.port n).pause) ∧
    (∀ b, b < 16 → ∀ u ∈ (t.dev.blk b).alloc, u ∈ (t.dev.blk b).quar) ∧
    t.dev.rs.active = s.dev.rs.active ∧ t.dev.rs.commits = [] ∧ t.dev.rs.committed = [] ∧
    t.dev.loft.chans = s.dev.loft.chans ∧ t.dev.loft.train = none ∧ t.dev.loft.restart = none ∧
    t.dev.slate = { s.dev.slate with hostQ := [], reqs := [], pJob := none, flush := none } ∧
    t.dev.loft.asks = [] ∧ (∀ kv ∈ t.dev.loft.arbs, kv.2.pend = [] ∧ kv.2.served = []) ∧ t.dev.stat.snaps = [] ∧ t.dev.gns.run = none ∧ t.dev.gns.patch = s.dev.gns.patch ∧
    (inPair s.env s.dev = true → roleStandby s.env = false → t.dev.twin.state = 4 ∧ t.dev.twin.fenceOut = false ∧
      t.dev.twin.sentHb = some ⟨s.dev.twin.k, s.env.ltNs, false, true⟩) ∧
    (inPair s.env s.dev = true → roleStandby s.env = true → t.dev.twin.state = 1 ∧
      t.dev.twin.sentWithdraw = s.dev.twin.sentWithdraw + 1) ∧
    t.env = s.env ∧ t.host = s.host ∧ t.loft = s.loft ∧ t.hpt = s.hpt ∧ t.pending = s.pending ∧
    (∀ p ∈ [Part.mgmt, .pwr, .sets, .qtz, .mdio, .rings], s.dev.agree t.dev p)
  (∀ (s : State), ∃ t, exec .forceEpoch s = .next t ∧ faulted s 4 t) ∧
  (∀ (s : State) (c : Fin 3), ∃ t, exec (.deviceFault c) s = .next t ∧ faulted s (c.val + 1) t) ∧
  (∀ (s : State), s.dev.cmd.rebuilding = true → s.dev.gns.dead = false → s.dev.twin.handover = none →
    ∃ t, exec .rebuildEnd s = .next t ∧ t.dev.cmd.rebuilding = false ∧ t.dev.cmd.voided = [] ∧
      t.dev.cmd.cpls = s.dev.cmd.cpls ++ [{ slots := s.dev.cmd.voided, handle := 0, status := stDiscarded,
                                            devid := s.env.f 0x200100 5 0, tag := 0, opcode := 0xFF, irq := false,
                                            results := [w32 s.dev.cmd.cause] }] ∧
      t.dev.rs.active = s.dev.rs.active ∧ t.dev.rs.retiring = none ∧ t.dev.rs.switchLt = s.env.ltNs ∧
      (twinOn s.env = true → s.dev.twin.state = 1 → s.dev.twin.enabledAt = none →
        t.dev.twin.enabledAt = some s.env.third) ∧
      t.dev.cmd.slots = s.dev.cmd.slots ∧ t.env = s.env ∧ t.host = s.host ∧ t.pending = s.pending ∧
      s.dev.sameBut (egressParts ++ [.cmd, .rs, .frames, .sends]) t.dev) ∧
  (∀ (s : State) (blk : Fin 16) (n : Fin 97) (b : List Byte) (len : Nat),
    let type := beAt b 1 1
    let src := beAt b 2 1
    let ctr := beAt b 4 6
    let ms := beAt b 10 2 % 256
    let gen := beAt b 10 2 / 256 % 16
    battenLen type = some len → beAt b 0 1 = 1 → 28 + len ≤ b.length → beAt b 3 1 = s.env.f 0x200100 5 0 →
    takesFrames s.env s.dev = true →
    let good := ∃ key, battenKey s.env s.dev src = some key ∧
      slice b (12 + len) 16 = gmac key (battenIv type src (beAt b 3 1) ctr) (b.take (12 + len))
    let last := if isHead s.env then (s.dev.memb src).last else s.dev.cmd.lastHead
    let body := slice b 12 len
    ∃ t, exec (.battenFrameReceive blk n b) s = .next t ∧ t.env = s.env ∧ t.host = s.host ∧ t.pending = s.pending ∧
      (¬ good → s.dev.raised 137 2 t.dev ∧ s.sameBut [.evt, .pmu] t) ∧
      (good → ctr ≤ last → s.dev.raised 137 3 t.dev ∧ s.sameBut [.evt, .pmu] t) ∧
      (good → last < ctr → s.sameBut [.cmd, .evt, .stat, .pmu, .blks, .frames, .sends, .gut] t) ∧
      (good → last < ctr → isHead s.env = false → t.dev.cmd.lastHead = ctr ∧ t.dev.cmd.headId = src) ∧
      (good → last < ctr → isHead s.env = false → type = 1 → (∀ a, tfind s.dev.cmd.accepted ms = some a → a.gen ≠ gen) →
        let k := freeSlot s.dev.cmd.slots 0
        k < 4096 → bits (beAt body 0 4) 31 24 ∈ knownOpcodes →
        (t.dev.slot k).used = true ∧ (t.dev.slot k).forHead = true ∧ (t.dev.slot k).finished = false ∧
          (t.dev.slot k).desc = (List.range 16).map (fun i => w32 (beAt body (4 * i) 4)) ∧
          tfind t.dev.cmd.accepted ms = some { gen := gen, slot := k, body := none }) ∧
      (good → last < ctr → isHead s.env = false → type = 1 → ∀ a, tfind s.dev.cmd.accepted ms = some a → a.gen = gen →
        t.dev.cmd.slots = s.dev.cmd.slots ∧ t.dev.cmd.accepted = s.dev.cmd.accepted) ∧
      (good → last < ctr → isHead s.env = true → (t.dev.memb src).last = ctr) ∧
      (good → last < ctr → isHead s.env = true → type = 3 → ∀ o, tfind (s.dev.memb src).out ms = some o → o.gen = gen →
        tfind (t.dev.memb src).out ms = some { o with acked := true }) ∧
      (good → last < ctr → isHead s.env = true → type = 2 → ∀ o, tfind (s.dev.memb src).out ms = some o → o.gen = gen →
        (s.dev.slot o.slot).used = true → (s.dev.slot o.slot).finished = false → (s.dev.slot o.slot).forHead = false →
        (t.dev.slot o.slot).finished = true ∧ t.dev.cmd.cpls = s.dev.cmd.cpls ++
          [s.dev.cplOf s.env o.slot (bits (beAt body 0 4) 26 24) ((List.range 5).map (fun i => beAt body (12 + 4 * i) 4))] ∧
        ((s.dev.memb src).queue = [] → tfind (t.dev.memb src).out ms = none)) ∧
      (good → last < ctr → isHead s.env = true → type = 4 → (t.dev.memb src).out = [] ∧ (t.dev.memb src).queue = [] ∧
        ∃ c, t.dev.cmd.cpls = s.dev.cmd.cpls ++ [c] ∧ c.opcode = 0xFF ∧ c.devid = src ∧ c.status = stDiscarded ∧
          ∀ kv ∈ s.dev.cmd.slots, kv.2.used = true → kv.2.finished = false → kv.2.member = some src → kv.1 ∈ c.slots)) ∧
  (∀ (s : State) (k : Fin 4096) (m ms : Nat) (o : MSlot), (s.dev.slot k).member = some m →
    (s.dev.memb m).out.find? (fun kv => kv.2.slot == k.val) = some (ms, o) → o.acked = false →
    o.sentAt + us (max 1 (s.env.f 0x200120 31 16)) ≤ s.env.third →
    ∃ t, exec (.battenRetry k) s = .next t ∧ s.sameBut [.cmd, .evt, .stat, .pmu, .blks, .frames, .sends, .gut] t ∧
      (o.resends < s.env.f 0x200120 3 0 →
        tfind (t.dev.memb m).out ms = some { o with sentAt := s.env.third, resends := o.resends + 1 } ∧
        t.dev.cmd.cpls = s.dev.cmd.cpls ∧ t.dev.cmd.slots = s.dev.cmd.slots) ∧
      (s.env.f 0x200120 3 0 ≤ o.resends → t.dev.evCnt 137 4 = s.dev.evCnt 137 4 + 1 ∧
        ((s.dev.slot k).used = true → (s.dev.slot k).finished = false → (s.dev.slot k).forHead = false →
          (t.dev.slot k).finished = true ∧ t.dev.cmd.cpls = s.dev.cmd.cpls ++ [s.dev.cplOf s.env k stTimeout []]) ∧
        ((s.dev.memb m).queue = [] → tfind (t.dev.memb m).out ms = none)))

/-! ## Gneiss (chapter 17) -/

/-- Gneiss (R411-R417, R419-R422): ROUTINE_START resumes or starts the routine of highest priority; a microword is carried
out by the row of its aluop group, forms its next address and traps on what R421 names; a double-bit error is a fault;
GNS_REPLY fills a reply register; GNS_ABORT flags or ends an abortable command; at a safe point a flagged routine goes on at
its unwind entry, whose Complete word ends it PARTIAL (the model's reading, assumption 73). -/
def Obligations.Gneiss : Prop :=
  let at_ := fun (s : State) (c0 : Ctx) (ecc : Ecc) (g : Nat) =>
    let w := gnsWord s.dev (gnsPlace s.dev c0).1
    s.dev.gns.run = some c0 ∧ s.dev.gns.dead = false ∧ ecc ≠ .double ∧ aluGroup (gf w 102 96) = some g ∧
      gf w 77 72 ≤ 6 ∧ gf w 103 103 = 0
  let loops := fun (w : BitVec 128) (c : Ctx) => if gf w 71 71 = 1 then gf w 15 0
    else if gf w 70 70 = 1 then (c.loop + 65535) % 65536 else c.loop
  let moves := fun (s : State) (w : BitVec 128) (c1 : Ctx) (t : State) =>
    let c2 : Ctx := { c1 with loop := loops w c1 }
    let nx := gf w 127 112
    let here := if c2.space then (true, (c2.upc + 1) % 2048) else (false, (c2.upc + 1) % 65536)
    let dest := fun (a : Nat) => if c2.space && a / 2048 == 31 then (true, a % 2048) else (false, a)
    let go := fun (p : Bool × Nat) (l : List (Bool × Nat)) => some { c2 with space := p.1, upc := p.2, stack := l }
    (gf w 109 108 = 0 → gf w 107 104 = 0 → t.dev.gns.run = go (dest nx) c2.stack) ∧
    (gf w 109 108 = 0 → gf w 107 104 = 1 → c2.stack.length < 8 → t.dev.gns.run = go (dest nx) (here :: c2.stack)) ∧
    (gf w 109 108 = 1 →
      t.dev.gns.run = go (if gnsCond s.env s.dev c2 (gf w 77 72) (gf w 107 104) then dest nx else here) c2.stack) ∧
    (gf w 109 108 = 2 → t.dev.gns.run = go (dest (nx / 256 * 256 + c2.disp)) c2.stack) ∧
    (∀ p l, gf w 109 108 = 3 → c2.stack = p :: l → t.dev.gns.run = go p l)
  let goes := fun (s : State) (w : BitVec 128) =>
    (gf w 109 108 = 0 → gf w 107 104 ≤ 1) ∧
    (∀ c0, s.dev.gns.run = some c0 → (gf w 109 108 = 0 → gf w 107 104 = 1 → c0.stack.length < 8) ∧
      (gf w 109 108 = 3 → c0.stack ≠ []))
  let plain := fun (s : State) (w : BitVec 128) (ecc : Ecc) (t : State) =>
    t.dev.gns.since = s.dev.gns.since + 2 ^ gf w 111 110 ∧
      (ecc = .single → t.dev.evCnt 138 2 = s.dev.evCnt 138 2 + 1) ∧ s.sameBut [.gns, .evt, .pmu] t
  let flushed := fun (s : State) (k : Nat) => match s.dev.slate.flush with
    | some f => if f.slot = k then f.count else 0
    | none => 0
  let flags := fun (w : BitVec 128) (v : DWord) (cy : Bool) (c : Ctx) =>
    if gf w 69 69 = 1 then { c with z := v == 0, n := v.msb, c := cy } else c
  (∀ (s : State), s.dev.gns.run = none → s.dev.gns.dead = false →
    let fresh := fun (r : Routine) => some ({ rt := r, upc := gnsEntryOf r.kind } : Ctx)
    ∃ t, exec .routineStart s = .next t ∧ s.sameBut [.gns] t ∧
      (∀ r, gnsNext s.dev = some r → (∀ c ∈ s.dev.gns.susp.head?, c.rt.kind.prio < r.kind.prio) →
        t.dev.gns = { s.dev.gns with run := fresh r, since := 0 }) ∧
      (∀ c rest, s.dev.gns.susp = c :: rest → (∀ r, gnsNext s.dev = some r → r.kind.prio ≤ c.rt.kind.prio) →
        t.dev.gns = { s.dev.gns with run := some c, susp := rest, since := 0 }) ∧
      (s.dev.gns.susp = [] → gnsNext s.dev = none → t = s)) ∧
  (∀ (s : State) (c0 : Ctx) (ecc : Ecc),
    let c := (gnsPlace s.dev c0).1
    let w := gnsWord s.dev c
    (at_ s c0 ecc 0 → goes s w → ∃ t, exec (.gnsNoOperation ecc) s = .next t ∧ moves s w c t ∧ plain s w ecc t) ∧
    (at_ s c0 ecc 1 → goes s w →
      let op := gf w 102 96
      let a := c.r (gf w 89 84)
      let b := if Config.gnsImm w then BitVec.ofNat 64 (gf w 63 0) else c.r (gf w 83 78)
      let v := gnsAlu op a b
      ∃ t, exec (.gnsArithmetic ecc) s = .next t ∧ plain s w ecc t ∧
        (op = 1 → v = a + b) ∧ (op = 2 ∨ op = 12 → v = a - b) ∧ (op = 3 → v = a &&& b) ∧ (op = 4 → v = a ||| b) ∧
        (op = 5 → v = a ^^^ b) ∧ (op = 6 → v = ~~~a) ∧ (op = 7 → b.toNat < 64 → v = a <<< b.toNat) ∧
        (op = 8 → b.toNat < 64 → v = a >>> b.toNat) ∧ (op = 10 ∨ op = 11 → v = a ∨ v = b) ∧
        moves s w (flags w v (if op = 1 then decide (2 ^ 64 ≤ a.toNat + b.toNat) else Config.gnsCarry op a b)
          (if op = 12 then c else c.setR (gf w 95 90) v)) t) ∧
    (at_ s c0 ecc 2 → goes s w →
      let op := gf w 102 96
      let a := c.r (gf w 89 84)
      let v := if op = 0x10 then a else BitVec.ofNat 64 (gf w 63 0)
      ∃ t, exec (.gnsMove ecc) s = .next t ∧ plain s w ecc t ∧
        (op = 0x10 ∨ op = 0x11 → moves s w (flags w v (Config.gnsCarry op v v) (c.setR (gf w 95 90) v)) t) ∧
        (op = 0x12 → moves s w { c with disp := a.toNat % 256 } t) ∧
        (op = 0x13 → ∀ k, c.rt.slot = some k →
          moves s w { c with disp := ((s.dev.slot k).desc.getD 0 0).toNat / 2 ^ 24 } t)) ∧
    (at_ s c0 ecc 3 → goes s w →
      let port := gf w 77 72
      ∃ t, exec (.gnsRequest ecc) s = .next t ∧ moves s w c t ∧ plain s w ecc t ∧
        (port = 0 → t.dev.gns.reqs = s.dev.gns.reqs ∧ t.dev.gns.reply = s.dev.gns.reply) ∧
        (port ≠ 0 → t.dev.gns.reqs =
            s.dev.gns.reqs ++ [(port, gf w 102 96 - 0x20, gf w 63 0, c.r (gf w 89 84))] ∧
          ∀ p, tfind t.dev.gns.reply p = if p = port then none else tfind s.dev.gns.reply p)) ∧
    (at_ s c0 ecc 4 → goes s w → ∃ t, exec (.gnsComplete ecc) s = .next t ∧ t.dev.gns.run = none ∧
      (∀ k, c.rt.slot = some k → (s.dev.slot k).used = true → (s.dev.slot k).finished = false →
        (c.unwinding = false → s.dev.finishes s.env k ((c.r (gf w 89 84)).toNat % 8)
          ([59, 60, 61, 62, 63].map (fun i => (c.r i).toNat % 2 ^ 32)) t.dev) ∧
        (c.unwinding = true → s.dev.finishes s.env k stPartial [flushed s k] t.dev)) ∧
      (c.rt.slot = none → s.sameBut [.gns, .evt, .pmu] t)) ∧
    (at_ s c0 ecc 5 → goes s w →
      let here := if c.space then (true, (c.upc + 1) % 2048) else (false, (c.upc + 1) % 65536)
      ∃ t, exec (.gnsUnwindMark ecc) s = .next t ∧ moves s w { c with unwind := some here } t ∧ plain s w ecc t)) ∧
  (∀ (s : State) (c0 : Ctx) (ecc : Ecc) (i : Instr),
    i ∈ [.gnsNoOperation ecc, .gnsArithmetic ecc, .gnsMove ecc, .gnsRequest ecc, .gnsComplete ecc, .gnsUnwindMark ecc] →
    s.dev.gns.run = some c0 → s.dev.gns.dead = false →
    let c := (gnsPlace s.dev c0).1
    let w := gnsWord s.dev c
    (ecc ≠ .double → aluGroup (gf w 102 96) = none → ∃ t, exec i s = .next t ∧
      t.dev.evCnt 138 0 = s.dev.evCnt 138 0 + 1 ∧ t.dev.gns.run = none ∧
      t.dev.gns.trapLog0 = w32 (1 * 2 ^ 28 + flagAt c.space 16 + c.upc) ∧
      (∀ k, c.rt.kind ≠ .rebuild → c.rt.kind ≠ .stateCopy → c.rt.slot = some k → (s.dev.slot k).used = true →
        (s.dev.slot k).finished = false → s.dev.finishes s.env k stRejected [0, 0, 0, 0, c.upc] t.dev) ∧
      (c.rt.kind = .rebuild ∨ c.rt.kind = .stateCopy → t.dev.cmd.cause = 2 ∧ t.dev.cmd.rebuilding = true ∧
        t.dev.cmd.epoch = (s.dev.cmd.epoch + 1) % 65536)) ∧
    (ecc = .double → c.space = true ∨ s.dev.cmd.rebuilding = false → ∃ t, exec i s = .next t ∧ t.dev.cmd.cause = 2 ∧
      t.dev.cmd.rebuilding = true ∧ t.dev.cmd.epoch = (s.dev.cmd.epoch + 1) % 65536 ∧ t.dev.gns.run = none ∧
      (c.space = true → t.dev.gns.loaded = false ∧ gnsMatch t.dev c.upc = none)) ∧
    (ecc = .double → c.space = false → s.dev.cmd.rebuilding = true → ∃ t, exec i s = .next t ∧
      t.dev.gns = { s.dev.gns with run := none, dead := true } ∧ s.sameBut [.gns] t)) ∧
  (∀ (s : State) (port : Fin 7) (v : DWord) (r : Nat × Nat × Nat × DWord),
    s.dev.gns.reqs.find? (fun r => r.1 == port.val) = some r → ∃ t, exec (.gnsReply port v) s = .next t ∧
      t.dev.gns = { s.dev.gns with reqs := s.dev.gns.reqs.erase r, reply := tput s.dev.gns.reply port v } ∧
      s.sameBut [.gns] t) ∧
  (∀ (s : State) (v : Word),
    let h := v.toNat % 65536
    let k := h % 4096
    let x := s.dev.slot k
    x.used = true → x.finished = false → x.forHead = false → x.member = none → x.gen * 4096 + k = h →
    ((x.desc.getD 0 0).toNat / 2 ^ 24 = 0x22 ∨ (x.desc.getD 0 0).toNat / 2 ^ 24 = 0x40 ∨
      (x.desc.getD 0 0).toNat / 2 ^ 24 = 0x41) → s.dev.gns.dead = false →
    ∃ t, exec (.gnsAbort v) s = .next t ∧
      (hasCtx s.dev k = true → k ∈ t.dev.gns.aborts ∧ t.dev.gns = { s.dev.gns with aborts := t.dev.gns.aborts } ∧
        s.sameBut [.gns] t) ∧
      (hasCtx s.dev k = false → s.dev.finishes s.env k stPartial [flushed s k] t.dev ∧
        (∀ x, s.dev.loft.train = some x → x.slot = k → t.dev.loft.train = none ∧
          t.host = mwrite s.host x.mapAddr (natLE 32 (x.passed.foldl (fun a p => a + 2 ^ p) 0))) ∧
        ((∀ x, s.dev.loft.train = some x → x.slot ≠ k) → t.dev.loft.train = s.dev.loft.train ∧ t.host = s.host) ∧
        (∀ f, s.dev.slate.flush = some f → f.slot = k → t.dev.slate.flush = none) ∧ t.env = s.env ∧ t.loft = s.loft ∧
        t.hpt = s.hpt ∧ t.pending = s.pending ∧
        s.dev.sameBut ([.gns, .loft, .slate, .pmu, .stat, .swaps, .ports, .rs] ++ s.dev.cplParts k) t.dev)) ∧
  (∀ (s : State) (c0 : Ctx) (ecc : Ecc) (k : Nat) (p : Bool × Nat), s.dev.gns.run = some c0 → s.dev.gns.dead = false →
    s.dev.gns.aborts = [k] → c0.rt.slot = some k → c0.unwind = some p → ecc ≠ .double →
    let w := gnsWord s.dev (gnsPlace s.dev c0).1
    gf w 102 96 = 0 → gf w 77 72 ≤ 6 → gf w 103 103 = 1 → goes s w →
    ∃ t, exec (.gnsNoOperation ecc) s = .next t ∧ t.dev.gns.aborts = [] ∧ s.sameBut [.gns, .evt, .pmu] t ∧
      ∃ c ∈ gnsCtxs t.dev, c.rt = c0.rt ∧ (c.space, c.upc) = p ∧ c.stack = [] ∧ c.unwind = none ∧ c.unwinding = true)

/-! ## Registers and events (chapter 18) -/

/-- Register accesses (R391, R426, R427, R429, R430, R431, R432, R434, R435): REGISTER_WRITE accepts, posts, stages, drops or
logs a write, an 8-byte write being two of 4; POSTED_WRITE_LAND lands the oldest write of a scope; VOTE_SCRUB_READ, one each 64 ns, corrects
a single disagreement and makes a threefold one a fault; REGISTER_READ returns a word or logs a bad access, and reads the
rings' registers and the window (R384, R385), all ones for a Loft unit that is absent or off line (R355). -/
def Obligations.RegisterAccess : Prop :=
  let low := fun (v : DWord) => v.toNat % 2 ^ 32
  (∀ (s : State) (off : Nat) (v : DWord) (k : RegKind) (p : List Nat), off % 4 = 0 → regAt off = some (k, p) →
    (k.wmask ≠ 0 ∨ k.wtmask ≠ 0) →
    (k.name ∈ [.QTZ_D_ADJ_LO, .PMU_CTR_LO, .PMU_RELOAD_LO] → ∃ t, exec (.registerWrite false off 4 v) s = .next t ∧
      (∀ j, tfind t.env.regs.staged j = if j = off / 4 then some (w32 (low v)) else tfind s.env.regs.staged j) ∧
      t.env = { s.env with regs := { s.env.regs with staged := t.env.regs.staged } } ∧ t.dev = s.dev ∧ t.host = s.host) ∧
    (∀ sc, k.name ∉ [.QTZ_D_ADJ_LO, .PMU_CTR_LO, .PMU_RELOAD_LO] → scopeOf k p = some sc → s.scopeFree sc →
      ∃ t, exec (.registerWrite false off 4 v) s = .next t ∧
        (∃ w, w.scope = sc ∧ w.offset = off ∧ w.value = w32 (low v) ∧
          t.env.regs.posted = s.env.regs.posted ++ [w] ∧
          (k.name ∈ [.QTZ_D_ADJ_HI, .PMU_CTR_HI, .PMU_RELOAD_HI] → w.low = tfind s.env.regs.staged ((off - 4) / 4))) ∧
        t.env.regs.vals = s.env.regs.vals ∧ t.env.third = s.env.third ∧ t.env.doms = s.env.doms ∧ t.dev = s.dev ∧
        t.host = s.host ∧ t.loft = s.loft ∧ t.hpt = s.hpt ∧ t.pending = s.pending) ∧
    (∀ sc, k.name ∉ [.QTZ_D_ADJ_LO, .PMU_CTR_LO, .PMU_RELOAD_LO] → scopeOf k p = some sc → ¬ s.scopeFree sc →
      ∃ t, exec (.registerWrite false off 4 v) s = .next t ∧ s.dev.raised 139 1 t.dev ∧
        t.dev.mgmt = { s.dev.mgmt with dropLog := w32 (off / 4 % 2 ^ 24) } ∧ s.sameBut [.mgmt, .evt, .pmu] t)) ∧
  (∀ (s : State) (off : Nat) (v : DWord), off % 4 = 0 → regAt off = none →
    (∀ g i, eventAt off = some (g, i, true) → ∃ t, exec (.registerWrite false off 4 v) s = .next t ∧
      t.dev.evAck g i = w32 (low v) ∧ t.dev.evt.cnt = s.dev.evt.cnt ∧ s.sameBut [.evt] t) ∧
    (eventAt off = none → statAt off = none → ¬ (0xD00000 ≤ off ∧ off < 0xD01000) →
      ∃ t, exec (.registerWrite false off 4 v) s = .next t ∧ s.dev.raised 139 2 t.dev ∧
        t.dev.mgmt = { s.dev.mgmt with badLog := w32 (2 ^ 31 + off / 4 % 2 ^ 24) } ∧ s.sameBut [.mgmt, .evt, .pmu] t)) ∧
  (∀ (s : State) (pf1 : Bool) (off : Nat) (v : DWord), off % 8 = 0 → ∃ t u,
    exec (.registerWrite pf1 off 4 (v % 4294967296)) s = .next t ∧
      exec (.registerWrite pf1 (off + 4) 4 (v / 4294967296)) t = .next u ∧
      exec (.registerWrite pf1 off 8 v) s = .next u) ∧
  (∀ (s : State) (off width : Nat) (v : DWord), ¬ (width = 4 ∧ off % 4 = 0) → ¬ (width = 8 ∧ off % 8 = 0) →
    ∃ t, exec (.registerWrite false off width v) s = .next t ∧ s.dev.raised 139 2 t.dev ∧
      t.dev.mgmt = { s.dev.mgmt with badLog := w32 (2 ^ 31 + 2 ^ 30 + off / 4 % 2 ^ 24) } ∧
      s.sameBut [.mgmt, .evt, .pmu] t) ∧
  (∀ (s : State) (off : Nat) (v : DWord), off < 0x2000 → off % 0x40 / 4 ∈ [0, 1, 5, 6] → off % 4 = 0 →
    s.dev.pwr.fltPending = 0 → ∃ t, exec (.registerWrite true off 4 v) s = .next t ∧
      (∀ j, tget 0 t.hpt j = if j = off / 4 then w32 (low v) else tget 0 s.hpt j) ∧ t = { s with hpt := t.hpt }) ∧
  (∀ (s : State) (sc : Fin 59) (x : Posted) (old rest : List Posted), s.env.regs.posted = old ++ x :: rest →
    (∀ y ∈ old, y.scope ≠ sc.val) → x.scope = sc.val →
    ∃ t, exec (.postedWriteLand sc) s = .next t ∧ t.pending = s.pending ∧
      (∀ k p, regAt x.offset = some (k, p) → k.name ≠ .PWR_RST → t.env.regs.posted = old ++ rest) ∧
      (∀ k p, regAt x.offset = some (k, p) →
        k.name ∈ [.LFT_RH_CFG, .PUR_QUOTA, .PUR_PRIO, .TWN_CYC, .PWR_GOV, .GUT_CFG] →
        t.env.reg x.offset =
            ((s.env.reg x.offset &&& (0xFFFFFFFF ^^^ wmaskAt k p)) ||| (x.value.toNat &&& wmaskAt k p)) ∧
          (∀ o, o / 4 ≠ x.offset / 4 → t.env.reg o = s.env.reg o) ∧ t.dev = s.dev ∧ t.host = s.host)) ∧
  (∀ (s : State) (off : Nat) (k : RegKind) (p : List Nat), nextVoted s.dev.mgmt.scrubAt = some off →
    s.dev.mgmt.scrubTime + ns 64 ≤ s.env.third → regAt off = some (k, p) → k.name ≠ .SLT_RS_STAT → k.name ≠ .EGS_PORT_STAT →
    let a := match tfind s.env.regs.vals (off / 4) with
      | some w => w.toNat
      | none => resetAt k p
    let b := a ^^^ (tget 0 s.env.regs.tvB (off / 4)).toNat
    let c := a ^^^ (tget 0 s.env.regs.tvC (off / 4)).toNat
    let bad := fun (f : Nat × Nat) =>
      bits a f.1 f.2 ≠ bits b f.1 f.2 ∧ bits a f.1 f.2 ≠ bits c f.1 f.2 ∧ bits b f.1 f.2 ≠ bits c f.1 f.2
    let odd := fun (f : Nat × Nat) => ¬ bad f ∧ (bits a f.1 f.2 ≠ bits b f.1 f.2 ∨ bits a f.1 f.2 ≠ bits c f.1 f.2)
    ∃ t, exec .voteScrubRead s = .next t ∧ t.dev.mgmt.scrubTime = s.env.third ∧
      ((nextVoted (off + 4)).isSome = true → t.dev.mgmt.scrubAt = off + 4) ∧
      (nextVoted (off + 4) = none → t.dev.mgmt.scrubAt = 0 ∧ t.dev.mgmt.passStart = s.env.third ∧
        t.dev.mgmt.passUs = min 65535 ((s.env.third - s.dev.mgmt.passStart) / 3000)) ∧
      ((∀ f ∈ k.tv, ¬ bad f ∧ ¬ odd f) → t.env = s.env ∧ s.sameBut [.mgmt] t) ∧
      ((∀ f ∈ k.tv, ¬ bad f) → (∃ f ∈ k.tv, odd f) → shown s.env s.dev k.name p = none →
        (∀ f ∈ k.tv, tget 0 s.env.regs.tvC (off / 4) = 0 → bits (t.env.reg off) f.1 f.2 = bits a f.1 f.2) ∧
        tfind t.env.regs.tvB (off / 4) = none ∧ tfind t.env.regs.tvC (off / 4) = none ∧
        t.dev.mgmt.voteLog = w32 (off / 4 % 2 ^ 24) ∧ t.dev.evCnt 139 0 ≠ s.dev.evCnt 139 0 ∧
        s.dev.sameBut [.mgmt, .evt, .pmu] t.dev) ∧
      ((∃ f ∈ k.tv, bad f) → shown s.env s.dev k.name p = none → t.dev.cmd.cause = 1 ∧ t.dev.cmd.rebuilding = true ∧
        t.dev.cmd.epoch = (s.dev.cmd.epoch + 1) % 65536 ∧ t.dev.mgmt.voteLog = w32 (2 ^ 31 + off / 4 % 2 ^ 24))) ∧
  (∀ (s : State) (off width : Nat), tget 0 s.env.regs.tvB (off / 4) = 0 → tget 0 s.env.regs.tvC (off / 4) = 0 →
    off / 4 * 4 ≠ 0x200040 → (width = 1 ∨ width = 2 ∨ width = 4) → off % 4 + width ≤ 4 →
    ∃ t, exec (.registerRead .pf0 off width) s = .next t ∧
      t.dev.mgmt = { s.dev.mgmt with
        readData := readWord s.env s.dev (off / 4 * 4) / 2 ^ (8 * (off % 4)) % 2 ^ (8 * width) } ∧ s.sameBut [.mgmt] t) ∧
  (∀ (s : State) (off width : Nat), width ≤ 8 → off % 4 + width % 8 > 4 ∨ width = 8 ∧ off % 8 ≠ 0 →
    ∃ t, exec (.registerRead .pf0 off width) s = .next t ∧ s.dev.raised 139 2 t.dev ∧ t.dev.mgmt.readData = 0 ∧
      s.sameBut [.mgmt, .evt, .pmu] t) ∧
  (∀ (s : State) (off width : Nat),
    (aligned off width = true → width ≠ 8 → ∃ t, exec (.registerRead .pf1 off width) s = .next t ∧
      t.dev.mgmt = { s.dev.mgmt with
        readData := hptRead s (off / 4 * 4) / 2 ^ (8 * (off % 4)) % 2 ^ (8 * width) } ∧ s.sameBut [.mgmt] t) ∧
    (aligned off width = true → ∃ t, exec (.registerRead .bar2 off width) s = .next t ∧
      t.dev.mgmt = { s.dev.mgmt with readData := leNat ((List.range width).map (fun i => bar2Byte s (off + i))) } ∧
      s.sameBut [.mgmt, .loft] t) ∧
    (∀ sp, sp ≠ .pf0 → aligned off width = false → ∃ t, exec (.registerRead sp off width) s = .next t ∧
      t.dev.mgmt = { s.dev.mgmt with readData := 0 } ∧ s.sameBut [.mgmt] t)) ∧
  (∀ (s : State) (o : Nat), 0x10000000 ≤ o → o < 0x40000000 →
    let a := s.env.f 0x200900 7 0 * 2 ^ 28 + (o - 0x10000000)
    (unitServed s.dev (a / 256) = false → bar2Byte s o = 0xFF) ∧
    (unitServed s.dev (a / 256) = true → bar2Byte s o = loftByte s a))

/-- Event registers and messages (R437, R439, R440, R441): EVENT_ACK_WRITE writes an _ACK register, EVENT_ENABLE_WRITE the
enables that the group's events have and its vector, EVT_REARM sends the vector's message while its pending set is not empty,
MSIX_UNMASK sends a message that waits behind the mask. A write that makes a vector's empty pending set fill sends its
message, or sets its pending bit while it is masked. -/
def Obligations.EventRegisters : Prop :=
  let sends := fun (v : Nat) (d d' : Dev) =>
    if d.evt.fnMask = true ∨ tget false d.evt.unmasked v = false
    then d'.evt.sent = d.evt.sent ∧ ∀ j, tget false d'.evt.pba j = if j = v then true else tget false d.evt.pba j
    else d'.evt.pba = d.evt.pba ∧ ∀ j, tget 0 d'.evt.sent j = tget 0 d.evt.sent j + if j = v then 1 else 0
  (∀ (s : State) (g : Fin 141) (i : Fin 8) (v : Word), bit (groupBits g) i = true →
    let w := bits (grpCfg s.env g) 10 0
    ∃ t, exec (.eventAckWrite g i v) s = .next t ∧
      (∀ g' i', t.dev.evAck g' i' = if 8 * g' + i' = 8 * g.val + i.val then v else s.dev.evAck g' i') ∧
      t.dev.evt.cnt = s.dev.evt.cnt ∧ t.dev.evt.unmasked = s.dev.evt.unmasked ∧
      (vecPending s.env s.dev w = false → vecPending s.env t.dev w = true → sends w s.dev t.dev) ∧
      (vecPending s.env s.dev w = true ∨ vecPending s.env t.dev w = false →
        t.dev.evt.sent = s.dev.evt.sent ∧ t.dev.evt.pba = s.dev.evt.pba) ∧ s.sameBut [.evt] t) ∧
  (∀ (s : State) (g : Fin 256) (v : Word),
    let w := v.toNat % 2048
    let u := bits (grpCfg s.env g) 10 0
    ∃ t, exec (.eventEnableWrite g v) s = .next t ∧
      s.wrote (0x100000 + 4 * g.val) ((v.toNat / 2 ^ 24 &&& groupBits g) * 2 ^ 24 + w) [.evt] t ∧
      t.dev.evt.cnt = s.dev.evt.cnt ∧ t.dev.evt.ack = s.dev.evt.ack ∧
      (u = w → vecPending s.env s.dev w = false → vecPending t.env s.dev w = true → sends w s.dev t.dev) ∧
      ((vecPending s.env s.dev w = true ∨ vecPending t.env s.dev w = false) →
        (vecPending s.env s.dev u = true ∨ vecPending t.env s.dev u = false) →
        t.dev.evt.sent = s.dev.evt.sent ∧ t.dev.evt.pba = s.dev.evt.pba)) ∧
  (∀ (s : State) (v : Fin 2048), ∃ t, exec (.evtRearm v) s = .next t ∧ s.sameBut [.evt] t ∧
    (vecPending s.env s.dev v = true → sends v s.dev t.dev) ∧ (vecPending s.env s.dev v = false → t = s)) ∧
  (∀ (s : State) (v : Fin 2048), ∃ t, exec (.msixUnmask v) s = .next t ∧ tget false t.dev.evt.unmasked v = true ∧
    t.dev.evt.cnt = s.dev.evt.cnt ∧
    (tget false s.dev.evt.pba v = true → s.dev.evt.fnMask = false →
      tget 0 t.dev.evt.sent v = tget 0 s.dev.evt.sent v + 1 ∧ tget false t.dev.evt.pba v = false) ∧
    (tget false s.dev.evt.pba v = false ∨ s.dev.evt.fnMask = true →
      t.dev.evt.sent = s.dev.evt.sent ∧ t.dev.evt.pba = s.dev.evt.pba) ∧ s.sameBut [.evt] t)

/-! ## Reset, clocks and power (chapters 19 and 20) -/

/-- Reset, start-up and clocks (R383, R444, R446-R451, R465): PERST_FALL, POWER_GOOD_FALL and SOFTWARE_RESET reset the device,
PERST_RISE samples the straps, CONFIGURATION_READY and BIST_END end the phases of start-up, DATAPATH_ENABLE starts the
datapath; REFCLK_LOSS and REFCLK_RETURN follow a reference clock, PCIE_LINK_RETRAINED the host link. -/
def Obligations.ResetAndClocks : Prop :=
  let empty := fun (s t : State) => t.host = s.host ∧ t.pending = s.pending ∧ t.loft = [] ∧ t.hpt = [] ∧
    t.env.third = 0 ∧ t.env.ltBase = none ∧ t.env.regs.posted = [] ∧ t.env.regs.staged = [] ∧ t.env.regs.active = [] ∧
    t.dev.ports = [] ∧ t.dev.blks = [] ∧ t.dev.frames = [] ∧ t.dev.copies = [] ∧ t.dev.threads = [] ∧
    t.dev.slate = State.reset.dev.slate ∧ t.dev.rs = State.reset.dev.rs ∧ t.dev.loft = State.reset.dev.loft ∧
    t.dev.gns = State.reset.dev.gns ∧ t.dev.cmd = State.reset.dev.cmd ∧ t.dev.twin = State.reset.dev.twin ∧
    t.dev.twin.fenceOut = false ∧ t.dev.stat = State.reset.dev.stat ∧ t.dev.pwr.queue = [] ∧ t.dev.pwr.on = []
  let regs := fun (t : State) (devid twinRole : Nat) => ∀ o, o % 4 = 0 → t.env.reg o =
    if o = 0x200100 then devid else if o = 0x1100004 then twinRole else resetOff o
  (∀ (s : State), ∃ t, exec .perstFall s = .next t ∧ empty s t ∧ regs t 0 0 ∧ t.env.perst = false ∧
    t.dev.evt = State.reset.dev.evt ∧ t.dev.pwr.clkOk = s.dev.pwr.clkOk) ∧
  (∀ (s : State), ∃ t, exec .powerGoodFall s = .next t ∧ empty s t ∧ regs t 0 0 ∧ t.dev.pwr.railsGood = false) ∧
  (∀ (s : State) (st : Straps), s.env.perst = false → ∃ t, exec (.perstRise st) s = .next t ∧ empty s t ∧
    regs t st.devid.toNat st.twinRole.toNat ∧ t.env.straps = st ∧ t.env.perst = true ∧
    bit t.dev.pwr.clkOk 4 = true ∧ bit t.dev.pwr.clkOk 5 = true) ∧
  (∀ (s : State) (st : Straps), ∃ t, exec (.softwareReset st) s = .next t ∧ empty s t ∧
    regs t st.devid.toNat st.twinRole.toNat ∧ t.env.straps = st ∧ t.dev.pwr.pcieUp = s.dev.pwr.pcieUp ∧
    t.dev.evt = { State.reset.dev.evt with unmasked := s.dev.evt.unmasked, fnMask := s.dev.evt.fnMask }) ∧
  (∀ (s : State) (fuse rom : Bool), s.env.perst = true → s.dev.pwr.phase = 2 →
    ∃ t, exec (.configurationReady fuse rom) s = .next t ∧
      t.dev.pwr.phase = (if fuse = true ∨ rom = true then 0 else if s.env.b 0x1200004 0 then 7 else 5) ∧
      t.dev.pwr.fuseErr = fuse ∧ t.dev.pwr.romErr = rom ∧
      (t.dev.pwr.bistRun = true ↔ fuse = false ∧ rom = false ∧ s.env.straps.bootSrc = 1) ∧
      t.dev.gns = { s.dev.gns with dead := s.dev.gns.dead || rom } ∧ s.sameBut [.pwr, .gns] t) ∧
  (∀ (s : State) (failed : Bool), s.dev.pwr.bistRun = true → ∃ t, exec (.bistEnd failed) s = .next t ∧
    t.dev.pwr = { s.dev.pwr with bistRun := false, bistDone := true, bistFail := failed } ∧ s.sameBut [.pwr] t) ∧
  (∀ (s : State), s.scopeFree 58 → s.env.b 0x1200004 0 = false → ∃ t, exec .datapathEnable s = .next t ∧
    t.dev.pwr = { s.dev.pwr with phase := if s.dev.pwr.phase = 5 then 7 else s.dev.pwr.phase, dpAt := s.env.third } ∧
    s.wrote 0x1200004 1 (.pwr :: egressParts) t) ∧
  (∀ (s : State) (c : RefClk),
    let i := match c with
      | .sys => 5
      | .pcie => 4
      | .sd k => k.val
    bit s.dev.pwr.clkOk i = true → ∃ t, exec (.refclkLoss c) s = .next t ∧ bit t.dev.pwr.clkOk i = false ∧
      (∀ j, j ≠ i → bit t.dev.pwr.clkOk j = bit s.dev.pwr.clkOk j) ∧ t.env = s.env ∧ t.host = s.host ∧
      t.pending = s.pending ∧ t.loft = s.loft ∧
      (c = .sys → s.dev.raised 140 1 t.dev ∧ s.sameBut [.pwr, .evt, .pmu] t) ∧
      (c = .pcie → t.dev.pwr.pcieUp = false ∧ t.hpt = [] ∧ t.dev.rings = [] ∧ t.dev.cmd.rebuilding = true ∧
        t.dev.cmd.cause = 4 ∧ t.dev.cmd.epoch = (s.dev.cmd.epoch + 1) % 65536) ∧
      (∀ k, c = .sd k → t.hpt = s.hpt ∧ (∀ n, n < 96 → blkOf n / 4 = k.val →
        (t.dev.port n).link = false ∧ (t.dev.port n).localFault = true ∧ (t.dev.port n).signal = false) ∧
        (∀ n, n < 96 → blkOf n / 4 ≠ k.val → (t.dev.port n).link = (s.dev.port n).link ∧
          (t.dev.port n).localFault = (s.dev.port n).localFault))) ∧
  (∀ (s : State) (c : RefClk), ∃ t, exec (.refclkReturn c) s = .next t ∧
    t.dev.pwr = { s.dev.pwr with clkOk := t.dev.pwr.clkOk } ∧
    (∀ j, bit t.dev.pwr.clkOk j = (decide (j = match c with
      | .sys => 5
      | .pcie => 4
      | .sd k => k.val) || bit s.dev.pwr.clkOk j)) ∧ s.sameBut [.pwr] t) ∧
  (∀ (s : State), ∃ t, exec .pcieLinkRetrained s = .next t ∧ t.dev.pwr = { s.dev.pwr with pcieUp := true } ∧
    s.sameBut [.pwr] t)

/-- The step governor and the die (R454, R456, R457, R458, R459, R471): CLUSTER_POWER_WRITE asks for a cluster's change of
power or stores a power-down, GOVERNOR_GRANT grants the head of the queue when its rate fits, RAMP_END ends a ramp,
DEFER_MAX_CLEAR clears the largest deferral, TEMP_SENSOR_READ keeps the hottest sensor and trips at 120 degrees. -/
def Obligations.PowerGovernor : Prop :=
  (∀ (s : State) (v : Word), s.scopeFree 58 →
    ∃ t, exec (.clusterPowerWrite v) s = .next t ∧
      (∀ c, c < 16 →
        let want := bit v.toNat c
        let go := want = true ∨ blockInUse s c = false
        let mine := fun (d : Dev) => d.pwr.queue.filter (fun r => r.unit == c)
        (unitTarget s.dev c = want → mine t.dev = mine s.dev) ∧
        (unitTarget s.dev c ≠ want → go → mine s.dev = [] →
          mine t.dev = [{ unit := c, up := want, since := s.env.third }]) ∧
        (unitTarget s.dev c ≠ want → go → mine s.dev ≠ [] → mine t.dev = []) ∧
        (¬ go → unitTarget s.dev c = true → mine t.dev = mine s.dev ∧ bit t.dev.pwr.fltPending c = true) ∧
        (want = true → bit t.dev.pwr.fltPending c = false)) ∧
      t.dev.pwr = { s.dev.pwr with queue := t.dev.pwr.queue, fltPending := t.dev.pwr.fltPending } ∧
      s.wrote 0x1200014 ((s.env.reg 0x1200014 &&& 0xFFFF0000) ||| (v.toNat &&& 0xFFFF)) [.pwr] t) ∧
  (∀ (s : State) (r : PwrReq) (rest : List PwrReq), s.dev.pwr.queue = r :: rest →
    s.dev.pwr.ramps.foldl (fun a x => a + unitRho x.1) 0 + unitRho r.unit ≤ clamp 10 80 (s.env.f 0x1200010 6 0) →
    (∀ x ∈ s.dev.pwr.ramps, x.1 ≠ r.unit) →
    let df := min 0xFFFFFFFF ((s.env.third - r.since) / 3)
    let i := s.dev.pwr.grants % 16
    ∃ t, exec .governorGrant s = .next t ∧ t.dev.pwr.queue = rest ∧
      t.dev.pwr.ramps = s.dev.pwr.ramps ++ [(r.unit, r.up, s.env.third)] ∧
      (∀ u, unitOn t.dev u = if u = r.unit ∧ r.up = false then false else unitOn s.dev u) ∧
      t.dev.pwr.deferMax = max s.dev.pwr.deferMax df ∧ t.dev.pwr.grants = (s.dev.pwr.grants + 1) % 2 ^ 32 ∧
      tget 0 t.dev.pwr.deferral r.unit = min 0xFFFFFF df ∧
      tget 0 t.dev.pwr.wakeLog (2 * i) = flagAt (!r.up) 31 + r.unit ∧ tget 0 t.dev.pwr.wakeLog (2 * i + 1) = df ∧
      t.dev.evCnt 140 0 = s.dev.evCnt 140 0 + (if s.env.f 0x1200010 31 16 * 1000 < df then 1 else 0) ∧
      s.sameBut [.pwr, .evt, .pmu] t) ∧
  (∀ (s : State) (u : Fin 138) (up : Bool) (at_ : Nat), s.dev.pwr.ramps.find? (fun r => r.1 == u.val) = some (u.val, up, at_) →
    at_ + unitRamp u ≤ s.env.third → ∃ t, exec (.rampEnd u) s = .next t ∧ unitOn t.dev u = up ∧
      (∀ v, v ≠ u.val → unitOn t.dev v = unitOn s.dev v) ∧ t.dev.pwr.queue = s.dev.pwr.queue ∧
      t.dev.pwr.ramps = s.dev.pwr.ramps.filter (fun r => r.1 != u.val) ∧ s.sameBut [.pwr] t) ∧
  (∀ (s : State), s.scopeFree 58 → ∃ t, exec .deferMaxClear s = .next t ∧
    t.dev.pwr = { s.dev.pwr with deferMax := 0 } ∧ s.sameBut [.pwr] t) ∧
  (∀ (s : State) (a : Int) (l : List Int), ∃ t, exec (.tempSensorRead (a :: l)) s = .next t ∧
    ∃ hot ∈ a :: l, (∀ x ∈ a :: l, x ≤ hot) ∧ t.dev.pwr.temp = w32 (2 ^ 31 + ofSigned 11 hot) ∧
      (hot < 960 → t.dev.pwr.tripped = s.dev.pwr.tripped ∧ t.dev.twin = s.dev.twin) ∧
      (960 ≤ hot → t.dev.pwr.tripped = true ∧ t.dev.twin = { s.dev.twin with fenceOut := false }) ∧
      t.dev.pwr = { s.dev.pwr with temp := t.dev.pwr.temp, tripped := t.dev.pwr.tripped } ∧ s.sameBut [.pwr, .twin] t)

/-! ## The step and reset -/

/-- A step takes the command at the front of the queue and carries it out on the queue's rest; on an empty queue one core
cycle passes (R23): the clock advances by two thirds of a nanosecond, the lookup ports take what waits (R175), a route update,
a flush and a retirement walk go on (R138, R192, R200), and the cycle counters count (model's choice, assumption 3). No word
spells a command. -/
def Obligations.StepTakesFront : Prop :=
  (∀ (c : Instr) (s : State), step { s with pending := c :: s.pending } = exec c s) ∧
  (∀ (s : State), s.pending = [] → ∃ t, step s = .next t ∧ t.env = { s.env with third := s.env.third + 2 } ∧
    t.env.cycle = s.env.cycle + 1 ∧ t.host = s.host ∧ t.loft = s.loft ∧ t.hpt = s.hpt ∧ t.pending = [] ∧
    s.dev.sameBut [.evt, .stat, .pmu, .blks, .frames, .sends, .gut, .slate, .rs, .cmd] t.dev ∧
    (s.dev.slate.pJob = none → s.dev.slate.flush = none → s.dev.rs.walk = none →
      (∀ r ∈ s.dev.slate.reqs, r.2.kind.waits = false) → s.dev.sameBut [.pmu] t.dev)) ∧
  (∀ (s : State) (n w : Nat), decodeTableWord n w = none ∧ s.withFetchWord n w = s)

/-- After reset (R286, R432, R437, R447, R448, R449, R456): every register of the tables reads its reset value, no event has
occurred, no write waits, LT has not started, no port is enabled or has its link, no unit is powered, the fence output is low,
no version is active, and start-up stands in phase 2. The invariant of every step holds. -/
def Obligations.ResetState : Prop :=
  let s := State.reset
  s.Inv ∧ s.pending = [] ∧
  (∀ o k p, o % 4 = 0 → regAt o = some (k, p) → s.env.reg o = resetAt k p ∧ s.env.act o = resetAt k p) ∧
  (∀ g i, s.dev.evCnt g i = 0 ∧ s.dev.evAck g i = 0) ∧ (∀ sc, s.scopeFree sc) ∧ s.env.ltBase = none ∧ s.env.ltNs = 0 ∧
  (∀ n, (s.dev.port n).enabled = false ∧ (s.dev.port n).link = false ∧ (s.dev.port n).tx = none ∧
    (s.dev.port n).queues = [] ∧ s.dev.mdio = []) ∧
  (∀ n i, portCnt s.dev n i = 0) ∧ (∀ u, unitOn s.dev u = false) ∧ s.dev.twin.fenceOut = false ∧
  s.dev.twin.state = 0 ∧ s.dev.rs.active = none ∧ s.dev.slate.x = [] ∧ s.dev.cmd.epoch = 0 ∧
  (∀ k, (s.dev.slot k).used = false) ∧ s.dev.gns.run = none ∧ s.dev.pwr.phase = 2 ∧ txAllowed s.env s.dev 0 = false

/-- The invariant of every step: from every state in which the memories and register tables are canonical, no scope has two
writes waiting, the four domains stand and LT has not started later than now, a step answers a next state, and these hold
there. -/
def Obligations.StepKeepsInvariant : Prop :=
  ∀ (s : State), s.Inv → ∃ t, step s = .next t ∧ t.Inv
end

