-- ==== Sys2Proof/Laws/Tables.lean ====
section
/-! SUPPORT. Laws of the sparse tables and of memory: what a read gives after a write, and that the canonical
form is kept. -/
namespace Sys2Proof.Machine

variable {α : Type}

@[simp] theorem tget_nil (d : α) (k : Nat) : tget d [] k = d := rfl

/-- Reading after a listed write. -/
theorem tget_tput (d : α) (t : Tbl α) (k : Nat) (v : α) (j : Nat) :
    tget d (tput t k v) j = if j = k then v else tget d t j := by
  induction t with
  | nil => simp only [tput, tget]; by_cases h : k = j <;> simp [h, eq_comm]
  | cons a r ih =>
    obtain ⟨i, u⟩ := a
    simp only [tput]
    split
    · simp only [tget]; by_cases h : k = j <;> simp [h, eq_comm]
    · split
      · rename_i h1 h2
        subst h2
        simp only [tget]
        by_cases h : i = j
        · simp [h]
        · simp [h, Ne.symm h]
      · rename_i h1 h2
        simp only [tget, ih]
        by_cases h : i = j
        · subst h; simp [h2]
        · simp [h]

@[simp] theorem tget_tput_self (d : α) (t : Tbl α) (k : Nat) (v : α) : tget d (tput t k v) k = v := by
  simp [tget_tput]

theorem tget_tput_ne (d : α) (t : Tbl α) (k : Nat) (v : α) {j : Nat} (h : j ≠ k) :
    tget d (tput t k v) j = tget d t j := by simp [tget_tput, h]

/-- Reading after a key has been taken out. -/
theorem tget_tdel (d : α) (t : Tbl α) (k j : Nat) :
    tget d (tdel t k) j = if j = k then d else tget d t j := by
  induction t with
  | nil => simp [tdel, tget]
  | cons a r ih =>
    obtain ⟨i, u⟩ := a
    simp only [tdel]
    split
    · rename_i h; subst h; rw [ih]; simp only [tget]
      by_cases h : j = i
      · simp [h]
      · simp [h, Ne.symm h]
    · rename_i h
      simp only [tget, ih]
      by_cases h2 : i = j
      · subst h2; simp [h]
      · simp [h2]

/-- Reading after a canonical write. -/
theorem tget_tset [DecidableEq α] (d : α) (t : Tbl α) (k : Nat) (v : α) (j : Nat) :
    tget d (tset d t k v) j = if j = k then v else tget d t j := by
  unfold tset
  split
  · rename_i h; subst h; exact tget_tdel ..
  · exact tget_tput ..

@[simp] theorem tget_tset_self [DecidableEq α] (d : α) (t : Tbl α) (k : Nat) (v : α) :
    tget d (tset d t k v) k = v := by simp [tget_tset]

theorem tget_tset_ne [DecidableEq α] (d : α) (t : Tbl α) (k : Nat) (v : α) {j : Nat} (h : j ≠ k) :
    tget d (tset d t k v) j = tget d t j := by simp [tget_tset, h]

theorem thas_tput (t : Tbl α) (k : Nat) (v : α) (j : Nat) : thas (tput t k v) j = (decide (j = k) || thas t j) := by
  induction t with
  | nil =>
    simp only [tput, thas]
    by_cases h : k = j
    · simp [h]
    · simp [h, Ne.symm h]
  | cons a r ih =>
    obtain ⟨i, u⟩ := a
    simp only [tput]
    split
    · simp only [thas]
      by_cases h : k = j
      · simp [h]
      · simp [h, Ne.symm h]
    · split
      · rename_i h1 h2
        subst h2
        simp only [thas]
        by_cases h : i = j
        · simp [h]
        · simp [h, Ne.symm h]
      · simp only [thas, ih]; by_cases h : i = j <;> simp [h]

theorem thas_tdel (t : Tbl α) (k j : Nat) : thas (tdel t k) j = (!(decide (j = k)) && thas t j) := by
  induction t with
  | nil => simp [tdel, thas]
  | cons a r ih =>
    obtain ⟨i, u⟩ := a
    simp only [tdel]
    split
    · rename_i h; subst h; rw [ih]; simp only [thas]
      by_cases h : j = i
      · simp [h]
      · simp [h, Ne.symm h]
    · rename_i h
      simp only [thas, ih]
      by_cases h2 : i = j
      · subst h2; simp [h]
      · simp [h2]

/-- A listed value is what a read gives. -/
theorem tfind_tput (t : Tbl α) (k : Nat) (v : α) (j : Nat) :
    tfind (tput t k v) j = if j = k then some v else tfind t j := by
  induction t with
  | nil => simp only [tput, tfind]; by_cases h : k = j <;> simp [h, eq_comm]
  | cons a r ih =>
    obtain ⟨i, u⟩ := a
    simp only [tput]
    split
    · simp only [tfind]; by_cases h : k = j <;> simp [h, eq_comm]
    · split
      · rename_i h1 h2
        subst h2
        simp only [tfind]
        by_cases h : i = j
        · simp [h]
        · simp [h, Ne.symm h]
      · rename_i h1 h2
        simp only [tfind, ih]
        by_cases h : i = j
        · subst h; simp [h2]
        · simp [h]

theorem tfind_tdel (t : Tbl α) (k j : Nat) : tfind (tdel t k) j = if j = k then none else tfind t j := by
  induction t with
  | nil => simp [tdel, tfind]
  | cons a r ih =>
    obtain ⟨i, u⟩ := a
    simp only [tdel]
    split
    · rename_i h; subst h; rw [ih]; simp only [tfind]
      by_cases h : j = i
      · simp [h]
      · simp [h, Ne.symm h]
    · rename_i h
      simp only [tfind, ih]
      by_cases h2 : i = j
      · subst h2; simp [h]
      · simp [h2]

/-! ## Canonical tables -/

theorem risesFrom_mono {lo lo' : Nat} (t : Tbl α) (h : Tbl.risesFrom lo t = true) (hl : lo' ≤ lo) :
    Tbl.risesFrom lo' t = true := by
  cases t with
  | nil => rfl
  | cons a r => obtain ⟨k, v⟩ := a; simp [Tbl.risesFrom] at h ⊢; exact ⟨by omega, h.2⟩

theorem risesFrom_tput {lo : Nat} (t : Tbl α) (k : Nat) (v : α) (h : Tbl.risesFrom lo t = true) (hk : lo ≤ k) :
    Tbl.risesFrom lo (tput t k v) = true := by
  induction t generalizing lo with
  | nil => simp [tput, Tbl.risesFrom, hk]
  | cons a r ih =>
    obtain ⟨i, u⟩ := a
    simp only [Tbl.risesFrom, Bool.and_eq_true, decide_eq_true_eq] at h
    simp only [tput]
    split
    · simp only [Tbl.risesFrom, Bool.and_eq_true, decide_eq_true_eq]; exact ⟨hk, by omega, h.2⟩
    · split
      · rename_i h2; subst h2; simp [Tbl.risesFrom, h]
      · simp only [Tbl.risesFrom, Bool.and_eq_true, decide_eq_true_eq]
        exact ⟨h.1, ih h.2 (by omega)⟩

theorem risesFrom_tdel {lo : Nat} (t : Tbl α) (k : Nat) (h : Tbl.risesFrom lo t = true) :
    Tbl.risesFrom lo (tdel t k) = true := by
  induction t generalizing lo with
  | nil => rfl
  | cons a r ih =>
    obtain ⟨i, u⟩ := a
    simp only [Tbl.risesFrom, Bool.and_eq_true, decide_eq_true_eq] at h
    simp only [tdel]
    split
    · exact risesFrom_mono _ (ih h.2) (by omega)
    · simp only [Tbl.risesFrom, Bool.and_eq_true, decide_eq_true_eq]; exact ⟨h.1, ih h.2⟩

/-! ## Memory -/

/-- A read after a write of one byte. -/
theorem mget_mset (m : Memory) (a : Nat) (b : Byte) (x : Nat) : mget (mset m a b) x = if x = a then b else mget m x :=
  tget_tset ..

/-- A read outside the bytes written. -/
theorem mget_mwrite_out (m : Memory) (a : Nat) (l : List Byte) (x : Nat) (h : x < a ∨ a + l.length ≤ x) :
    mget (mwrite m a l) x = mget m x := by
  induction l generalizing m a with
  | nil => rfl
  | cons b r ih =>
    simp only [mwrite, List.length_cons] at h ⊢
    rw [ih _ _ (by omega), mget_mset, if_neg (by omega)]

/-- A read inside the bytes written. -/
theorem mget_mwrite_in (m : Memory) (a : Nat) (l : List Byte) (i : Nat) (h : i < l.length) :
    mget (mwrite m a l) (a + i) = l[i] := by
  induction l generalizing m a i with
  | nil => simp at h
  | cons b r ih =>
    simp only [mwrite]
    cases i with
    | zero => rw [mget_mwrite_out _ _ _ _ (by omega), mget_mset]; simp
    | succ i =>
      have := ih (mset m a b) (a + 1) i (by simpa using h)
      simpa [Nat.add_assoc, Nat.add_comm 1] using this

/-- A read of known bytes. -/
theorem mread_eq (m : Memory) (a : Nat) (l : List Byte) (h : ∀ i (hi : i < l.length), mget m (a + i) = l[i]) :
    mread m a l.length = l := by
  induction l generalizing a with
  | nil => rfl
  | cons b r ih =>
    have h0 : mget m a = b := h 0 (by simp)
    have hr : ∀ i (hi : i < r.length), mget m (a + 1 + i) = r[i] := fun i hi => by
      have := h (i + 1) (by simpa using hi)
      rwa [List.getElem_cons_succ, ← Nat.add_assoc, Nat.add_right_comm] at this
    simp only [List.length_cons, mread]
    rw [ih (a + 1) hr, h0]

/-- A read of bytes that are all zero. -/
theorem mread_zeros (m : Memory) (a n : Nat) (h : ∀ i, i < n → mget m (a + i) = 0) : mread m a n = zeros n := by
  have hl : (zeros n).length = n := List.length_replicate
  have := mread_eq m a (zeros n) fun i hi => by rw [h i (hl ▸ hi)]; exact (List.getElem_replicate _).symm
  rwa [hl] at this

/-- A read of the bytes written. -/
theorem mread_mwrite (m : Memory) (a : Nat) (l : List Byte) : mread (mwrite m a l) a l.length = l :=
  mread_eq _ _ _ fun i hi => mget_mwrite_in m a l i hi

theorem wfFrom_mono {lo lo' : Nat} (m : Memory) (h : Memory.wfFrom lo m = true) (hl : lo' ≤ lo) :
    Memory.wfFrom lo' m = true := by
  cases m with
  | nil => rfl
  | cons a r => obtain ⟨k, v⟩ := a; simp [Memory.wfFrom] at h ⊢; exact ⟨⟨by omega, h.1.2⟩, h.2⟩

theorem wfFrom_tput {lo : Nat} (m : Memory) (a : Nat) (b : Byte) (h : Memory.wfFrom lo m = true) (ha : lo ≤ a)
    (hb : b ≠ 0) : Memory.wfFrom lo (tput m a b) = true := by
  induction m generalizing lo with
  | nil => simpa [tput, Memory.wfFrom, ha] using hb
  | cons c r ih =>
    obtain ⟨i, u⟩ := c
    simp only [Memory.wfFrom, Bool.and_eq_true, decide_eq_true_eq] at h
    simp only [tput]
    split
    · simp only [Memory.wfFrom, Bool.and_eq_true, decide_eq_true_eq]
      exact ⟨⟨ha, hb⟩, ⟨by omega, h.1.2⟩, h.2⟩
    · split
      · rename_i h2; subst h2; simpa [Memory.wfFrom, h] using hb
      · simp only [Memory.wfFrom, Bool.and_eq_true, decide_eq_true_eq]
        exact ⟨h.1, ih h.2 (by omega)⟩

theorem wfFrom_tdel {lo : Nat} (m : Memory) (a : Nat) (h : Memory.wfFrom lo m = true) :
    Memory.wfFrom lo (tdel m a) = true := by
  induction m generalizing lo with
  | nil => rfl
  | cons c r ih =>
    obtain ⟨i, u⟩ := c
    simp only [Memory.wfFrom, Bool.and_eq_true, decide_eq_true_eq] at h
    simp only [tdel]
    split
    · exact wfFrom_mono _ (ih h.2) (by omega)
    · simp only [Memory.wfFrom, Bool.and_eq_true, decide_eq_true_eq]; exact ⟨h.1, ih h.2⟩

/-- A byte write keeps the canonical form. -/
theorem wf_mset (m : Memory) (a : Nat) (b : Byte) (h : Memory.wf m = true) : Memory.wf (mset m a b) = true := by
  unfold mset tset Memory.wf at *
  split
  · exact wfFrom_tdel _ _ h
  · exact wfFrom_tput _ _ _ h (by omega) (by assumption)

/-- A write of bytes keeps the canonical form. -/
theorem wf_mwrite (m : Memory) (a : Nat) (l : List Byte) (h : Memory.wf m = true) :
    Memory.wf (mwrite m a l) = true := by
  induction l generalizing m a with
  | nil => exact h
  | cons b r ih => exact ih _ _ (wf_mset _ _ _ h)

end Sys2Proof.Machine
end

