-- ==== Sys2Proof/Laws/State.lean ====
section
/-! SUPPORT. What each update of a unit leaves and gives: one lemma for each field. -/
namespace Sys2Proof.Machine

/-! ## Dev.setPort -/

theorem Dev.setPort_port (d : Dev) (n : Nat) (x : PortSt) (m : Nat) :
    (d.setPort n x).port m = if m = n then x else d.port m := tget_tput ..
@[simp] theorem Dev.setPort_port_self (d : Dev) (n : Nat) (x : PortSt) : (d.setPort n x).port n = x := tget_tput_self ..
@[simp] theorem Dev.setPort_evt (d : Dev) (n : Nat) (x : PortSt) : (d.setPort n x).evt = d.evt := rfl
@[simp] theorem Dev.setPort_stat (d : Dev) (n : Nat) (x : PortSt) : (d.setPort n x).stat = d.stat := rfl
@[simp] theorem Dev.setPort_pmu (d : Dev) (n : Nat) (x : PortSt) : (d.setPort n x).pmu = d.pmu := rfl
@[simp] theorem Dev.setPort_mgmt (d : Dev) (n : Nat) (x : PortSt) : (d.setPort n x).mgmt = d.mgmt := rfl
@[simp] theorem Dev.setPort_pwr (d : Dev) (n : Nat) (x : PortSt) : (d.setPort n x).pwr = d.pwr := rfl
@[simp] theorem Dev.setPort_blks (d : Dev) (n : Nat) (x : PortSt) : (d.setPort n x).blks = d.blks := rfl
@[simp] theorem Dev.setPort_frames (d : Dev) (n : Nat) (x : PortSt) : (d.setPort n x).frames = d.frames := rfl
@[simp] theorem Dev.setPort_nextFrame (d : Dev) (n : Nat) (x : PortSt) : (d.setPort n x).nextFrame = d.nextFrame := rfl
@[simp] theorem Dev.setPort_sends (d : Dev) (n : Nat) (x : PortSt) : (d.setPort n x).sends = d.sends := rfl
@[simp] theorem Dev.setPort_nextSend (d : Dev) (n : Nat) (x : PortSt) : (d.setPort n x).nextSend = d.nextSend := rfl
@[simp] theorem Dev.setPort_asms (d : Dev) (n : Nat) (x : PortSt) : (d.setPort n x).asms = d.asms := rfl
@[simp] theorem Dev.setPort_nextAsm (d : Dev) (n : Nat) (x : PortSt) : (d.setPort n x).nextAsm = d.nextAsm := rfl
@[simp] theorem Dev.setPort_copies (d : Dev) (n : Nat) (x : PortSt) : (d.setPort n x).copies = d.copies := rfl
@[simp] theorem Dev.setPort_nextCopy (d : Dev) (n : Nat) (x : PortSt) : (d.setPort n x).nextCopy = d.nextCopy := rfl
@[simp] theorem Dev.setPort_wredSwap (d : Dev) (n : Nat) (x : PortSt) : (d.setPort n x).wredSwap = d.wredSwap := rfl
@[simp] theorem Dev.setPort_policerSwap (d : Dev) (n : Nat) (x : PortSt) : (d.setPort n x).policerSwap = d.policerSwap := rfl
@[simp] theorem Dev.setPort_swapRes (d : Dev) (n : Nat) (x : PortSt) : (d.setPort n x).swapRes = d.swapRes := rfl
@[simp] theorem Dev.setPort_threads (d : Dev) (n : Nat) (x : PortSt) : (d.setPort n x).threads = d.threads := rfl
@[simp] theorem Dev.setPort_frozen (d : Dev) (n : Nat) (x : PortSt) : (d.setPort n x).frozen = d.frozen := rfl
@[simp] theorem Dev.setPort_rs (d : Dev) (n : Nat) (x : PortSt) : (d.setPort n x).rs = d.rs := rfl
@[simp] theorem Dev.setPort_sets (d : Dev) (n : Nat) (x : PortSt) : (d.setPort n x).sets = d.sets := rfl
@[simp] theorem Dev.setPort_slate (d : Dev) (n : Nat) (x : PortSt) : (d.setPort n x).slate = d.slate := rfl
@[simp] theorem Dev.setPort_loft (d : Dev) (n : Nat) (x : PortSt) : (d.setPort n x).loft = d.loft := rfl
@[simp] theorem Dev.setPort_gut (d : Dev) (n : Nat) (x : PortSt) : (d.setPort n x).gut = d.gut := rfl
@[simp] theorem Dev.setPort_qtz (d : Dev) (n : Nat) (x : PortSt) : (d.setPort n x).qtz = d.qtz := rfl
@[simp] theorem Dev.setPort_mdio (d : Dev) (n : Nat) (x : PortSt) : (d.setPort n x).mdio = d.mdio := rfl
@[simp] theorem Dev.setPort_twin (d : Dev) (n : Nat) (x : PortSt) : (d.setPort n x).twin = d.twin := rfl
@[simp] theorem Dev.setPort_rings (d : Dev) (n : Nat) (x : PortSt) : (d.setPort n x).rings = d.rings := rfl
@[simp] theorem Dev.setPort_cmd (d : Dev) (n : Nat) (x : PortSt) : (d.setPort n x).cmd = d.cmd := rfl
@[simp] theorem Dev.setPort_gns (d : Dev) (n : Nat) (x : PortSt) : (d.setPort n x).gns = d.gns := rfl
@[simp] theorem Dev.setPort_free (d : Dev) (n : Nat) (x : PortSt) : (d.setPort n x).free = d.free := rfl
@[simp] theorem Dev.setPort_blk (d : Dev) (n : Nat) (x : PortSt) (m : Nat) : (d.setPort n x).blk m = d.blk m := rfl
@[simp] theorem Dev.setPort_frame (d : Dev) (n : Nat) (x : PortSt) (m : Nat) : (d.setPort n x).frame m = d.frame m := rfl
@[simp] theorem Dev.setPort_send (d : Dev) (n : Nat) (x : PortSt) (m : Nat) : (d.setPort n x).send m = d.send m := rfl
@[simp] theorem Dev.setPort_asm (d : Dev) (n : Nat) (x : PortSt) (m : Nat) : (d.setPort n x).asm m = d.asm m := rfl
@[simp] theorem Dev.setPort_copy (d : Dev) (n : Nat) (x : PortSt) (m : Nat) : (d.setPort n x).copy m = d.copy m := rfl
@[simp] theorem Dev.setPort_thread (d : Dev) (n : Nat) (x : PortSt) (m : Nat) : (d.setPort n x).thread m = d.thread m := rfl
@[simp] theorem Dev.setPort_setAt (d : Dev) (n : Nat) (x : PortSt) (m : Nat) : (d.setPort n x).set m = d.set m := rfl

/-! ## Dev.setBlk -/

theorem Dev.setBlk_blk (d : Dev) (n : Nat) (x : BlkSt) (m : Nat) :
    (d.setBlk n x).blk m = if m = n then x else d.blk m := tget_tput ..
@[simp] theorem Dev.setBlk_blk_self (d : Dev) (n : Nat) (x : BlkSt) : (d.setBlk n x).blk n = x := tget_tput_self ..
@[simp] theorem Dev.setBlk_evt (d : Dev) (n : Nat) (x : BlkSt) : (d.setBlk n x).evt = d.evt := rfl
@[simp] theorem Dev.setBlk_stat (d : Dev) (n : Nat) (x : BlkSt) : (d.setBlk n x).stat = d.stat := rfl
@[simp] theorem Dev.setBlk_pmu (d : Dev) (n : Nat) (x : BlkSt) : (d.setBlk n x).pmu = d.pmu := rfl
@[simp] theorem Dev.setBlk_mgmt (d : Dev) (n : Nat) (x : BlkSt) : (d.setBlk n x).mgmt = d.mgmt := rfl
@[simp] theorem Dev.setBlk_pwr (d : Dev) (n : Nat) (x : BlkSt) : (d.setBlk n x).pwr = d.pwr := rfl
@[simp] theorem Dev.setBlk_ports (d : Dev) (n : Nat) (x : BlkSt) : (d.setBlk n x).ports = d.ports := rfl
@[simp] theorem Dev.setBlk_frames (d : Dev) (n : Nat) (x : BlkSt) : (d.setBlk n x).frames = d.frames := rfl
@[simp] theorem Dev.setBlk_nextFrame (d : Dev) (n : Nat) (x : BlkSt) : (d.setBlk n x).nextFrame = d.nextFrame := rfl
@[simp] theorem Dev.setBlk_sends (d : Dev) (n : Nat) (x : BlkSt) : (d.setBlk n x).sends = d.sends := rfl
@[simp] theorem Dev.setBlk_nextSend (d : Dev) (n : Nat) (x : BlkSt) : (d.setBlk n x).nextSend = d.nextSend := rfl
@[simp] theorem Dev.setBlk_asms (d : Dev) (n : Nat) (x : BlkSt) : (d.setBlk n x).asms = d.asms := rfl
@[simp] theorem Dev.setBlk_nextAsm (d : Dev) (n : Nat) (x : BlkSt) : (d.setBlk n x).nextAsm = d.nextAsm := rfl
@[simp] theorem Dev.setBlk_copies (d : Dev) (n : Nat) (x : BlkSt) : (d.setBlk n x).copies = d.copies := rfl
@[simp] theorem Dev.setBlk_nextCopy (d : Dev) (n : Nat) (x : BlkSt) : (d.setBlk n x).nextCopy = d.nextCopy := rfl
@[simp] theorem Dev.setBlk_wredSwap (d : Dev) (n : Nat) (x : BlkSt) : (d.setBlk n x).wredSwap = d.wredSwap := rfl
@[simp] theorem Dev.setBlk_policerSwap (d : Dev) (n : Nat) (x : BlkSt) : (d.setBlk n x).policerSwap = d.policerSwap := rfl
@[simp] theorem Dev.setBlk_swapRes (d : Dev) (n : Nat) (x : BlkSt) : (d.setBlk n x).swapRes = d.swapRes := rfl
@[simp] theorem Dev.setBlk_threads (d : Dev) (n : Nat) (x : BlkSt) : (d.setBlk n x).threads = d.threads := rfl
@[simp] theorem Dev.setBlk_frozen (d : Dev) (n : Nat) (x : BlkSt) : (d.setBlk n x).frozen = d.frozen := rfl
@[simp] theorem Dev.setBlk_rs (d : Dev) (n : Nat) (x : BlkSt) : (d.setBlk n x).rs = d.rs := rfl
@[simp] theorem Dev.setBlk_sets (d : Dev) (n : Nat) (x : BlkSt) : (d.setBlk n x).sets = d.sets := rfl
@[simp] theorem Dev.setBlk_slate (d : Dev) (n : Nat) (x : BlkSt) : (d.setBlk n x).slate = d.slate := rfl
@[simp] theorem Dev.setBlk_loft (d : Dev) (n : Nat) (x : BlkSt) : (d.setBlk n x).loft = d.loft := rfl
@[simp] theorem Dev.setBlk_gut (d : Dev) (n : Nat) (x : BlkSt) : (d.setBlk n x).gut = d.gut := rfl
@[simp] theorem Dev.setBlk_qtz (d : Dev) (n : Nat) (x : BlkSt) : (d.setBlk n x).qtz = d.qtz := rfl
@[simp] theorem Dev.setBlk_mdio (d : Dev) (n : Nat) (x : BlkSt) : (d.setBlk n x).mdio = d.mdio := rfl
@[simp] theorem Dev.setBlk_twin (d : Dev) (n : Nat) (x : BlkSt) : (d.setBlk n x).twin = d.twin := rfl
@[simp] theorem Dev.setBlk_rings (d : Dev) (n : Nat) (x : BlkSt) : (d.setBlk n x).rings = d.rings := rfl
@[simp] theorem Dev.setBlk_cmd (d : Dev) (n : Nat) (x : BlkSt) : (d.setBlk n x).cmd = d.cmd := rfl
@[simp] theorem Dev.setBlk_gns (d : Dev) (n : Nat) (x : BlkSt) : (d.setBlk n x).gns = d.gns := rfl
@[simp] theorem Dev.setBlk_free (d : Dev) (n : Nat) (x : BlkSt) : (d.setBlk n x).free = d.free := rfl
@[simp] theorem Dev.setBlk_port (d : Dev) (n : Nat) (x : BlkSt) (m : Nat) : (d.setBlk n x).port m = d.port m := rfl
@[simp] theorem Dev.setBlk_frame (d : Dev) (n : Nat) (x : BlkSt) (m : Nat) : (d.setBlk n x).frame m = d.frame m := rfl
@[simp] theorem Dev.setBlk_send (d : Dev) (n : Nat) (x : BlkSt) (m : Nat) : (d.setBlk n x).send m = d.send m := rfl
@[simp] theorem Dev.setBlk_asm (d : Dev) (n : Nat) (x : BlkSt) (m : Nat) : (d.setBlk n x).asm m = d.asm m := rfl
@[simp] theorem Dev.setBlk_copy (d : Dev) (n : Nat) (x : BlkSt) (m : Nat) : (d.setBlk n x).copy m = d.copy m := rfl
@[simp] theorem Dev.setBlk_thread (d : Dev) (n : Nat) (x : BlkSt) (m : Nat) : (d.setBlk n x).thread m = d.thread m := rfl
@[simp] theorem Dev.setBlk_setAt (d : Dev) (n : Nat) (x : BlkSt) (m : Nat) : (d.setBlk n x).set m = d.set m := rfl

/-! ## Dev.setFrame -/

theorem Dev.setFrame_frame (d : Dev) (n : Nat) (x : Frame) (m : Nat) :
    (d.setFrame n x).frame m = if m = n then x else d.frame m := tget_tput ..
@[simp] theorem Dev.setFrame_frame_self (d : Dev) (n : Nat) (x : Frame) : (d.setFrame n x).frame n = x := tget_tput_self ..
@[simp] theorem Dev.setFrame_evt (d : Dev) (n : Nat) (x : Frame) : (d.setFrame n x).evt = d.evt := rfl
@[simp] theorem Dev.setFrame_stat (d : Dev) (n : Nat) (x : Frame) : (d.setFrame n x).stat = d.stat := rfl
@[simp] theorem Dev.setFrame_pmu (d : Dev) (n : Nat) (x : Frame) : (d.setFrame n x).pmu = d.pmu := rfl
@[simp] theorem Dev.setFrame_mgmt (d : Dev) (n : Nat) (x : Frame) : (d.setFrame n x).mgmt = d.mgmt := rfl
@[simp] theorem Dev.setFrame_pwr (d : Dev) (n : Nat) (x : Frame) : (d.setFrame n x).pwr = d.pwr := rfl
@[simp] theorem Dev.setFrame_ports (d : Dev) (n : Nat) (x : Frame) : (d.setFrame n x).ports = d.ports := rfl
@[simp] theorem Dev.setFrame_blks (d : Dev) (n : Nat) (x : Frame) : (d.setFrame n x).blks = d.blks := rfl
@[simp] theorem Dev.setFrame_nextFrame (d : Dev) (n : Nat) (x : Frame) : (d.setFrame n x).nextFrame = d.nextFrame := rfl
@[simp] theorem Dev.setFrame_sends (d : Dev) (n : Nat) (x : Frame) : (d.setFrame n x).sends = d.sends := rfl
@[simp] theorem Dev.setFrame_nextSend (d : Dev) (n : Nat) (x : Frame) : (d.setFrame n x).nextSend = d.nextSend := rfl
@[simp] theorem Dev.setFrame_asms (d : Dev) (n : Nat) (x : Frame) : (d.setFrame n x).asms = d.asms := rfl
@[simp] theorem Dev.setFrame_nextAsm (d : Dev) (n : Nat) (x : Frame) : (d.setFrame n x).nextAsm = d.nextAsm := rfl
@[simp] theorem Dev.setFrame_copies (d : Dev) (n : Nat) (x : Frame) : (d.setFrame n x).copies = d.copies := rfl
@[simp] theorem Dev.setFrame_nextCopy (d : Dev) (n : Nat) (x : Frame) : (d.setFrame n x).nextCopy = d.nextCopy := rfl
@[simp] theorem Dev.setFrame_wredSwap (d : Dev) (n : Nat) (x : Frame) : (d.setFrame n x).wredSwap = d.wredSwap := rfl
@[simp] theorem Dev.setFrame_policerSwap (d : Dev) (n : Nat) (x : Frame) : (d.setFrame n x).policerSwap = d.policerSwap := rfl
@[simp] theorem Dev.setFrame_swapRes (d : Dev) (n : Nat) (x : Frame) : (d.setFrame n x).swapRes = d.swapRes := rfl
@[simp] theorem Dev.setFrame_threads (d : Dev) (n : Nat) (x : Frame) : (d.setFrame n x).threads = d.threads := rfl
@[simp] theorem Dev.setFrame_frozen (d : Dev) (n : Nat) (x : Frame) : (d.setFrame n x).frozen = d.frozen := rfl
@[simp] theorem Dev.setFrame_rs (d : Dev) (n : Nat) (x : Frame) : (d.setFrame n x).rs = d.rs := rfl
@[simp] theorem Dev.setFrame_sets (d : Dev) (n : Nat) (x : Frame) : (d.setFrame n x).sets = d.sets := rfl
@[simp] theorem Dev.setFrame_slate (d : Dev) (n : Nat) (x : Frame) : (d.setFrame n x).slate = d.slate := rfl
@[simp] theorem Dev.setFrame_loft (d : Dev) (n : Nat) (x : Frame) : (d.setFrame n x).loft = d.loft := rfl
@[simp] theorem Dev.setFrame_gut (d : Dev) (n : Nat) (x : Frame) : (d.setFrame n x).gut = d.gut := rfl
@[simp] theorem Dev.setFrame_qtz (d : Dev) (n : Nat) (x : Frame) : (d.setFrame n x).qtz = d.qtz := rfl
@[simp] theorem Dev.setFrame_mdio (d : Dev) (n : Nat) (x : Frame) : (d.setFrame n x).mdio = d.mdio := rfl
@[simp] theorem Dev.setFrame_twin (d : Dev) (n : Nat) (x : Frame) : (d.setFrame n x).twin = d.twin := rfl
@[simp] theorem Dev.setFrame_rings (d : Dev) (n : Nat) (x : Frame) : (d.setFrame n x).rings = d.rings := rfl
@[simp] theorem Dev.setFrame_cmd (d : Dev) (n : Nat) (x : Frame) : (d.setFrame n x).cmd = d.cmd := rfl
@[simp] theorem Dev.setFrame_gns (d : Dev) (n : Nat) (x : Frame) : (d.setFrame n x).gns = d.gns := rfl
@[simp] theorem Dev.setFrame_free (d : Dev) (n : Nat) (x : Frame) : (d.setFrame n x).free = d.free := rfl
@[simp] theorem Dev.setFrame_port (d : Dev) (n : Nat) (x : Frame) (m : Nat) : (d.setFrame n x).port m = d.port m := rfl
@[simp] theorem Dev.setFrame_blk (d : Dev) (n : Nat) (x : Frame) (m : Nat) : (d.setFrame n x).blk m = d.blk m := rfl
@[simp] theorem Dev.setFrame_send (d : Dev) (n : Nat) (x : Frame) (m : Nat) : (d.setFrame n x).send m = d.send m := rfl
@[simp] theorem Dev.setFrame_asm (d : Dev) (n : Nat) (x : Frame) (m : Nat) : (d.setFrame n x).asm m = d.asm m := rfl
@[simp] theorem Dev.setFrame_copy (d : Dev) (n : Nat) (x : Frame) (m : Nat) : (d.setFrame n x).copy m = d.copy m := rfl
@[simp] theorem Dev.setFrame_thread (d : Dev) (n : Nat) (x : Frame) (m : Nat) : (d.setFrame n x).thread m = d.thread m := rfl
@[simp] theorem Dev.setFrame_setAt (d : Dev) (n : Nat) (x : Frame) (m : Nat) : (d.setFrame n x).set m = d.set m := rfl

/-! ## Dev.setSend -/

theorem Dev.setSend_send (d : Dev) (n : Nat) (x : Send) (m : Nat) :
    (d.setSend n x).send m = if m = n then x else d.send m := tget_tput ..
@[simp] theorem Dev.setSend_send_self (d : Dev) (n : Nat) (x : Send) : (d.setSend n x).send n = x := tget_tput_self ..
@[simp] theorem Dev.setSend_evt (d : Dev) (n : Nat) (x : Send) : (d.setSend n x).evt = d.evt := rfl
@[simp] theorem Dev.setSend_stat (d : Dev) (n : Nat) (x : Send) : (d.setSend n x).stat = d.stat := rfl
@[simp] theorem Dev.setSend_pmu (d : Dev) (n : Nat) (x : Send) : (d.setSend n x).pmu = d.pmu := rfl
@[simp] theorem Dev.setSend_mgmt (d : Dev) (n : Nat) (x : Send) : (d.setSend n x).mgmt = d.mgmt := rfl
@[simp] theorem Dev.setSend_pwr (d : Dev) (n : Nat) (x : Send) : (d.setSend n x).pwr = d.pwr := rfl
@[simp] theorem Dev.setSend_ports (d : Dev) (n : Nat) (x : Send) : (d.setSend n x).ports = d.ports := rfl
@[simp] theorem Dev.setSend_blks (d : Dev) (n : Nat) (x : Send) : (d.setSend n x).blks = d.blks := rfl
@[simp] theorem Dev.setSend_frames (d : Dev) (n : Nat) (x : Send) : (d.setSend n x).frames = d.frames := rfl
@[simp] theorem Dev.setSend_nextFrame (d : Dev) (n : Nat) (x : Send) : (d.setSend n x).nextFrame = d.nextFrame := rfl
@[simp] theorem Dev.setSend_nextSend (d : Dev) (n : Nat) (x : Send) : (d.setSend n x).nextSend = d.nextSend := rfl
@[simp] theorem Dev.setSend_asms (d : Dev) (n : Nat) (x : Send) : (d.setSend n x).asms = d.asms := rfl
@[simp] theorem Dev.setSend_nextAsm (d : Dev) (n : Nat) (x : Send) : (d.setSend n x).nextAsm = d.nextAsm := rfl
@[simp] theorem Dev.setSend_copies (d : Dev) (n : Nat) (x : Send) : (d.setSend n x).copies = d.copies := rfl
@[simp] theorem Dev.setSend_nextCopy (d : Dev) (n : Nat) (x : Send) : (d.setSend n x).nextCopy = d.nextCopy := rfl
@[simp] theorem Dev.setSend_wredSwap (d : Dev) (n : Nat) (x : Send) : (d.setSend n x).wredSwap = d.wredSwap := rfl
@[simp] theorem Dev.setSend_policerSwap (d : Dev) (n : Nat) (x : Send) : (d.setSend n x).policerSwap = d.policerSwap := rfl
@[simp] theorem Dev.setSend_swapRes (d : Dev) (n : Nat) (x : Send) : (d.setSend n x).swapRes = d.swapRes := rfl
@[simp] theorem Dev.setSend_threads (d : Dev) (n : Nat) (x : Send) : (d.setSend n x).threads = d.threads := rfl
@[simp] theorem Dev.setSend_frozen (d : Dev) (n : Nat) (x : Send) : (d.setSend n x).frozen = d.frozen := rfl
@[simp] theorem Dev.setSend_rs (d : Dev) (n : Nat) (x : Send) : (d.setSend n x).rs = d.rs := rfl
@[simp] theorem Dev.setSend_sets (d : Dev) (n : Nat) (x : Send) : (d.setSend n x).sets = d.sets := rfl
@[simp] theorem Dev.setSend_slate (d : Dev) (n : Nat) (x : Send) : (d.setSend n x).slate = d.slate := rfl
@[simp] theorem Dev.setSend_loft (d : Dev) (n : Nat) (x : Send) : (d.setSend n x).loft = d.loft := rfl
@[simp] theorem Dev.setSend_gut (d : Dev) (n : Nat) (x : Send) : (d.setSend n x).gut = d.gut := rfl
@[simp] theorem Dev.setSend_qtz (d : Dev) (n : Nat) (x : Send) : (d.setSend n x).qtz = d.qtz := rfl
@[simp] theorem Dev.setSend_mdio (d : Dev) (n : Nat) (x : Send) : (d.setSend n x).mdio = d.mdio := rfl
@[simp] theorem Dev.setSend_twin (d : Dev) (n : Nat) (x : Send) : (d.setSend n x).twin = d.twin := rfl
@[simp] theorem Dev.setSend_rings (d : Dev) (n : Nat) (x : Send) : (d.setSend n x).rings = d.rings := rfl
@[simp] theorem Dev.setSend_cmd (d : Dev) (n : Nat) (x : Send) : (d.setSend n x).cmd = d.cmd := rfl
@[simp] theorem Dev.setSend_gns (d : Dev) (n : Nat) (x : Send) : (d.setSend n x).gns = d.gns := rfl
@[simp] theorem Dev.setSend_free (d : Dev) (n : Nat) (x : Send) : (d.setSend n x).free = d.free := rfl
@[simp] theorem Dev.setSend_port (d : Dev) (n : Nat) (x : Send) (m : Nat) : (d.setSend n x).port m = d.port m := rfl
@[simp] theorem Dev.setSend_blk (d : Dev) (n : Nat) (x : Send) (m : Nat) : (d.setSend n x).blk m = d.blk m := rfl
@[simp] theorem Dev.setSend_frame (d : Dev) (n : Nat) (x : Send) (m : Nat) : (d.setSend n x).frame m = d.frame m := rfl
@[simp] theorem Dev.setSend_asm (d : Dev) (n : Nat) (x : Send) (m : Nat) : (d.setSend n x).asm m = d.asm m := rfl
@[simp] theorem Dev.setSend_copy (d : Dev) (n : Nat) (x : Send) (m : Nat) : (d.setSend n x).copy m = d.copy m := rfl
@[simp] theorem Dev.setSend_thread (d : Dev) (n : Nat) (x : Send) (m : Nat) : (d.setSend n x).thread m = d.thread m := rfl
@[simp] theorem Dev.setSend_setAt (d : Dev) (n : Nat) (x : Send) (m : Nat) : (d.setSend n x).set m = d.set m := rfl

/-! ## Dev.setAsm -/

theorem Dev.setAsm_asm (d : Dev) (n : Nat) (x : Asm) (m : Nat) :
    (d.setAsm n x).asm m = if m = n then x else d.asm m := tget_tput ..
@[simp] theorem Dev.setAsm_asm_self (d : Dev) (n : Nat) (x : Asm) : (d.setAsm n x).asm n = x := tget_tput_self ..
@[simp] theorem Dev.setAsm_evt (d : Dev) (n : Nat) (x : Asm) : (d.setAsm n x).evt = d.evt := rfl
@[simp] theorem Dev.setAsm_stat (d : Dev) (n : Nat) (x : Asm) : (d.setAsm n x).stat = d.stat := rfl
@[simp] theorem Dev.setAsm_pmu (d : Dev) (n : Nat) (x : Asm) : (d.setAsm n x).pmu = d.pmu := rfl
@[simp] theorem Dev.setAsm_mgmt (d : Dev) (n : Nat) (x : Asm) : (d.setAsm n x).mgmt = d.mgmt := rfl
@[simp] theorem Dev.setAsm_pwr (d : Dev) (n : Nat) (x : Asm) : (d.setAsm n x).pwr = d.pwr := rfl
@[simp] theorem Dev.setAsm_ports (d : Dev) (n : Nat) (x : Asm) : (d.setAsm n x).ports = d.ports := rfl
@[simp] theorem Dev.setAsm_blks (d : Dev) (n : Nat) (x : Asm) : (d.setAsm n x).blks = d.blks := rfl
@[simp] theorem Dev.setAsm_frames (d : Dev) (n : Nat) (x : Asm) : (d.setAsm n x).frames = d.frames := rfl
@[simp] theorem Dev.setAsm_nextFrame (d : Dev) (n : Nat) (x : Asm) : (d.setAsm n x).nextFrame = d.nextFrame := rfl
@[simp] theorem Dev.setAsm_sends (d : Dev) (n : Nat) (x : Asm) : (d.setAsm n x).sends = d.sends := rfl
@[simp] theorem Dev.setAsm_nextSend (d : Dev) (n : Nat) (x : Asm) : (d.setAsm n x).nextSend = d.nextSend := rfl
@[simp] theorem Dev.setAsm_nextAsm (d : Dev) (n : Nat) (x : Asm) : (d.setAsm n x).nextAsm = d.nextAsm := rfl
@[simp] theorem Dev.setAsm_copies (d : Dev) (n : Nat) (x : Asm) : (d.setAsm n x).copies = d.copies := rfl
@[simp] theorem Dev.setAsm_nextCopy (d : Dev) (n : Nat) (x : Asm) : (d.setAsm n x).nextCopy = d.nextCopy := rfl
@[simp] theorem Dev.setAsm_wredSwap (d : Dev) (n : Nat) (x : Asm) : (d.setAsm n x).wredSwap = d.wredSwap := rfl
@[simp] theorem Dev.setAsm_policerSwap (d : Dev) (n : Nat) (x : Asm) : (d.setAsm n x).policerSwap = d.policerSwap := rfl
@[simp] theorem Dev.setAsm_swapRes (d : Dev) (n : Nat) (x : Asm) : (d.setAsm n x).swapRes = d.swapRes := rfl
@[simp] theorem Dev.setAsm_threads (d : Dev) (n : Nat) (x : Asm) : (d.setAsm n x).threads = d.threads := rfl
@[simp] theorem Dev.setAsm_frozen (d : Dev) (n : Nat) (x : Asm) : (d.setAsm n x).frozen = d.frozen := rfl
@[simp] theorem Dev.setAsm_rs (d : Dev) (n : Nat) (x : Asm) : (d.setAsm n x).rs = d.rs := rfl
@[simp] theorem Dev.setAsm_sets (d : Dev) (n : Nat) (x : Asm) : (d.setAsm n x).sets = d.sets := rfl
@[simp] theorem Dev.setAsm_slate (d : Dev) (n : Nat) (x : Asm) : (d.setAsm n x).slate = d.slate := rfl
@[simp] theorem Dev.setAsm_loft (d : Dev) (n : Nat) (x : Asm) : (d.setAsm n x).loft = d.loft := rfl
@[simp] theorem Dev.setAsm_gut (d : Dev) (n : Nat) (x : Asm) : (d.setAsm n x).gut = d.gut := rfl
@[simp] theorem Dev.setAsm_qtz (d : Dev) (n : Nat) (x : Asm) : (d.setAsm n x).qtz = d.qtz := rfl
@[simp] theorem Dev.setAsm_mdio (d : Dev) (n : Nat) (x : Asm) : (d.setAsm n x).mdio = d.mdio := rfl
@[simp] theorem Dev.setAsm_twin (d : Dev) (n : Nat) (x : Asm) : (d.setAsm n x).twin = d.twin := rfl
@[simp] theorem Dev.setAsm_rings (d : Dev) (n : Nat) (x : Asm) : (d.setAsm n x).rings = d.rings := rfl
@[simp] theorem Dev.setAsm_cmd (d : Dev) (n : Nat) (x : Asm) : (d.setAsm n x).cmd = d.cmd := rfl
@[simp] theorem Dev.setAsm_gns (d : Dev) (n : Nat) (x : Asm) : (d.setAsm n x).gns = d.gns := rfl
@[simp] theorem Dev.setAsm_free (d : Dev) (n : Nat) (x : Asm) : (d.setAsm n x).free = d.free := rfl
@[simp] theorem Dev.setAsm_port (d : Dev) (n : Nat) (x : Asm) (m : Nat) : (d.setAsm n x).port m = d.port m := rfl
@[simp] theorem Dev.setAsm_blk (d : Dev) (n : Nat) (x : Asm) (m : Nat) : (d.setAsm n x).blk m = d.blk m := rfl
@[simp] theorem Dev.setAsm_frame (d : Dev) (n : Nat) (x : Asm) (m : Nat) : (d.setAsm n x).frame m = d.frame m := rfl
@[simp] theorem Dev.setAsm_send (d : Dev) (n : Nat) (x : Asm) (m : Nat) : (d.setAsm n x).send m = d.send m := rfl
@[simp] theorem Dev.setAsm_copy (d : Dev) (n : Nat) (x : Asm) (m : Nat) : (d.setAsm n x).copy m = d.copy m := rfl
@[simp] theorem Dev.setAsm_thread (d : Dev) (n : Nat) (x : Asm) (m : Nat) : (d.setAsm n x).thread m = d.thread m := rfl
@[simp] theorem Dev.setAsm_setAt (d : Dev) (n : Nat) (x : Asm) (m : Nat) : (d.setAsm n x).set m = d.set m := rfl

/-! ## Dev.setCopy -/

theorem Dev.setCopy_copy (d : Dev) (n : Nat) (x : Copy) (m : Nat) :
    (d.setCopy n x).copy m = if m = n then x else d.copy m := tget_tput ..
@[simp] theorem Dev.setCopy_copy_self (d : Dev) (n : Nat) (x : Copy) : (d.setCopy n x).copy n = x := tget_tput_self ..
@[simp] theorem Dev.setCopy_evt (d : Dev) (n : Nat) (x : Copy) : (d.setCopy n x).evt = d.evt := rfl
@[simp] theorem Dev.setCopy_stat (d : Dev) (n : Nat) (x : Copy) : (d.setCopy n x).stat = d.stat := rfl
@[simp] theorem Dev.setCopy_pmu (d : Dev) (n : Nat) (x : Copy) : (d.setCopy n x).pmu = d.pmu := rfl
@[simp] theorem Dev.setCopy_mgmt (d : Dev) (n : Nat) (x : Copy) : (d.setCopy n x).mgmt = d.mgmt := rfl
@[simp] theorem Dev.setCopy_pwr (d : Dev) (n : Nat) (x : Copy) : (d.setCopy n x).pwr = d.pwr := rfl
@[simp] theorem Dev.setCopy_ports (d : Dev) (n : Nat) (x : Copy) : (d.setCopy n x).ports = d.ports := rfl
@[simp] theorem Dev.setCopy_blks (d : Dev) (n : Nat) (x : Copy) : (d.setCopy n x).blks = d.blks := rfl
@[simp] theorem Dev.setCopy_frames (d : Dev) (n : Nat) (x : Copy) : (d.setCopy n x).frames = d.frames := rfl
@[simp] theorem Dev.setCopy_nextFrame (d : Dev) (n : Nat) (x : Copy) : (d.setCopy n x).nextFrame = d.nextFrame := rfl
@[simp] theorem Dev.setCopy_sends (d : Dev) (n : Nat) (x : Copy) : (d.setCopy n x).sends = d.sends := rfl
@[simp] theorem Dev.setCopy_nextSend (d : Dev) (n : Nat) (x : Copy) : (d.setCopy n x).nextSend = d.nextSend := rfl
@[simp] theorem Dev.setCopy_asms (d : Dev) (n : Nat) (x : Copy) : (d.setCopy n x).asms = d.asms := rfl
@[simp] theorem Dev.setCopy_nextAsm (d : Dev) (n : Nat) (x : Copy) : (d.setCopy n x).nextAsm = d.nextAsm := rfl
@[simp] theorem Dev.setCopy_nextCopy (d : Dev) (n : Nat) (x : Copy) : (d.setCopy n x).nextCopy = d.nextCopy := rfl
@[simp] theorem Dev.setCopy_wredSwap (d : Dev) (n : Nat) (x : Copy) : (d.setCopy n x).wredSwap = d.wredSwap := rfl
@[simp] theorem Dev.setCopy_policerSwap (d : Dev) (n : Nat) (x : Copy) : (d.setCopy n x).policerSwap = d.policerSwap := rfl
@[simp] theorem Dev.setCopy_swapRes (d : Dev) (n : Nat) (x : Copy) : (d.setCopy n x).swapRes = d.swapRes := rfl
@[simp] theorem Dev.setCopy_threads (d : Dev) (n : Nat) (x : Copy) : (d.setCopy n x).threads = d.threads := rfl
@[simp] theorem Dev.setCopy_frozen (d : Dev) (n : Nat) (x : Copy) : (d.setCopy n x).frozen = d.frozen := rfl
@[simp] theorem Dev.setCopy_rs (d : Dev) (n : Nat) (x : Copy) : (d.setCopy n x).rs = d.rs := rfl
@[simp] theorem Dev.setCopy_sets (d : Dev) (n : Nat) (x : Copy) : (d.setCopy n x).sets = d.sets := rfl
@[simp] theorem Dev.setCopy_slate (d : Dev) (n : Nat) (x : Copy) : (d.setCopy n x).slate = d.slate := rfl
@[simp] theorem Dev.setCopy_loft (d : Dev) (n : Nat) (x : Copy) : (d.setCopy n x).loft = d.loft := rfl
@[simp] theorem Dev.setCopy_gut (d : Dev) (n : Nat) (x : Copy) : (d.setCopy n x).gut = d.gut := rfl
@[simp] theorem Dev.setCopy_qtz (d : Dev) (n : Nat) (x : Copy) : (d.setCopy n x).qtz = d.qtz := rfl
@[simp] theorem Dev.setCopy_mdio (d : Dev) (n : Nat) (x : Copy) : (d.setCopy n x).mdio = d.mdio := rfl
@[simp] theorem Dev.setCopy_twin (d : Dev) (n : Nat) (x : Copy) : (d.setCopy n x).twin = d.twin := rfl
@[simp] theorem Dev.setCopy_rings (d : Dev) (n : Nat) (x : Copy) : (d.setCopy n x).rings = d.rings := rfl
@[simp] theorem Dev.setCopy_cmd (d : Dev) (n : Nat) (x : Copy) : (d.setCopy n x).cmd = d.cmd := rfl
@[simp] theorem Dev.setCopy_gns (d : Dev) (n : Nat) (x : Copy) : (d.setCopy n x).gns = d.gns := rfl
@[simp] theorem Dev.setCopy_free (d : Dev) (n : Nat) (x : Copy) : (d.setCopy n x).free = d.free := rfl
@[simp] theorem Dev.setCopy_port (d : Dev) (n : Nat) (x : Copy) (m : Nat) : (d.setCopy n x).port m = d.port m := rfl
@[simp] theorem Dev.setCopy_blk (d : Dev) (n : Nat) (x : Copy) (m : Nat) : (d.setCopy n x).blk m = d.blk m := rfl
@[simp] theorem Dev.setCopy_frame (d : Dev) (n : Nat) (x : Copy) (m : Nat) : (d.setCopy n x).frame m = d.frame m := rfl
@[simp] theorem Dev.setCopy_send (d : Dev) (n : Nat) (x : Copy) (m : Nat) : (d.setCopy n x).send m = d.send m := rfl
@[simp] theorem Dev.setCopy_asm (d : Dev) (n : Nat) (x : Copy) (m : Nat) : (d.setCopy n x).asm m = d.asm m := rfl
@[simp] theorem Dev.setCopy_thread (d : Dev) (n : Nat) (x : Copy) (m : Nat) : (d.setCopy n x).thread m = d.thread m := rfl
@[simp] theorem Dev.setCopy_setAt (d : Dev) (n : Nat) (x : Copy) (m : Nat) : (d.setCopy n x).set m = d.set m := rfl

/-! ## Dev.setThread -/

theorem Dev.setThread_thread (d : Dev) (n : Nat) (x : Thread) (m : Nat) :
    (d.setThread n x).thread m = if m = n then x else d.thread m := tget_tput ..
@[simp] theorem Dev.setThread_thread_self (d : Dev) (n : Nat) (x : Thread) : (d.setThread n x).thread n = x := tget_tput_self ..
@[simp] theorem Dev.setThread_evt (d : Dev) (n : Nat) (x : Thread) : (d.setThread n x).evt = d.evt := rfl
@[simp] theorem Dev.setThread_stat (d : Dev) (n : Nat) (x : Thread) : (d.setThread n x).stat = d.stat := rfl
@[simp] theorem Dev.setThread_pmu (d : Dev) (n : Nat) (x : Thread) : (d.setThread n x).pmu = d.pmu := rfl
@[simp] theorem Dev.setThread_mgmt (d : Dev) (n : Nat) (x : Thread) : (d.setThread n x).mgmt = d.mgmt := rfl
@[simp] theorem Dev.setThread_pwr (d : Dev) (n : Nat) (x : Thread) : (d.setThread n x).pwr = d.pwr := rfl
@[simp] theorem Dev.setThread_ports (d : Dev) (n : Nat) (x : Thread) : (d.setThread n x).ports = d.ports := rfl
@[simp] theorem Dev.setThread_blks (d : Dev) (n : Nat) (x : Thread) : (d.setThread n x).blks = d.blks := rfl
@[simp] theorem Dev.setThread_frames (d : Dev) (n : Nat) (x : Thread) : (d.setThread n x).frames = d.frames := rfl
@[simp] theorem Dev.setThread_nextFrame (d : Dev) (n : Nat) (x : Thread) : (d.setThread n x).nextFrame = d.nextFrame := rfl
@[simp] theorem Dev.setThread_sends (d : Dev) (n : Nat) (x : Thread) : (d.setThread n x).sends = d.sends := rfl
@[simp] theorem Dev.setThread_nextSend (d : Dev) (n : Nat) (x : Thread) : (d.setThread n x).nextSend = d.nextSend := rfl
@[simp] theorem Dev.setThread_asms (d : Dev) (n : Nat) (x : Thread) : (d.setThread n x).asms = d.asms := rfl
@[simp] theorem Dev.setThread_nextAsm (d : Dev) (n : Nat) (x : Thread) : (d.setThread n x).nextAsm = d.nextAsm := rfl
@[simp] theorem Dev.setThread_copies (d : Dev) (n : Nat) (x : Thread) : (d.setThread n x).copies = d.copies := rfl
@[simp] theorem Dev.setThread_nextCopy (d : Dev) (n : Nat) (x : Thread) : (d.setThread n x).nextCopy = d.nextCopy := rfl
@[simp] theorem Dev.setThread_wredSwap (d : Dev) (n : Nat) (x : Thread) : (d.setThread n x).wredSwap = d.wredSwap := rfl
@[simp] theorem Dev.setThread_policerSwap (d : Dev) (n : Nat) (x : Thread) : (d.setThread n x).policerSwap = d.policerSwap := rfl
@[simp] theorem Dev.setThread_swapRes (d : Dev) (n : Nat) (x : Thread) : (d.setThread n x).swapRes = d.swapRes := rfl
@[simp] theorem Dev.setThread_frozen (d : Dev) (n : Nat) (x : Thread) : (d.setThread n x).frozen = d.frozen := rfl
@[simp] theorem Dev.setThread_rs (d : Dev) (n : Nat) (x : Thread) : (d.setThread n x).rs = d.rs := rfl
@[simp] theorem Dev.setThread_sets (d : Dev) (n : Nat) (x : Thread) : (d.setThread n x).sets = d.sets := rfl
@[simp] theorem Dev.setThread_slate (d : Dev) (n : Nat) (x : Thread) : (d.setThread n x).slate = d.slate := rfl
@[simp] theorem Dev.setThread_loft (d : Dev) (n : Nat) (x : Thread) : (d.setThread n x).loft = d.loft := rfl
@[simp] theorem Dev.setThread_gut (d : Dev) (n : Nat) (x : Thread) : (d.setThread n x).gut = d.gut := rfl
@[simp] theorem Dev.setThread_qtz (d : Dev) (n : Nat) (x : Thread) : (d.setThread n x).qtz = d.qtz := rfl
@[simp] theorem Dev.setThread_mdio (d : Dev) (n : Nat) (x : Thread) : (d.setThread n x).mdio = d.mdio := rfl
@[simp] theorem Dev.setThread_twin (d : Dev) (n : Nat) (x : Thread) : (d.setThread n x).twin = d.twin := rfl
@[simp] theorem Dev.setThread_rings (d : Dev) (n : Nat) (x : Thread) : (d.setThread n x).rings = d.rings := rfl
@[simp] theorem Dev.setThread_cmd (d : Dev) (n : Nat) (x : Thread) : (d.setThread n x).cmd = d.cmd := rfl
@[simp] theorem Dev.setThread_gns (d : Dev) (n : Nat) (x : Thread) : (d.setThread n x).gns = d.gns := rfl
@[simp] theorem Dev.setThread_free (d : Dev) (n : Nat) (x : Thread) : (d.setThread n x).free = d.free := rfl
@[simp] theorem Dev.setThread_port (d : Dev) (n : Nat) (x : Thread) (m : Nat) : (d.setThread n x).port m = d.port m := rfl
@[simp] theorem Dev.setThread_blk (d : Dev) (n : Nat) (x : Thread) (m : Nat) : (d.setThread n x).blk m = d.blk m := rfl
@[simp] theorem Dev.setThread_frame (d : Dev) (n : Nat) (x : Thread) (m : Nat) : (d.setThread n x).frame m = d.frame m := rfl
@[simp] theorem Dev.setThread_send (d : Dev) (n : Nat) (x : Thread) (m : Nat) : (d.setThread n x).send m = d.send m := rfl
@[simp] theorem Dev.setThread_asm (d : Dev) (n : Nat) (x : Thread) (m : Nat) : (d.setThread n x).asm m = d.asm m := rfl
@[simp] theorem Dev.setThread_copy (d : Dev) (n : Nat) (x : Thread) (m : Nat) : (d.setThread n x).copy m = d.copy m := rfl
@[simp] theorem Dev.setThread_setAt (d : Dev) (n : Nat) (x : Thread) (m : Nat) : (d.setThread n x).set m = d.set m := rfl

/-! ## Dev.setSet -/

theorem Dev.setSet_set (d : Dev) (n : Nat) (x : SetSlot) (m : Nat) :
    (d.setSet n x).set m = if m = n then x else d.set m := tget_tput ..
@[simp] theorem Dev.setSet_set_self (d : Dev) (n : Nat) (x : SetSlot) : (d.setSet n x).set n = x := tget_tput_self ..
@[simp] theorem Dev.setSet_evt (d : Dev) (n : Nat) (x : SetSlot) : (d.setSet n x).evt = d.evt := rfl
@[simp] theorem Dev.setSet_stat (d : Dev) (n : Nat) (x : SetSlot) : (d.setSet n x).stat = d.stat := rfl
@[simp] theorem Dev.setSet_pmu (d : Dev) (n : Nat) (x : SetSlot) : (d.setSet n x).pmu = d.pmu := rfl
@[simp] theorem Dev.setSet_mgmt (d : Dev) (n : Nat) (x : SetSlot) : (d.setSet n x).mgmt = d.mgmt := rfl
@[simp] theorem Dev.setSet_pwr (d : Dev) (n : Nat) (x : SetSlot) : (d.setSet n x).pwr = d.pwr := rfl
@[simp] theorem Dev.setSet_ports (d : Dev) (n : Nat) (x : SetSlot) : (d.setSet n x).ports = d.ports := rfl
@[simp] theorem Dev.setSet_blks (d : Dev) (n : Nat) (x : SetSlot) : (d.setSet n x).blks = d.blks := rfl
@[simp] theorem Dev.setSet_frames (d : Dev) (n : Nat) (x : SetSlot) : (d.setSet n x).frames = d.frames := rfl
@[simp] theorem Dev.setSet_nextFrame (d : Dev) (n : Nat) (x : SetSlot) : (d.setSet n x).nextFrame = d.nextFrame := rfl
@[simp] theorem Dev.setSet_sends (d : Dev) (n : Nat) (x : SetSlot) : (d.setSet n x).sends = d.sends := rfl
@[simp] theorem Dev.setSet_nextSend (d : Dev) (n : Nat) (x : SetSlot) : (d.setSet n x).nextSend = d.nextSend := rfl
@[simp] theorem Dev.setSet_asms (d : Dev) (n : Nat) (x : SetSlot) : (d.setSet n x).asms = d.asms := rfl
@[simp] theorem Dev.setSet_nextAsm (d : Dev) (n : Nat) (x : SetSlot) : (d.setSet n x).nextAsm = d.nextAsm := rfl
@[simp] theorem Dev.setSet_copies (d : Dev) (n : Nat) (x : SetSlot) : (d.setSet n x).copies = d.copies := rfl
@[simp] theorem Dev.setSet_nextCopy (d : Dev) (n : Nat) (x : SetSlot) : (d.setSet n x).nextCopy = d.nextCopy := rfl
@[simp] theorem Dev.setSet_wredSwap (d : Dev) (n : Nat) (x : SetSlot) : (d.setSet n x).wredSwap = d.wredSwap := rfl
@[simp] theorem Dev.setSet_policerSwap (d : Dev) (n : Nat) (x : SetSlot) : (d.setSet n x).policerSwap = d.policerSwap := rfl
@[simp] theorem Dev.setSet_swapRes (d : Dev) (n : Nat) (x : SetSlot) : (d.setSet n x).swapRes = d.swapRes := rfl
@[simp] theorem Dev.setSet_threads (d : Dev) (n : Nat) (x : SetSlot) : (d.setSet n x).threads = d.threads := rfl
@[simp] theorem Dev.setSet_frozen (d : Dev) (n : Nat) (x : SetSlot) : (d.setSet n x).frozen = d.frozen := rfl
@[simp] theorem Dev.setSet_rs (d : Dev) (n : Nat) (x : SetSlot) : (d.setSet n x).rs = d.rs := rfl
@[simp] theorem Dev.setSet_slate (d : Dev) (n : Nat) (x : SetSlot) : (d.setSet n x).slate = d.slate := rfl
@[simp] theorem Dev.setSet_loft (d : Dev) (n : Nat) (x : SetSlot) : (d.setSet n x).loft = d.loft := rfl
@[simp] theorem Dev.setSet_gut (d : Dev) (n : Nat) (x : SetSlot) : (d.setSet n x).gut = d.gut := rfl
@[simp] theorem Dev.setSet_qtz (d : Dev) (n : Nat) (x : SetSlot) : (d.setSet n x).qtz = d.qtz := rfl
@[simp] theorem Dev.setSet_mdio (d : Dev) (n : Nat) (x : SetSlot) : (d.setSet n x).mdio = d.mdio := rfl
@[simp] theorem Dev.setSet_twin (d : Dev) (n : Nat) (x : SetSlot) : (d.setSet n x).twin = d.twin := rfl
@[simp] theorem Dev.setSet_rings (d : Dev) (n : Nat) (x : SetSlot) : (d.setSet n x).rings = d.rings := rfl
@[simp] theorem Dev.setSet_cmd (d : Dev) (n : Nat) (x : SetSlot) : (d.setSet n x).cmd = d.cmd := rfl
@[simp] theorem Dev.setSet_gns (d : Dev) (n : Nat) (x : SetSlot) : (d.setSet n x).gns = d.gns := rfl
@[simp] theorem Dev.setSet_free (d : Dev) (n : Nat) (x : SetSlot) : (d.setSet n x).free = d.free := rfl
@[simp] theorem Dev.setSet_port (d : Dev) (n : Nat) (x : SetSlot) (m : Nat) : (d.setSet n x).port m = d.port m := rfl
@[simp] theorem Dev.setSet_blk (d : Dev) (n : Nat) (x : SetSlot) (m : Nat) : (d.setSet n x).blk m = d.blk m := rfl
@[simp] theorem Dev.setSet_frame (d : Dev) (n : Nat) (x : SetSlot) (m : Nat) : (d.setSet n x).frame m = d.frame m := rfl
@[simp] theorem Dev.setSet_send (d : Dev) (n : Nat) (x : SetSlot) (m : Nat) : (d.setSet n x).send m = d.send m := rfl
@[simp] theorem Dev.setSet_asm (d : Dev) (n : Nat) (x : SetSlot) (m : Nat) : (d.setSet n x).asm m = d.asm m := rfl
@[simp] theorem Dev.setSet_copy (d : Dev) (n : Nat) (x : SetSlot) (m : Nat) : (d.setSet n x).copy m = d.copy m := rfl
@[simp] theorem Dev.setSet_thread (d : Dev) (n : Nat) (x : SetSlot) (m : Nat) : (d.setSet n x).thread m = d.thread m := rfl

/-! ## State -/

@[simp] theorem State.with_env_env (s : State) (x : Env) : ({ s with env := x } : State).env = x := rfl
@[simp] theorem State.with_env_dev (s : State) (x : Env) : ({ s with env := x } : State).dev = s.dev := rfl
@[simp] theorem State.with_env_host (s : State) (x : Env) : ({ s with env := x } : State).host = s.host := rfl
@[simp] theorem State.with_env_loft (s : State) (x : Env) : ({ s with env := x } : State).loft = s.loft := rfl
@[simp] theorem State.with_env_hpt (s : State) (x : Env) : ({ s with env := x } : State).hpt = s.hpt := rfl
@[simp] theorem State.with_env_pending (s : State) (x : Env) : ({ s with env := x } : State).pending = s.pending := rfl
@[simp] theorem State.with_dev_env (s : State) (x : Dev) : ({ s with dev := x } : State).env = s.env := rfl
@[simp] theorem State.with_dev_dev (s : State) (x : Dev) : ({ s with dev := x } : State).dev = x := rfl
@[simp] theorem State.with_dev_host (s : State) (x : Dev) : ({ s with dev := x } : State).host = s.host := rfl
@[simp] theorem State.with_dev_loft (s : State) (x : Dev) : ({ s with dev := x } : State).loft = s.loft := rfl
@[simp] theorem State.with_dev_hpt (s : State) (x : Dev) : ({ s with dev := x } : State).hpt = s.hpt := rfl
@[simp] theorem State.with_dev_pending (s : State) (x : Dev) : ({ s with dev := x } : State).pending = s.pending := rfl
@[simp] theorem State.with_host_env (s : State) (x : Memory) : ({ s with host := x } : State).env = s.env := rfl
@[simp] theorem State.with_host_dev (s : State) (x : Memory) : ({ s with host := x } : State).dev = s.dev := rfl
@[simp] theorem State.with_host_host (s : State) (x : Memory) : ({ s with host := x } : State).host = x := rfl
@[simp] theorem State.with_host_loft (s : State) (x : Memory) : ({ s with host := x } : State).loft = s.loft := rfl
@[simp] theorem State.with_host_hpt (s : State) (x : Memory) : ({ s with host := x } : State).hpt = s.hpt := rfl
@[simp] theorem State.with_host_pending (s : State) (x : Memory) : ({ s with host := x } : State).pending = s.pending := rfl
@[simp] theorem State.with_loft_env (s : State) (x : Memory) : ({ s with loft := x } : State).env = s.env := rfl
@[simp] theorem State.with_loft_dev (s : State) (x : Memory) : ({ s with loft := x } : State).dev = s.dev := rfl
@[simp] theorem State.with_loft_host (s : State) (x : Memory) : ({ s with loft := x } : State).host = s.host := rfl
@[simp] theorem State.with_loft_loft (s : State) (x : Memory) : ({ s with loft := x } : State).loft = x := rfl
@[simp] theorem State.with_loft_hpt (s : State) (x : Memory) : ({ s with loft := x } : State).hpt = s.hpt := rfl
@[simp] theorem State.with_loft_pending (s : State) (x : Memory) : ({ s with loft := x } : State).pending = s.pending := rfl
@[simp] theorem State.with_hpt_env (s : State) (x : Tbl Word) : ({ s with hpt := x } : State).env = s.env := rfl
@[simp] theorem State.with_hpt_dev (s : State) (x : Tbl Word) : ({ s with hpt := x } : State).dev = s.dev := rfl
@[simp] theorem State.with_hpt_host (s : State) (x : Tbl Word) : ({ s with hpt := x } : State).host = s.host := rfl
@[simp] theorem State.with_hpt_loft (s : State) (x : Tbl Word) : ({ s with hpt := x } : State).loft = s.loft := rfl
@[simp] theorem State.with_hpt_hpt (s : State) (x : Tbl Word) : ({ s with hpt := x } : State).hpt = x := rfl
@[simp] theorem State.with_hpt_pending (s : State) (x : Tbl Word) : ({ s with hpt := x } : State).pending = s.pending := rfl
@[simp] theorem State.with_pending_env (s : State) (x : List Instr) : ({ s with pending := x } : State).env = s.env := rfl
@[simp] theorem State.with_pending_dev (s : State) (x : List Instr) : ({ s with pending := x } : State).dev = s.dev := rfl
@[simp] theorem State.with_pending_host (s : State) (x : List Instr) : ({ s with pending := x } : State).host = s.host := rfl
@[simp] theorem State.with_pending_loft (s : State) (x : List Instr) : ({ s with pending := x } : State).loft = s.loft := rfl
@[simp] theorem State.with_pending_hpt (s : State) (x : List Instr) : ({ s with pending := x } : State).hpt = s.hpt := rfl
@[simp] theorem State.with_pending_pending (s : State) (x : List Instr) : ({ s with pending := x } : State).pending = x := rfl

end Sys2Proof.Machine
end

