-- ==== Sys2Proof/Laws/Events.lean ====
section
/-! SUPPORT. Everything that an event and a counter change (R328-R331, R337, R437-R441). -/
namespace Sys2Proof.Machine

/-- One counter's add changes counters, their values in this core cycle, their contexts, and the values kept for snapshots
only. -/
theorem pmuPlus_spec (e : Env) (i n : Nat) (ctx : FrCtx) (d : Dev) :
    ∃ a b c s, pmuPlus e i n ctx d = { d with pmu := { d.pmu with ctr := a, now := b, ctx := c, saved := s } } := by
  unfold pmuPlus
  split
  · exact ⟨d.pmu.ctr, d.pmu.now, d.pmu.ctx, d.pmu.saved, rfl⟩
  · exact ⟨_, _, _, _, rfl⟩

/-- A performance add changes counters, their values in this core cycle, their contexts, and the values kept for snapshots
only. -/
theorem pmuAdd_spec (e : Env) (sel : Nat → Bool) (n : Nat) (ctx : FrCtx) (d : Dev) :
    ∃ a b c s, pmuAdd e sel n ctx d = { d with pmu := { d.pmu with ctr := a, now := b, ctx := c, saved := s } } := by
  unfold pmuAdd
  split
  · exact ⟨d.pmu.ctr, d.pmu.now, d.pmu.ctx, d.pmu.saved, rfl⟩
  · rename_i hz
    clear hz
    generalize pmuEnabled e = l
    induction l generalizing d with
    | nil => exact ⟨d.pmu.ctr, d.pmu.now, d.pmu.ctx, d.pmu.saved, rfl⟩
    | cons i r ih =>
      simp only [List.foldl_cons]
      split
      · obtain ⟨a, b, c, s, h⟩ := pmuPlus_spec e i n ctx d
        obtain ⟨a', b', c', s', h'⟩ := ih (pmuPlus e i n ctx d)
        refine ⟨a', b', c', s', ?_⟩
        rw [h', h]
      · exact ih d

/-- The messages of vectors change pending bits and the record of messages only. -/
theorem vecEdge_spec (e0 : Env) (d0 : Dev) (e1 : Env) (vs : List Nat) (d : Dev) :
    ∃ a b, vecEdge e0 d0 e1 vs d = { d with evt := { d.evt with pba := a, sent := b } } := by
  unfold vecEdge
  generalize hd : (fun (x : Dev) v => if vecPending e1 x v && !(vecPending e0 d0 v) then sendMsix v x else x) = f
  have hf : ∀ x v, ∃ a b, f x v = { x with evt := { x.evt with pba := a, sent := b } } := by
    intro x v
    subst hd
    simp only [sendMsix]
    split
    · split
      · exact ⟨_, _, rfl⟩
      · exact ⟨_, _, rfl⟩
    · exact ⟨_, _, rfl⟩
  clear hd
  suffices h : ∀ (l : List Nat) (x : Dev), ∃ a b, l.foldl f x = { x with evt := { x.evt with pba := a, sent := b } } from h vs d
  intro l
  induction l with
  | nil => intro x; exact ⟨x.evt.pba, x.evt.sent, rfl⟩
  | cons v r ih =>
    intro x
    obtain ⟨a, b, h⟩ := hf x v
    obtain ⟨a', b', h'⟩ := ih (f x v)
    refine ⟨a', b', ?_⟩
    rw [List.foldl_cons, h', h]

/-- Everything an event changes: its own count, messages, and performance counters (R437, R440, R337). -/
theorem raiseEv_spec (e : Env) (g i : Nat) (d : Dev) :
    ∃ p q a b c s, raiseEv e g i d = { d with
      evt := { d.evt with cnt := tset 0 d.evt.cnt (8 * g + i) (d.evCnt g i + 1), pba := p, sent := q }
      pmu := { d.pmu with ctr := a, now := b, ctx := c, saved := s } } := by
  unfold raiseEv
  simp only
  generalize hx : (if d.pmu.freeze then _ else _ : Dev) = x
  have h : ∃ a b c s, x = { d with
      evt := { d.evt with cnt := tset 0 d.evt.cnt (8 * g + i) (d.evCnt g i + 1) }
      pmu := { d.pmu with ctr := a, now := b, ctx := c, saved := s } } := by
    subst hx
    split
    · exact ⟨d.pmu.ctr, d.pmu.now, d.pmu.ctx, d.pmu.saved, rfl⟩
    · obtain ⟨a, b, c, s, h⟩ := pmuAdd_spec e (fun w => bits w 31 29 == 5 && 4 * bits w 23 0 == cntOffset g i) 1 none
        { d with evt := { d.evt with cnt := tset 0 d.evt.cnt (8 * g + i) (d.evCnt g i + 1) } }
      exact ⟨a, b, c, s, h⟩
  obtain ⟨a, b, c, s, h⟩ := h
  obtain ⟨p, q, h'⟩ := vecEdge_spec e d e [bits (grpCfg e g) 10 0] x
  exact ⟨p, q, a, b, c, s, by rw [h', h]⟩

/-- The count of the event itself, and of every other (R437). -/
theorem raiseEv_evCnt (e : Env) (g i : Nat) (d : Dev) (g' i' : Nat) :
    (raiseEv e g i d).evCnt g' i' = if 8 * g' + i' = 8 * g + i then d.evCnt g i + 1 else d.evCnt g' i' := by
  obtain ⟨p, q, a, b, c, s, h⟩ := raiseEv_spec e g i d
  rw [h]
  exact tget_tset ..

/-- An event leaves everything but event counts, messages and performance counters. -/
theorem raiseEv_frame (e : Env) (g i : Nat) (d : Dev) : { raiseEv e g i d with evt := d.evt, pmu := d.pmu } = d := by
  obtain ⟨p, q, a, b, c, s, h⟩ := raiseEv_spec e g i d
  rw [h]

@[simp] theorem raiseEv_evAck (e : Env) (g i : Nat) (d : Dev) : (raiseEv e g i d).evt.ack = d.evt.ack := by
  obtain ⟨p, q, a, b, c, s, h⟩ := raiseEv_spec e g i d
  rw [h]

/-- Everything a statistics counter's advance changes (R328, R329). -/
theorem bump_spec (e : Env) (off n : Nat) (sel : Nat → Bool) (ctx : FrCtx) (d : Dev) :
    ∃ st ev pm, bump e off n sel ctx d = { d with stat := st, evt := ev, pmu := pm } ∧
      (∀ j, tget 0 st.live j = if j = off / 8 ∧ n ≠ 0 then (tget 0 d.stat.live j + n) % 2 ^ 48 else tget 0 d.stat.live j) ∧
      st.held = d.stat.held ∧ ev.ack = d.evt.ack := by
  unfold bump
  split
  · rename_i hn
    exact ⟨d.stat, d.evt, d.pmu, rfl, by simp [hn], rfl, rfl⟩
  · rename_i hn
    simp only
    obtain ⟨a, b, c, s, h⟩ := pmuAdd_spec e sel n ctx { snapSave e (off / 8) (tget 0 d.stat.live (off / 8)) d with
      stat := { (snapSave e (off / 8) (tget 0 d.stat.live (off / 8)) d).stat with
        live := tset 0 d.stat.live (off / 8) ((tget 0 d.stat.live (off / 8) + n) % 2 ^ 48) } }
    have hs : (snapSave e (off / 8) (tget 0 d.stat.live (off / 8)) d).stat.live = d.stat.live := rfl
    rw [hs, h]
    have hl : ∀ j, tget 0 (tset 0 d.stat.live (off / 8) ((tget 0 d.stat.live (off / 8) + n) % 2 ^ 48)) j =
        if j = off / 8 ∧ n ≠ 0 then (tget 0 d.stat.live j + n) % 2 ^ 48 else tget 0 d.stat.live j := by
      intro j
      rw [tget_tset]
      by_cases hj : j = off / 8
      · subst hj; simp [hn]
      · simp [hj]
    split
    · generalize hx : ({ snapSave e (off / 8) (tget 0 d.stat.live (off / 8)) d with
        stat := { (snapSave e (off / 8) (tget 0 d.stat.live (off / 8)) d).stat with
          live := tset 0 d.stat.live (off / 8) ((tget 0 d.stat.live (off / 8) + n) % 2 ^ 48)
          halfLog := tset 0 d.stat.halfLog ((d.evCnt 134 2).toNat % 256) (off / 4) }
        pmu := { d.pmu with ctr := a, now := b, ctx := c, saved := s } } : Dev) = x
      obtain ⟨p, q, a', b', c', s', h'⟩ := raiseEv_spec e 134 2 x
      subst hx
      exact ⟨_, _, _, h', hl, rfl, rfl⟩
    · exact ⟨_, _, _, rfl, hl, rfl, rfl⟩

/-- A counter's advance leaves everything but statistics, events and performance counters. -/
theorem bump_frame (e : Env) (off n : Nat) (sel : Nat → Bool) (ctx : FrCtx) (d : Dev) :
    { bump e off n sel ctx d with stat := d.stat, evt := d.evt, pmu := d.pmu } = d := by
  obtain ⟨st, ev, pm, h, -⟩ := bump_spec e off n sel ctx d
  rw [h]

/-- The counter named advances modulo 2^48 and no other does. -/
theorem bump_live (e : Env) (off n : Nat) (sel : Nat → Bool) (ctx : FrCtx) (d : Dev) (j : Nat) :
    tget 0 (bump e off n sel ctx d).stat.live j =
      if j = off / 8 ∧ n ≠ 0 then (tget 0 d.stat.live j + n) % 2 ^ 48 else tget 0 d.stat.live j := by
  obtain ⟨st, ev, pm, h, hl, -⟩ := bump_spec e off n sel ctx d
  rw [h]
  exact hl j

end Sys2Proof.Machine
end

