-- ==== Sys2Proof/Laws/Frames.lean ====
section
/-! SUPPORT. Which parts of the device each shared operation can change, up to the scheduler decision. -/
namespace Sys2Proof.Machine

/-! ## The relation -/

theorem Dev.sameBut_refl (l : List Part) (d : Dev) : d.sameBut l d := by
  intro p _
  cases p <;> simp [Dev.agree]

theorem Dev.agree_trans {d d' d'' : Dev} {p : Part} (h : d.agree d' p) (h' : d'.agree d'' p) : d.agree d'' p := by
  cases p <;> simp_all [Dev.agree]

theorem Dev.sameBut_trans {l : List Part} {d d' d'' : Dev} (h : d.sameBut l d') (h' : d'.sameBut l d'') :
    d.sameBut l d'' := fun p hp => Dev.agree_trans (h p hp) (h' p hp)

theorem Dev.sameBut_mono {l l' : List Part} {d d' : Dev} (h : d.sameBut l d') (hl : ∀ p, p ∈ l → p ∈ l') :
    d.sameBut l' d' := fun p hp => h p (fun hm => hp (hl p hm))

/-- A fold of steps that each keep the relation keeps it. -/
theorem Dev.sameBut_foldl {β : Type} {l : List Part} (f : Dev → β → Dev) (h : ∀ (x : Dev) b, x.sameBut l (f x b)) (bs : List β)
    (d : Dev) : d.sameBut l (bs.foldl f d) := by
  induction bs generalizing d with
  | nil => exact Dev.sameBut_refl l d
  | cons b r ih => exact Dev.sameBut_trans (h d b) (ih _)

/-! ## One part replaced -/

theorem Dev.same_evt (d : Dev) (x : EvtSt) : d.sameBut [.evt] { d with evt := x } := by
  intro p hp
  cases p <;> first | rfl | exact ⟨rfl, rfl⟩ | exact ⟨rfl, rfl, rfl⟩ | exact absurd (List.mem_singleton_self _) hp

theorem Dev.same_stat (d : Dev) (x : StatSt) : d.sameBut [.stat] { d with stat := x } := by
  intro p hp
  cases p <;> first | rfl | exact ⟨rfl, rfl⟩ | exact ⟨rfl, rfl, rfl⟩ | exact absurd (List.mem_singleton_self _) hp

theorem Dev.same_pmu (d : Dev) (x : PmuSt) : d.sameBut [.pmu] { d with pmu := x } := by
  intro p hp
  cases p <;> first | rfl | exact ⟨rfl, rfl⟩ | exact ⟨rfl, rfl, rfl⟩ | exact absurd (List.mem_singleton_self _) hp

theorem Dev.same_mgmt (d : Dev) (x : MgmtSt) : d.sameBut [.mgmt] { d with mgmt := x } := by
  intro p hp
  cases p <;> first | rfl | exact ⟨rfl, rfl⟩ | exact ⟨rfl, rfl, rfl⟩ | exact absurd (List.mem_singleton_self _) hp

theorem Dev.same_pwr (d : Dev) (x : PwrSt) : d.sameBut [.pwr] { d with pwr := x } := by
  intro p hp
  cases p <;> first | rfl | exact ⟨rfl, rfl⟩ | exact ⟨rfl, rfl, rfl⟩ | exact absurd (List.mem_singleton_self _) hp

theorem Dev.same_ports (d : Dev) (x : Tbl PortSt) : d.sameBut [.ports] { d with ports := x } := by
  intro p hp
  cases p <;> first | rfl | exact ⟨rfl, rfl⟩ | exact ⟨rfl, rfl, rfl⟩ | exact absurd (List.mem_singleton_self _) hp

theorem Dev.same_blks (d : Dev) (x : Tbl BlkSt) : d.sameBut [.blks] { d with blks := x } := by
  intro p hp
  cases p <;> first | rfl | exact ⟨rfl, rfl⟩ | exact ⟨rfl, rfl, rfl⟩ | exact absurd (List.mem_singleton_self _) hp

theorem Dev.same_frames (d : Dev) (x : Tbl Frame) : d.sameBut [.frames] { d with frames := x } := by
  intro p hp
  cases p <;> first | rfl | exact ⟨rfl, rfl⟩ | exact ⟨rfl, rfl, rfl⟩ | exact absurd (List.mem_singleton_self _) hp

theorem Dev.same_sends (d : Dev) (x : Tbl Send) : d.sameBut [.sends] { d with sends := x } := by
  intro p hp
  cases p <;> first | rfl | exact ⟨rfl, rfl⟩ | exact ⟨rfl, rfl, rfl⟩ | exact absurd (List.mem_singleton_self _) hp

theorem Dev.same_asms (d : Dev) (x : Tbl Asm) : d.sameBut [.asms] { d with asms := x } := by
  intro p hp
  cases p <;> first | rfl | exact ⟨rfl, rfl⟩ | exact ⟨rfl, rfl, rfl⟩ | exact absurd (List.mem_singleton_self _) hp

theorem Dev.same_copies (d : Dev) (x : Tbl Copy) : d.sameBut [.copies] { d with copies := x } := by
  intro p hp
  cases p <;> first | rfl | exact ⟨rfl, rfl⟩ | exact ⟨rfl, rfl, rfl⟩ | exact absurd (List.mem_singleton_self _) hp

theorem Dev.same_threads (d : Dev) (x : Tbl Thread) : d.sameBut [.threads] { d with threads := x } := by
  intro p hp
  cases p <;> first | rfl | exact ⟨rfl, rfl⟩ | exact ⟨rfl, rfl, rfl⟩ | exact absurd (List.mem_singleton_self _) hp

theorem Dev.same_frozen (d : Dev) (x : Bool) : d.sameBut [.frozen] { d with frozen := x } := by
  intro p hp
  cases p <;> first | rfl | exact ⟨rfl, rfl⟩ | exact ⟨rfl, rfl, rfl⟩ | exact absurd (List.mem_singleton_self _) hp

theorem Dev.same_rs (d : Dev) (x : RsSt) : d.sameBut [.rs] { d with rs := x } := by
  intro p hp
  cases p <;> first | rfl | exact ⟨rfl, rfl⟩ | exact ⟨rfl, rfl, rfl⟩ | exact absurd (List.mem_singleton_self _) hp

theorem Dev.same_sets (d : Dev) (x : Tbl SetSlot) : d.sameBut [.sets] { d with sets := x } := by
  intro p hp
  cases p <;> first | rfl | exact ⟨rfl, rfl⟩ | exact ⟨rfl, rfl, rfl⟩ | exact absurd (List.mem_singleton_self _) hp

theorem Dev.same_slate (d : Dev) (x : SlateSt) : d.sameBut [.slate] { d with slate := x } := by
  intro p hp
  cases p <;> first | rfl | exact ⟨rfl, rfl⟩ | exact ⟨rfl, rfl, rfl⟩ | exact absurd (List.mem_singleton_self _) hp

theorem Dev.same_loft (d : Dev) (x : LoftSt) : d.sameBut [.loft] { d with loft := x } := by
  intro p hp
  cases p <;> first | rfl | exact ⟨rfl, rfl⟩ | exact ⟨rfl, rfl, rfl⟩ | exact absurd (List.mem_singleton_self _) hp

theorem Dev.same_gut (d : Dev) (x : GutSt) : d.sameBut [.gut] { d with gut := x } := by
  intro p hp
  cases p <;> first | rfl | exact ⟨rfl, rfl⟩ | exact ⟨rfl, rfl, rfl⟩ | exact absurd (List.mem_singleton_self _) hp

theorem Dev.same_qtz (d : Dev) (x : QtzSt) : d.sameBut [.qtz] { d with qtz := x } := by
  intro p hp
  cases p <;> first | rfl | exact ⟨rfl, rfl⟩ | exact ⟨rfl, rfl, rfl⟩ | exact absurd (List.mem_singleton_self _) hp

theorem Dev.same_mdio (d : Dev) (x : Tbl MdioSt) : d.sameBut [.mdio] { d with mdio := x } := by
  intro p hp
  cases p <;> first | rfl | exact ⟨rfl, rfl⟩ | exact ⟨rfl, rfl, rfl⟩ | exact absurd (List.mem_singleton_self _) hp

theorem Dev.same_twin (d : Dev) (x : TwinSt) : d.sameBut [.twin] { d with twin := x } := by
  intro p hp
  cases p <;> first | rfl | exact ⟨rfl, rfl⟩ | exact ⟨rfl, rfl, rfl⟩ | exact absurd (List.mem_singleton_self _) hp

theorem Dev.same_rings (d : Dev) (x : Tbl RingSt) : d.sameBut [.rings] { d with rings := x } := by
  intro p hp
  cases p <;> first | rfl | exact ⟨rfl, rfl⟩ | exact ⟨rfl, rfl, rfl⟩ | exact absurd (List.mem_singleton_self _) hp

theorem Dev.same_cmd (d : Dev) (x : CmdSt) : d.sameBut [.cmd] { d with cmd := x } := by
  intro p hp
  cases p <;> first | rfl | exact ⟨rfl, rfl⟩ | exact ⟨rfl, rfl, rfl⟩ | exact absurd (List.mem_singleton_self _) hp

theorem Dev.same_gns (d : Dev) (x : GnsSt) : d.sameBut [.gns] { d with gns := x } := by
  intro p hp
  cases p <;> first | rfl | exact ⟨rfl, rfl⟩ | exact ⟨rfl, rfl, rfl⟩ | exact absurd (List.mem_singleton_self _) hp

theorem Dev.same_free (d : Dev) (x : Nat) : d.sameBut [.free] { d with free := x } := by
  intro p hp
  cases p <;> first | rfl | exact ⟨rfl, rfl⟩ | exact ⟨rfl, rfl, rfl⟩ | exact absurd (List.mem_singleton_self _) hp

theorem PortSt.calm_refl (p : PortSt) : p.calm p := ⟨rfl, fun _ => ⟨rfl, rfl⟩⟩

theorem PortSt.calm_trans {p q r : PortSt} (h : p.calm q) (h' : q.calm r) : p.calm r :=
  ⟨h'.1.trans h.1, fun k => ⟨(h'.2 k).1.trans (h.2 k).1, (h'.2 k).2.trans (h.2 k).2⟩⟩

theorem Dev.decided_refl (l : List Part) (d : Dev) : d.decided l d :=
  ⟨Dev.sameBut_refl _ d, fun _ => PortSt.calm_refl _, fun _ _ _ _ => rfl, fun _ _ _ _ => rfl⟩

theorem Dev.decided_trans {l : List Part} {d d' d'' : Dev} (h : d.decided l d') (h' : d'.decided l d'') :
    d.decided l d'' :=
  ⟨Dev.sameBut_trans h.1 h'.1, fun m => PortSt.calm_trans (h.2.1 m) (h'.2.1 m),
    fun g i hg hi => (h'.2.2.1 g i hg hi).trans (h.2.2.1 g i hg hi),
    fun m i hm hi => (h'.2.2.2 m i hm hi).trans (h.2.2.2 m i hm hi)⟩

theorem Dev.decided_mono {l l' : List Part} {d d' : Dev} (h : d.decided l d') (hl : ∀ p, p ∈ l → p ∈ l') :
    d.decided l' d' := by
  refine ⟨Dev.sameBut_mono h.1 ?_, h.2⟩
  intro p hp
  simp only [List.mem_append] at hp ⊢
  exact hp.imp id (hl p)

theorem Dev.decided_foldl {β : Type} {l : List Part} (f : Dev → β → Dev) (h : ∀ (x : Dev) b, x.decided l (f x b)) (bs : List β)
    (d : Dev) : d.decided l (bs.foldl f d) := by
  induction bs generalizing d with
  | nil => exact Dev.decided_refl l d
  | cons b r ih => exact Dev.decided_trans (h d b) (ih _)

/-- A change outside the ports, the counters and the events is a decision's change when its parts are. -/
theorem Dev.decided_of_sameBut {l l' : List Part} {d d' : Dev} (h : d.sameBut l' d') (hp : d'.ports = d.ports)
    (he : d'.evt = d.evt) (hs : d'.stat = d.stat) (hl : ∀ p, p ∈ l' → p ∈ egressParts ++ l) : d.decided l d' := by
  refine ⟨Dev.sameBut_mono h hl, fun m => ?_, fun g i _ _ => ?_, fun m i _ _ => ?_⟩
  · simp only [Dev.port, hp]; exact PortSt.calm_refl _
  · simp only [Dev.evCnt, he]
  · simp only [portCnt, hs]

/-- A change of one port that keeps what a decision keeps. -/
theorem Dev.decided_setPort {d : Dev} {n : Nat} {p : PortSt} (h : (d.port n).calm p) : d.decided [] (d.setPort n p) := by
  refine ⟨Dev.sameBut_mono (Dev.same_ports _ _) (by decide), fun m => ?_, fun _ _ _ _ => rfl, fun _ _ _ _ => rfl⟩
  rw [Dev.setPort_port]
  split
  · rename_i hm; subst hm; exact h
  · exact PortSt.calm_refl _

theorem Dev.decided_onPort {d : Dev} {n : Nat} {f : PortSt → PortSt} (h : ∀ p : PortSt, p.calm (f p)) :
    d.decided [] (d.onPort n f) := Dev.decided_setPort (h _)

/-- A change of a port that keeps its watchdogs. -/
theorem PortSt.calm_of {p q : PortSt} (h : q.still = p.still) (hw : q.wd = p.wd) : p.calm q :=
  ⟨h, fun k => by simp [PortSt.dog, hw]⟩

/-! ## Events and counters -/

theorem raiseEv_same (e : Env) (g i : Nat) (d : Dev) : d.sameBut [.evt, .pmu] (raiseEv e g i d) := by
  obtain ⟨p, q, a, b, c, s, h⟩ := raiseEv_spec e g i d
  rw [h]
  exact Dev.sameBut_trans (d' := { d with evt := _ }) (Dev.sameBut_mono (Dev.same_evt _ _) (by decide))
    (Dev.sameBut_mono (Dev.same_pmu _ _) (by decide))

theorem bump_same (e : Env) (off n : Nat) (sel : Nat → Bool) (ctx : FrCtx) (d : Dev) :
    d.sameBut [.stat, .evt, .pmu] (bump e off n sel ctx d) := by
  obtain ⟨st, ev, pm, h, -⟩ := bump_spec e off n sel ctx d
  rw [h]
  exact Dev.sameBut_trans (Dev.sameBut_mono (Dev.same_stat d st) (by decide))
    (Dev.sameBut_trans (Dev.sameBut_mono (Dev.same_evt _ ev) (by decide)) (Dev.sameBut_mono (Dev.same_pmu _ pm) (by decide)))

@[simp] theorem raiseEv_ports (e : Env) (g i : Nat) (d : Dev) : (raiseEv e g i d).ports = d.ports :=
  raiseEv_same e g i d .ports (by decide)

@[simp] theorem bump_ports (e : Env) (off n : Nat) (sel : Nat → Bool) (ctx : FrCtx) (d : Dev) :
    (bump e off n sel ctx d).ports = d.ports := bump_same e off n sel ctx d .ports (by decide)

/-- An event of a group from 112 on is one a decision may raise. -/
theorem raiseEv_decided (e : Env) (g i : Nat) (d : Dev) (h : 112 ≤ g) : d.decided [] (raiseEv e g i d) := by
  refine ⟨Dev.sameBut_mono (raiseEv_same e g i d) (by decide), fun m => ?_, fun g' i' hg hi => ?_, fun m j _ _ => ?_⟩
  · simp only [Dev.port, raiseEv_ports]; exact PortSt.calm_refl _
  · rw [raiseEv_evCnt, if_neg (by omega)]
  · have := raiseEv_same e g i d .stat (by decide)
    simp only [Dev.agree] at this
    simp only [portCnt, this]

/-- Only the event tables of half range can change with a counter (R329). -/
theorem bump_evCnt (e : Env) (off n : Nat) (sel : Nat → Bool) (ctx : FrCtx) (d : Dev) (g i : Nat)
    (h : 8 * g + i ≠ 8 * 134 + 2) : (bump e off n sel ctx d).evCnt g i = d.evCnt g i := by
  unfold bump
  split
  · rfl
  · simp only
    generalize hx : ({ snapSave e (off / 8) (tget 0 d.stat.live (off / 8)) d with stat := _ } : Dev) = x
    have hev : x.evt = d.evt := by subst hx; rfl
    obtain ⟨a, b, c, s, h1⟩ := pmuAdd_spec e sel n ctx x
    rw [h1]
    split
    · rw [raiseEv_evCnt, if_neg h]; simp only [Dev.evCnt, hev]
    · simp only [Dev.evCnt, hev]

/-- A counter outside the port sets' first 55 is one a decision may advance. -/
theorem bump_decided (e : Env) (off n : Nat) (sel : Nat → Bool) (ctx : FrCtx) (d : Dev)
    (h : ∀ m i, m < 96 → i < 55 → (0xC10000 + 0x800 * m + 8 * i) / 8 ≠ off / 8) :
    d.decided [] (bump e off n sel ctx d) := by
  refine ⟨Dev.sameBut_mono (bump_same e off n sel ctx d) (by decide), fun m => ?_, fun g i hg hi => ?_, fun m i hm hi => ?_⟩
  · simp only [Dev.port, bump_ports]; exact PortSt.calm_refl _
  · exact bump_evCnt e off n sel ctx d g i (by omega)
  · simp only [portCnt, bump_live, h m i hm hi, false_and, if_false]

theorem bumpPort_decided (e : Env) (n i k : Nat) (ctx : FrCtx) (d : Dev) (h : 55 ≤ i) (hi : i < 256) :
    d.decided [] (bumpPort e n i k ctx d) := bump_decided _ _ _ _ _ _ (fun m j _ _ => by omega)

theorem bumpQ_decided (e : Env) (n q i k : Nat) (ctx : FrCtx) (d : Dev) : d.decided [] (bumpQ e n q i k ctx d) :=
  bump_decided _ _ _ _ _ _ (fun m j _ _ => by omega)

theorem bumpBlk_decided (e : Env) (b i k : Nat) (ctx : FrCtx) (d : Dev) : d.decided [] (bumpBlk e b i k ctx d) :=
  bump_decided _ _ _ _ _ _ (fun m j _ _ => by omega)

theorem bumpDev_decided (e : Env) (i k : Nat) (ctx : FrCtx) (d : Dev) : d.decided [] (bumpDev e i k ctx d) :=
  bump_decided _ _ _ _ _ _ (fun m j _ _ => by omega)

theorem cycAdd_decided (e : Env) (b i k : Nat) (d : Dev) : d.decided [] (cycAdd e b i k d) :=
  Dev.decided_of_sameBut (Dev.same_pmu _ _) rfl rfl rfl (by decide)

theorem twinMark_decided (e : Env) (o k : Nat) (d : Dev) : d.decided [] (twinMark e o k d) := by
  unfold twinMark
  dsimp only
  split
  · exact Dev.decided_of_sameBut (Dev.same_twin _ _) rfl rfl rfl (by decide)
  · exact Dev.decided_refl _ _

/-- A block changed alone. -/
theorem setBlk_decided (d : Dev) (b : Nat) (x : BlkSt) : d.decided [] (d.setBlk b x) :=
  Dev.decided_of_sameBut (Dev.same_blks _ _) rfl rfl rfl (by decide)

theorem onBlk_decided (d : Dev) (b : Nat) (f : BlkSt → BlkSt) : d.decided [] (d.onBlk b f) := setBlk_decided ..

theorem setAsm_decided (d : Dev) (i : Nat) (x : Asm) : d.decided [] (d.setAsm i x) :=
  Dev.decided_of_sameBut (Dev.same_asms _ _) rfl rfl rfl (by decide)

theorem setCopy_decided (d : Dev) (i : Nat) (x : Copy) : d.decided [] (d.setCopy i x) :=
  Dev.decided_of_sameBut (Dev.same_copies _ _) rfl rfl rfl (by decide)

/-! ## Gutter records and tiles -/

theorem gutRecord_decided (e : Env) (a b c t dp x : Nat) (r : RecInfo) (d : Dev) :
    d.decided [] (gutRecord e a b c t dp x r d) := by
  simp only [gutRecord]
  split
  · exact Dev.decided_refl _ _
  · split
    · exact bumpDev_decided ..
    · exact Dev.decided_of_sameBut (Dev.same_gut _ _) rfl rfl rfl (by decide)

theorem dropCapture_decided (e : Env) (c b : Nat) (r : RecInfo) (d : Dev) : d.decided [] (dropCapture e c b r d) := by
  have hg : ∀ n, d.decided [] { d with gut := { d.gut with dropN := n } } := fun n =>
    Dev.decided_of_sameBut (Dev.same_gut _ _) rfl rfl rfl (by decide)
  simp only [dropCapture]
  split
  · exact Dev.decided_refl _ _
  · split
    · exact hg _
    · exact Dev.decided_trans (hg 0) (gutRecord_decided ..)

theorem ovcUpdate_decided (e : Env) (b : Nat) (d : Dev) : d.decided [] (ovcUpdate e b d) := by
  simp only [ovcUpdate]
  split
  · exact Dev.decided_refl _ _
  · split
    · exact Dev.decided_trans (onBlk_decided ..) (raiseEv_decided _ _ _ _ (by omega))
    · exact onBlk_decided ..

theorem freeTile_decided (e : Env) (b t : Nat) (d : Dev) : d.decided [] (freeTile e b t d) := by
  simp only [freeTile]
  split
  · exact Dev.decided_trans (cycAdd_decided e b 12 1 d) (Dev.decided_trans (setBlk_decided ..)
      (Dev.decided_trans (raiseEv_decided _ _ _ _ (by omega)) (ovcUpdate_decided ..)))
  · exact Dev.decided_trans (cycAdd_decided e b 12 1 d) (setBlk_decided ..)

theorem freeTiles_decided (e : Env) (b : Nat) (l : List Nat) (d : Dev) : d.decided [] (freeTiles e b l d) :=
  Dev.decided_foldl _ (fun x t => freeTile_decided e b t x) l d

/-- Loft's record changed alone. -/
theorem loft_decided (d : Dev) (x : LoftSt) : d.decided [] { d with loft := x } :=
  Dev.decided_of_sameBut (Dev.same_loft _ _) rfl rfl rfl (by decide)

theorem askPurlin_decided (i : Nat) (a : AskAt) (d : Dev) : d.decided [] (askPurlin i a d) := loft_decided ..

theorem leafAsk_decided (u : Nat) (d : Dev) : d.decided [] (leafAsk d u) := by
  unfold leafAsk
  split
  · exact Dev.decided_refl _ _
  · exact askPurlin_decided ..

theorem freeLoftTile_decided (e : Env) (u : Nat) (d : Dev) : d.decided [] (freeLoftTile e d u) := by
  simp only [freeLoftTile]
  split
  · exact Dev.decided_trans (leafAsk_decided u d) (Dev.decided_trans (loft_decided _ _) (raiseEv_decided _ _ _ _ (by omega)))
  · exact Dev.decided_trans (leafAsk_decided u d) (loft_decided _ _)

theorem touchTiles_decided (b : Nat) (l : List Nat) (d : Dev) : d.decided [] (touchTiles b l d) := onBlk_decided ..

/-! ## Watchdogs, shapers, heads of queues -/

theorem dogUpdate_calm (e : Env) (n k : Nat) (p : PortSt) : p.calm (dogUpdate e n k p) := by
  have key : ∀ w : Watchdog, w.hold = (p.dog k).hold → w.ignore = (p.dog k).ignore →
      p.calm (if w = p.dog k then p else { p with wd := tput p.wd k w }) := by
    intro w h1 h2
    split
    · exact PortSt.calm_refl _
    · refine ⟨rfl, fun j => ?_⟩
      simp only [PortSt.dog, tget_tput] at *
      split
      · rename_i hj; subst hj; exact ⟨h1, h2⟩
      · exact ⟨rfl, rfl⟩
  unfold dogUpdate
  dsimp only
  apply key
  · split <;> rfl
  · split <;> rfl

theorem calm_foldl {β : Type} (f : PortSt → β → PortSt) (h : ∀ (p : PortSt) b, p.calm (f p b)) (l : List β) (p : PortSt) :
    p.calm (l.foldl f p) := by
  induction l generalizing p with
  | nil => exact PortSt.calm_refl p
  | cons b r ih => exact PortSt.calm_trans (h p b) (ih _)

theorem dogsUpdate_decided (e : Env) (n : Nat) (d : Dev) : d.decided [] (dogsUpdate e n d) :=
  Dev.decided_onPort (fun p => calm_foldl _ (fun p k => dogUpdate_calm e n k p) _ p)

theorem setBkt_decided (e : Env) (n i : Nat) (v : Int) (d : Dev) : d.decided [] (setBkt e n i v d) :=
  Dev.decided_trans (d' := d.onPort n (fun p => { p with bkt := tput p.bkt i v, bktAt := tput p.bktAt i e.third }))
    (Dev.decided_onPort (fun _ => PortSt.calm_of rfl rfl)) (twinMark_decided ..)

theorem chargeShapers_decided (e : Env) (n q len : Nat) (d : Dev) : d.decided [] (chargeShapers e n q len d) := by
  simp only [chargeShapers]
  split
  · exact Dev.decided_refl _ _
  · refine Dev.decided_foldl _ (fun x i => ?_) _ d
    split
    · exact setBkt_decided ..
    · exact Dev.decided_refl _ _

theorem headFin_decided (d : Dev) (n q c v : Nat) (x : Copy) :
    d.decided [] ((d.setCopy c x).onPort n (fun p => { p with fprev := tset 0 p.fprev q v })) :=
  Dev.decided_trans (setCopy_decided d c x) (Dev.decided_onPort (fun _ => PortSt.calm_of rfl rfl))

theorem fixHead_decided (e : Env) (n q : Nat) (d : Dev) : d.decided [] (fixHead e n q d) := by
  unfold fixHead
  split
  · exact Dev.decided_refl _ _
  · split
    · exact Dev.decided_refl _ _
    · split
      · exact Dev.decided_refl _ _
      · apply headFin_decided

/-! ## Copies and the decision -/

theorem releasePool_decided (b p n : Nat) (d : Dev) : d.decided [] (releasePool b p n d) := onBlk_decided ..

theorem asmSettle_decided (e : Env) (i : Nat) (d : Dev) : d.decided [] (asmSettle e i d) := by
  simp only [asmSettle]
  split
  · exact Dev.decided_refl _ _
  · split
    · exact Dev.decided_trans (freeTiles_decided e _ _ d) (setAsm_decided ..)
    · split
      · exact Dev.decided_trans (freeTiles_decided e _ _ d)
          (Dev.decided_of_sameBut (Dev.same_asms _ _) rfl rfl rfl (by decide))
      · exact Dev.decided_trans (freeTiles_decided e _ _ d) (setAsm_decided ..)

theorem spillSettle_decided (n q : Nat) (d : Dev) : d.decided [] (spillSettle n q d) := by
  unfold spillSettle
  split
  · exact Dev.decided_refl _ _
  · exact Dev.decided_onPort (fun _ => PortSt.calm_of rfl rfl)

theorem unqueue_decided (e : Env) (c : Nat) (d : Dev) : d.decided [] (unqueue e c d) := by
  simp only [unqueue]
  refine Dev.decided_trans ?_ (dogsUpdate_decided ..)
  refine Dev.decided_trans ?_ (fixHead_decided ..)
  refine Dev.decided_trans ?_ (Dev.decided_onPort (fun _ => PortSt.calm_of rfl rfl))
  exact touchTiles_decided ..

theorem tdelCopy_decided (d : Dev) (c : Nat) : d.decided [] { d with copies := tdel d.copies c } :=
  Dev.decided_of_sameBut (Dev.same_copies _ _) rfl rfl rfl (by decide)

theorem releaseCopy_decided (e : Env) (c : Nat) (d : Dev) : d.decided [] (releaseCopy e c d) := by
  simp only [releaseCopy]
  refine Dev.decided_trans ?_ (dogsUpdate_decided ..)
  refine Dev.decided_trans ?_ (fixHead_decided ..)
  refine Dev.decided_trans ?_ (spillSettle_decided ..)
  refine Dev.decided_trans ?_ (asmSettle_decided ..)
  refine Dev.decided_trans ?_ (tdelCopy_decided _ c)
  refine Dev.decided_trans ?_ (setAsm_decided ..)
  refine Dev.decided_trans ?_ (Dev.decided_onPort (fun _ => PortSt.calm_of rfl rfl))
  refine Dev.decided_trans ?_ (Dev.decided_foldl _ (fun x u => freeLoftTile_decided e u x) _ _)
  exact releasePool_decided ..

theorem pushEcho_decided (e : Env) (b p s t c : Nat) (l : List Byte) (d : Dev) : d.decided [] (pushEcho e b p s t c l d) := by
  unfold pushEcho
  dsimp only
  split
  · exact bumpBlk_decided ..
  · exact onBlk_decided ..

theorem echoUnsent_decided (e : Env) (n : Nat) (a : Asm) (d : Dev) : d.decided [] (echoUnsent e n a d) := by
  unfold echoUnsent
  split
  · exact pushEcho_decided ..
  · exact Dev.decided_refl _ _

theorem dropCopy_decided (e : Env) (c code : Nat) (cnt : Dev → Dev) (d : Dev) (h : d.decided [] (cnt d)) :
    d.decided [] (dropCopy e c code cnt d) := by
  simp only [dropCopy]
  refine Dev.decided_trans ?_ (releaseCopy_decided ..)
  have h1 := Dev.decided_trans h (echoUnsent_decided e (d.copy c).port (d.asm (d.copy c).asm) (cnt d))
  split
  · exact h1
  · exact Dev.decided_trans h1 (dropCapture_decided ..)

theorem bedrockWatch_decided (e : Env) (n t : Nat) (a : Asm) (d : Dev) : d.decided [] (bedrockWatch e n t a d) := by
  unfold bedrockWatch
  dsimp only
  generalize min (_ / 65536) _ = x
  repeat' split
  all_goals first
    | exact Dev.decided_refl _ _
    | exact gutRecord_decided ..

theorem startCopy_decided (e : Env) (n q c : Nat) (pre : Option (Nat × Nat)) (d : Dev) :
    d.decided [] (startCopy e n q c pre d) := by
  simp only [startCopy]
  refine Dev.decided_trans ?_ (unqueue_decided ..)
  refine Dev.decided_trans ?_ (Dev.decided_onPort (fun _ => PortSt.calm_of rfl rfl))
  refine Dev.decided_trans ?_ (setCopy_decided ..)
  have h1 : ∀ t x, d.decided [] x → d.decided [] (if q = 15 then bedrockWatch e n t (d.asm (d.copy c).asm) x else x) := by
    intro t x hx
    split
    · exact Dev.decided_trans hx (bedrockWatch_decided ..)
    · exact hx
  apply h1
  refine Dev.decided_trans ?_ (chargeShapers_decided ..)
  have h2 : ∀ x, d.decided [] x → d.decided [] (if q ≤ 13 then x.onPort n (fun p =>
      { p with vtime := (d.copy c).fin.getD p.vtime }) else x) := by
    intro x hx
    split
    · exact Dev.decided_trans hx (Dev.decided_onPort (fun _ => PortSt.calm_of rfl rfl))
    · exact hx
  apply h2
  split
  · exact bumpPort_decided _ _ _ _ _ _ (by omega) (by omega)
  · exact Dev.decided_refl _ _

theorem resumeTx_decided (e : Env) (n : Nat) (t : Tx) (d : Dev) : d.decided [] (resumeTx e n t d) :=
  Dev.decided_onPort (fun _ => PortSt.calm_of rfl rfl)

theorem dropHead_decided (e : Env) (n q c : Nat) (d d' : Dev) (h : dropHead e n q c d = some d') : d.decided [] d' := by
  unfold dropHead at h
  dsimp only at h
  split at h
  · cases h; exact dropCopy_decided _ _ _ _ _ (bumpQ_decided ..)
  · split at h
    · cases h; exact dropCopy_decided _ _ _ _ _ (bumpQ_decided ..)
    · split at h
      · cases h; exact dropCopy_decided _ _ _ _ _ (bumpPort_decided _ _ _ _ _ _ (by omega) (by omega))
      · cases h

theorem schedule_decided (e : Env) (n : Nat) (cut : Bool) (fuel : Nat) (d : Dev) :
    d.decided [] (schedule e n cut fuel d) := by
  induction fuel generalizing d with
  | zero => exact Dev.decided_refl _ _
  | succ k ih =>
    unfold schedule
    dsimp only
    split
    · exact Dev.decided_refl _ _
    · split
      · exact Dev.decided_setPort (PortSt.calm_of rfl rfl)
      · split
        · exact resumeTx_decided ..
        · split
          · exact Dev.decided_refl _ _
          · split
            · exact Dev.decided_refl _ _
            · split
              · rename_i h
                exact Dev.decided_trans (dropHead_decided _ _ _ _ _ _ h) (ih _)
              · exact startCopy_decided ..

/-- Everything a scheduler decision can change (R249, R250). -/
theorem decided_decide (e : Env) (n : Nat) (d : Dev) : d.decided [] (decide_ e n d) := schedule_decided ..

/-- The decision after a preemption changes no more. -/
theorem decideCut_decided (e : Env) (n : Nat) (d : Dev) : d.decided [] (decideCut e n d) := schedule_decided ..

end Sys2Proof.Machine
end

