-- ==== Sys2Proof/WellFormed.lean ====
section
/-! DEFINITION. Which terms of `Instr` are commands the device can meet: the bounds on operands that their
types do not already give. `exec` is total and gives every term a meaning; a term that fails a check here
stands for no event of the device. -/
namespace Sys2Proof

/-- One element of a pattern: a range runs upward (R157). -/
def wfElem : PatElem → Bool
  | .cls rs => rs.all (fun r => decide (r.1.toNat ≤ r.2.toNat))
  | .notCls rs => rs.all (fun r => decide (r.1.toNat ≤ r.2.toNat))
  | _ => true

/-- A compiled pattern has a body, and its anchor is a range (R157, R158). -/
def wfPattern (p : Pattern) : Bool :=
  !p.body.isEmpty && p.body.all wfElem &&
    (match p.anchor with
     | some (a, b) => decide (a ≤ b)
     | none => true)

/-- A delta record is complete: a Quartz record carries all four domains (R371). -/
def wfDelta : DeltaRec → Bool
  | .quartz adj cnt => adj.length == 4 && cnt.length == 4
  | _ => true

/-- The command is well formed. -/
def Instr.wf : Instr → Bool
  | .frameReceiveStart _ bytes _ => !bytes.isEmpty
  | .pfcFrameReceive _ _ times => times.length == 8
  | .micaLoad _ image => image.patterns.all wfPattern
  | .parameterBankWrite offset _ => offset.val % 4 == 0
  | .bar2Write offset _ => offset.val % 4 == 0
  | .deltaRecordReceive r => wfDelta r
  | .hostSendTake _ descs _ => !descs.isEmpty
  | .commandRingFetch desc => desc.length == 16
  | .tempSensorRead sensors => sensors.length == 16
  | _ => true

end Sys2Proof
end

