-- ==== Sys2Proof/Tests/Slice0.lean ====
section
/-! SUPPORT. Checks of the model: terms that the well-formedness check refuses, for each statement states and operands
that meet the hypotheses of its clauses together, and small steps with results worked out from the manual. -/
set_option Elab.async false

namespace Sys2Proof.Tests
open Sys2Proof Sys2Proof.Machine

/-! ## States to test on -/

/-- Registers set to values. -/
def envOf (l : List (Nat × Nat)) : Env := l.foldl (fun e r => e.setReg r.1 r.2) {}
/-- The state after reset with registers set and the device given. -/
def sOf (l : List (Nat × Nat)) (d : Dev) : State := { env := envOf l, dev := d }
/-- The same at a time, in thirds of a nanosecond. -/
def sAt (third : Nat) (l : List (Nat × Nat)) (d : Dev) : State :=
  { env := { envOf l with third := third }, dev := d }
/-- The device after reset with one port as given. -/
def dPort (n : Nat) (p : PortSt) : Dev := ({} : Dev).setPort n p
/-- A port that is up. -/
def upPort : PortSt := { link := true, enabled := true }
/-- The device after reset with port 0 as given and the trunk of block 0 in mode 1. -/
def dUp (p : PortSt) : Dev := { ports := [(0, p)], blks := [(0, { trunkMode := 1 })] }
/-- 64 zero bytes. -/
def z64 : List Byte := zeros 64

/-- With no write waiting no scope is taken. -/
theorem quiet {s : State} (h : s.env.regs.posted = []) (sc : Nat) : s.scopeFree sc := by
  simp [State.scopeFree, h]

/-- Two version slots: version 1 in slot 0 with the words given, both entries at word 0. -/
def slots1 (words : List DWord) : List SlotSt :=
  [{ valid := true, compat := false, state := 2, version := 1, brValid := true, words := words }, {}]
/-- Frame 1 in block 0 with a version, ready for a dispatch entry. -/
def fr1 : Frame := { bytes := zeros 64, rxDone := true, tagged := true, md := mdSet 0 0 23 20 1 }
/-- Frame 1 waits in block 0, and cluster 0 is on and runs version 1. -/
def dWait (br : Bool) (x : BlkSt) : Dev :=
  { blks := [(0, { x with waitBr := if br then [1] else [], waitGen := if br then [] else [1] })]
    frames := [(1, if br then { fr1 with md := mdSet fr1.md 8 27 27 1 } else fr1)]
    rs := { slots := slots1 [0], active := some 1 }, pwr := { on := [(0, true), (1, true)] } }
/-- Thread 0 of engine 0 of cluster 0. -/
def th0 : ThreadId := { cl := 0, eng := 0, thr := 0 }
/-- Thread 0 holds frame 1 and issues a word next, two more words following it. -/
def gs (word : Nat) (x : Thread) (f : Frame) : State :=
  { dev := { threads := [(0, { x with frame := some 1 })], frames := [(1, f)]
             rs := { slots := slots1 [BitVec.ofNat 64 word, 0, 0], active := some 1 }, pwr := { on := [(0, true)] } } }
/-- A word with an opcode and other fields. -/
def gw (op rest : Nat) : Nat := op * 2 ^ 56 + rest

/-- A command slot that waits for its unit: opcode, and the argument words given by index. -/
def slotOf1 (op : Nat) (args : List (Nat × Nat)) : CmdSlot :=
  let desc : List Word := (List.range 16).map (fun i => if i = 0 then w32 (op * 2 ^ 24) else w32 (tget 0 args i))
  { used := true, desc := desc }
/-- The command part with such a slot 0. -/
def cmd1 (op : Nat) (args : List (Nat × Nat)) : CmdSt := { slots := [(0, slotOf1 op args)] }
/-- The command part with a slot 0 whose command runs. -/
def cmdRuns (op : Nat) (args : List (Nat × Nat)) : CmdSt := { slots := [(0, { slotOf1 op args with running := true })] }
/-- Loft in service: channel 0 online. -/
def loftUp : LoftSt := { chans := [(0, { state := 2 })], inter := [0], up := true }

/-- An enabled twin in a role: 0 active, 1 standby. -/
def eTwin (role more : Nat) : Env := envOf [(0x1100000, 0x80000000 + more), (0x1100004, role), (0x1200004, 1)]

/-! ## The well-formedness check refuses -/

theorem test_wf_emptyFrame : (Instr.frameReceiveStart 0 [] false).wf = false := by decide
theorem test_wf_pfcTimes : (Instr.pfcFrameReceive 0 0 []).wf = false := by decide
/-- An image of one pattern. -/
def img (anchor : Option (Nat × Nat)) (body : List PatElem) : MicaImage :=
  let p : Pattern := { number := 0, action := .drop, record := false, anchor := anchor, body := body }
  { crc := 0, forPart := true, patterns := [p], bytes := [] }

theorem test_wf_patternEmpty : (Instr.micaLoad 0 (img none [])).wf = false := by decide
theorem test_wf_patternRange : (Instr.micaLoad 0 (img none [.cls [(2, 1)]])).wf = false := by decide
theorem test_wf_patternRangeOutside : (Instr.micaLoad 0 (img none [.notCls [(2, 1)]])).wf = false := by decide
theorem test_wf_patternAnchor : (Instr.micaLoad 0 (img (some (3, 2)) [.wild])).wf = false := by decide
theorem test_wf_bankOffset : (Instr.parameterBankWrite 2 0).wf = false := by decide
theorem test_wf_bar2Offset : (Instr.bar2Write 2 0).wf = false := by decide
theorem test_wf_delta : (Instr.deltaRecordReceive (.quartz [] [])).wf = false := by decide
theorem test_wf_hostSend : (Instr.hostSendTake 0 [] []).wf = false := by decide
theorem test_wf_ringDesc : (Instr.commandRingFetch []).wf = false := by decide
theorem test_wf_temp : (Instr.tempSensorRead []).wf = false := by decide
theorem test_wf_good : (Instr.parameterBankWrite 4 0).wf = true := by decide

/-! ## Ports (chapter 02): the hypotheses of each clause met together -/

/-- FrameReception: a critical port whose pool grants and one whose pool is full; a good frame's end; a first fragment;
a continuation with nothing to continue. -/
theorem wit_FrameReception :
    (let s := sOf [(pbReg 0 0, 3), (0x1200004, 1)] (dUp upPort)
     rxOpen s.dev 0 = true ∧ (s.dev.port 0).rx = none ∧ z64 ≠ [] ∧ takesFrames s.env s.dev = true ∧
       isMacCtl z64 = false ∧ isCritical s.env 0 = true) ∧
    (let s := sOf [] (dUp { upPort with rx := some { bytes := zeros 60 ++ fcsOf (zeros 60), codeErr := false, frame := none, ovf := false, startAt := 0 } })
     ∃ rx, (s.dev.port 0).rx = some rx ∧ rx.frame = none ∧ rx.ovf = false ∧ isMacCtl rx.bytes = false ∧
       rxVerdict (maxLen s.env 0) rx.bytes rx.codeErr = ([], true)) ∧
    (let s := sOf [] (dUp upPort)
     let fr : Fragment := { start := true, count := 0, final := false, mcrcOk := true, data := z64 }
     rxOpen s.dev 0 = true ∧ fr.start = true ∧ fr.mcrcOk = true ∧ fr.final = false) ∧
    (let s := sOf [] (dUp upPort)
     let fr : Fragment := { start := false, count := 1, final := false, mcrcOk := true, data := z64 }
     rxOpen s.dev 0 = true ∧ fr.start = false ∧ (s.dev.port 0).reasmDead = false ∧ (s.dev.port 0).reasm = none) := by
  refine ⟨by decide +kernel, ⟨_, rfl, by decide +kernel⟩, by decide +kernel, by decide +kernel⟩

/-- FrameReception: the good end of a frame that a slice holds; a frame with a wrong FCS that none holds; fragments that join
a frame under reassembly, before its last and at it. -/
theorem wit_FrameReception_end :
    (let rx : RxSt := { bytes := zeros 60 ++ fcsOf (zeros 60), codeErr := false, frame := some 1, ovf := false, startAt := 0 }
     let s := sOf [] { dUp { upPort with rx := some rx } with
       frames := [(1, fr1)], rs := { slots := slots1 [0], active := some 1 } }
     (s.dev.port 0).rx = some rx ∧ thas s.dev.frames 1 = true ∧ isMacCtl rx.bytes = false ∧
       rxVerdict (maxLen s.env 0) rx.bytes rx.codeErr = ([], true) ∧ (s.dev.frame 1).stage ≠ .released ∧
       (verAt s.env s.dev (s.dev.frame 1).ts).isSome = true) ∧
    rxVerdict 1518 z64 false = ([46], false) ∧
    (let r : Reasm := { data := zeros 60, next := 2, stamp := 0 }
     let s := sOf [] (dUp { upPort with reasm := some r })
     rxOpen s.dev 0 = true ∧ (s.dev.port 0).reasmDead = false ∧ (s.dev.port 0).reasm = some r ∧
       takesFrames s.env s.dev = false ∧ r.tiles = [] ∧ r.ovf = false ∧ r.codeErr = false ∧
       isMacCtl (r.data ++ fcsOf (zeros 60)) = false ∧
       rxVerdict (maxLen s.env 0) (r.data ++ fcsOf (zeros 60)) false = ([], true)) := by
  decide +kernel

/-- FrameReception: the pool of the frame's class grants its longest frame where it is empty, and does not where every
tile is charged. -/
theorem wit_FrameReception_pool :
    (let s := sOf [(pbReg 0 0, 3), (0x1200004, 1), (thaReg 0 0x404, 0x70007000)] (dUp upPort)
     let pool := inPool s.env 0 0 (classOf s.env 0 0 (body (z64.take (maxLen s.env 0))))
     poolGrants s.env s.dev 0 pool (ceilDiv (maxLen s.env 0) 256)) = true ∧
    (let s := sOf [(pbReg 0 0, 3), (0x1200004, 1)] { dUp upPort with
       blks := [(0, { trunkMode := 1, charge := [(0, 32768)] })] }
     let pool := inPool s.env 0 0 (classOf s.env 0 0 (body (z64.take (maxLen s.env 0))))
     poolGrants s.env s.dev 0 pool (ceilDiv (maxLen s.env 0) 256)) = false := by
  refine ⟨by decide +kernel, by decide +kernel⟩

/-- PortLinks. -/
theorem wit_PortLinks :
    ((sOf [] {}).scopeFree (blkOf 0) ∧ portPresent (sOf [] (dUp {})).dev 0 = true) ∧
    ((sOf [] (dUp upPort)).scopeFree (blkOf 0) ∧ ((sOf [] (dUp upPort)).dev.port 0).enabled = true ∧
      ((sOf [] (dUp upPort)).dev.port 0).link = true) ∧
    ((sOf [(pbReg 0 0x60, 5)] (dUp upPort)).dev.port 0).link = true ∧
    (let s := sOf [] { dUp { enabled := true } with
       pwr := { on := (List.range 96).map (fun L => (32 + L, true)) } }
     (s.dev.port 0).link = false ∧ (s.dev.port 0).enabled = true ∧ portLanes s.dev 0 ≠ [] ∧
       (s.dev.port 0).an = 0 ∧ ∀ L ∈ portLanes s.dev 0, unitOn s.dev (32 + L) = true) ∧
    (let s := sAt 9003 [] (dUp { enabled := true, downHold := true, holdEnd := 9002 })
     (s.dev.port 0).downHold = true ∧ (s.dev.port 0).link = false ∧
       (s.dev.port 0).holdEnd / 3 < s.env.third / 3) ∧
    (dUp { enabled := true, an := 1 }).port 0 = { enabled := true, an := 1 } := by
  refine ⟨⟨quiet rfl _, by decide +kernel⟩, ⟨quiet rfl _, by decide +kernel⟩, by decide +kernel, by decide +kernel,
    by decide +kernel, by decide +kernel⟩

/-- PortLinks: the link hold can be zero or not. -/
theorem wit_PortLinks_hold : linkHold (envOf [(pbReg 0 0x60, 0)]) 0 = 0 ∧ linkHold (envOf [(pbReg 0 0x60, 5)]) 0 = 5 := by
  decide +kernel

/-- CutThroughUnderrun: below the maximum threshold and at it. -/
theorem wit_CutThroughUnderrun :
    (∀ c ∈ [2, 63], let x : Tx := { copy := 1, queue := 0, startAt := 0, endAt := 90000, tOut := 0, bytes := zeros 1500, ct := true }
     let k : Copy := { asm := 1 }
     let a : Asm := { got := [1], bytes := zeros 1500 }
     let p : PortSt := { upPort with curThresh := c, tx := some x }
     let s := sAt 300 [] { dUp p with copies := [(1, k)], asms := [(1, a)] }
     (s.dev.port 0).tx = some x ∧ x.flow = none ∧ x.ct = true ∧ txEnding s.env s.dev 0 x = false ∧
       copyWhole (s.dev.copy x.copy) (s.dev.copyAsm x.copy) = false ∧
       copyBytesIn (s.dev.copy x.copy) (s.dev.copyAsm x.copy) ≤ x.sentBefore + txSent s.env s.dev 0 x ∧
       ((s.dev.port 0).curThresh < max 2 (s.env.f (pbReg 0 0x20) 29 24) ↔ c = 2)) ∧
    (sOf [] {}).scopeFree (blkOf 0) := by
  refine ⟨by decide +kernel, quiet rfl _⟩

/-- PauseReception. -/
theorem wit_PauseReception :
    rxOpen (dUp upPort) 0 = true ∧
    (let s := sAt 50 [] (dUp { upPort with pause := [(8, 50)] })
     tget 0 (s.dev.port 0).pause 8 ≠ 0 ∧ tget 0 (s.dev.port 0).pause 8 ≤ s.env.third) ∧
    (let s := sAt 3000000 [(pbReg 0 0x120, 0x80004001)] (dUp { upPort with wd := [(8, { run := 3000000 })], queues := [(0, [1])] })
     bit (wdReg s.env 0 8) 31 = true ∧ wdHolding s.env (s.dev.port 0) 8 = false ∧
       ms (clamp 1 10000 (bits (wdReg s.env 0 8) 13 0)) ≤ (((dogsUpdate s.env 0 s.dev).port 0).dog 8).run) ∧
    (let s := sAt 50 [] (dUp { upPort with wd := [(8, { hold := some 50 })] })
     ((s.dev.port 0).dog 8).hold = some 50 ∧ 50 ≤ s.env.third) := by
  decide +kernel

/-- Port 0 sends PAUSE, and pool 0 of block 0 has an XOFF level. -/
def flowRegs : List (Nat × Nat) :=
  [(pbReg 0 0, 0x101), (0x1200004, 1), (pbReg 0 0x30, 0xFFFF0000), (thaReg 0 0x408, 0x100)]
/-- `dUp` with every tile of pool 0 charged. -/
def dHot (p : PortSt) : Dev := { ports := [(0, p)], blks := [(0, { trunkMode := 1, charge := [(0, 32768)] })] }

/-- FlowControlSending: the class's pool at its XOFF level; below it; and a renewal that is due. -/
theorem wit_FlowControlSending :
    (let s := sOf flowRegs (dHot upPort)
     flowOn s.env 0 8 = true ∧ txAllowed s.env s.dev 0 = true ∧ flowWants s.env s.dev 0 8 = true ∧
       tget 0 (s.dev.port 0).xoff 8 = 0) ∧
    (let s := sOf flowRegs (dUp { upPort with xoff := [(8, 1)] })
     flowOn s.env 0 8 = true ∧ txAllowed s.env s.dev 0 = true ∧ flowWants s.env s.dev 0 8 = false ∧
       tget 0 (s.dev.port 0).xoff 8 ≠ 0) ∧
    (let s := sAt 300000000 flowRegs (dHot { upPort with xoff := [(8, 1)] })
     flowOn s.env 0 8 = true ∧ txAllowed s.env s.dev 0 = true ∧ flowWants s.env s.dev 0 8 = true ∧
       tget 0 (s.dev.port 0).xoff 8 ≠ 0 ∧
       tget 0 (s.dev.port 0).xoff 8 + quantaTime (txQuanta s.env 0) (portRate s.dev 0) / 2 ≤ s.env.third + 1) := by
  decide +kernel

/-- PreemptionHandshake: a verify frame left to send, none left, and an answer that is awaited. -/
theorem wit_PreemptionHandshake :
    (∀ v ∈ [0, 3], let s := sAt 900000000 [(0x1200004, 1)] (dUp { upPort with preState := 1, verifySent := v })
     (s.dev.port 0).preState = 1 ∧ txAllowed s.env s.dev 0 = true ∧
       ((s.dev.port 0).verifySent = 0 ∨ (s.dev.port 0).verifyAt + ms (verifyMs s.env 0) ≤ s.env.third)) ∧
    (let s := sOf [] (dUp { upPort with preState := 1, verifySent := 1 })
     (s.dev.port 0).preState = 1 ∧ (s.dev.port 0).verifySent ≠ 0) := by
  decide +kernel

/-- MdioOperations: an operation whose 64 periods have passed, a read and a write. -/
theorem wit_MdioOperations :
    (let s := sAt 76800 [] { mdio := [(0, { busy := true, cmd := 0xC0000000 })] }
     (tget {} s.dev.mdio 0).busy = true ∧ (tget {} s.dev.mdio 0).since + ns 25600 ≤ s.env.third) ∧
    mdioReads 0xC0000000 = true ∧ mdioReads 0xA0000000 = false := by
  decide +kernel

/-! ## Dispatch and Gristo (chapters 03 and 04) -/


/-- DispatchEntries: with an entry free and with all in use, of both kinds; and an engine whose role is to change. -/
theorem wit_DispatchEntries :
    (∀ br ∈ [true, false], ∀ q ∈ [[], List.replicate (if br then 32 else 224) 9],
      (entryCands {} (dWait br { dispBr := q, dispGen := q }) 0 br).head? = some 1 ∧
        ((dWait br {}).blk 0).sieve.length < 1024) ∧
    (((dWait false {}).frame 1).inSieve = true ∨ ∃ v, bearsVer {} (dWait false {}) ((dWait false {}).frame 1) = some v) ∧
    ¬ (((dWait false {}).frame 1).rxDone = true ∧ isBatten {} ((dWait false {}).frame 1).bytes = true) ∧
    (engReserved (dWait false {}) 0 29 ≠ engWanted (envOf [(fltReg 0 0, 0x203)]) 0 29 ∧
      ∀ h, h < 4 → thFree {} (dWait false {}) (thNum 0 29 h) = true) := by
  refine ⟨by decide +kernel, Or.inr ⟨1, by decide +kernel⟩, by decide +kernel, by decide +kernel⟩

/-- ThreadDispatch: an entry of each kind to hand over, and one that a neighbour may steal. -/
theorem wit_ThreadDispatch :
    (∀ br ∈ [true, false], let d := dWait false { dispBr := [1], dispGen := [1] }
     (if br then (d.blk 0).dispBr else (d.blk 0).dispGen).head? = some 1 ∧
       (if br then (d.blk 0).handBr else (d.blk 0).handGen) ≠ ({} : Env).cycle + 1 ∧ unitOn d 0 = true ∧
       engineFor {} d 0 br = some (if br then 30 else 0) ∧ freeThread {} d 0 (if br then 30 else 0) = some 0 ∧
       slotOf d (d.frame 1).ver = some 0) ∧
    (let e := envOf [(fltReg 0 0, 0x010102), (fltReg 1 0, 0x010102)]
     let d := dWait false { dispGen := [1, 2], handGen := 1 }
     freeThread e d 1 0 = some 0 ∧ tget 0 (d.blk 1).stealLost 0 ≠ e.cycle + 1 ∧ stealVictim e d 1 = some 0 ∧ (d.blk 0).dispGen = [1, 2] ∧ maySteal d 1 0 = true ∧
       localTakes e d 0 = false ∧ slotOf d (d.frame 1).ver = some 0) := by
  decide +kernel


/-- GristoAlu. -/
theorem wit_GristoAlu : (gs (gw 1 0) {} fr1).inImage th0 1 ∧
    ∀ op ∈ [1, 2, 3, 4, 5, 6, 7, 8, 9, 10, 11, 12, 13], (gs (gw op 0) {} fr1).issuesWord th0 op 1 := by
  unfold State.issuesWord State.inImage
  decide +kernel

/-- GristoFieldReads: from the header window, with a base that is absolute and one that is not valid. -/
theorem wit_GristoFieldReads : (gs (gw 0x10 0) {} fr1).inImage th0 1 ∧
    ∀ op ∈ [0x10, 0x12], ∀ r ∈ [0, 0x2000], (gs (gw op r) {} fr1).issuesWord th0 op 1 ∧ fSpace (gw op r) ≠ 3 ∧
      badBase fr1 (gw op r) = decide (r = 0x2000) := by
  unfold State.issuesWord State.inImage
  decide +kernel

/-- GristoFieldWrites: the last word of each space. -/
theorem wit_GristoFieldWrites : (gs (gw 0x11 0) {} fr1).inImage th0 1 ∧
    ∀ r ∈ [0xFC1F0000, 0x3C1F4000, 0x7C1F8000],
      (gs (gw 0x11 r) {} fr1).issuesWord th0 0x11 1 ∧ (gs (gw 0x13 r) {} fr1).issuesWord th0 0x13 1 ∧ fSpace r ≠ 3 ∧
        badBase fr1 r = false ∧
        effAddr { x := {}, f := fr1 } r + fieldBytes (fBit r) (fWidth r) = spaceSize false (fSpace r) ∧
        effAddr { x := {}, f := fr1 } r + 4 = spaceSize false (fSpace r) := by
  unfold State.issuesWord State.inImage
  decide +kernel

/-- GristoHeaderShape: a length of zero, relative to a header that is not there; the longest insertion and deletion, and
copies of the most bytes into each space. -/
theorem wit_GristoHeaderShape : (gs (gw 0x20 0) {} fr1).inImage th0 1 ∧
    (∀ op ∈ [0x20, 0x21], (gs (gw op 0x2000) {} fr1).issuesWord th0 op 1 ∧ fLen (gw op 0x2000) = 0 ∧
      badBase fr1 (gw op 0x2000) = true) ∧
    (let w := gw 0x20 0x00400000
     let x : Thread := { win := zeros 256, winLen := 64 }
     (gs w x fr1).issuesWord th0 0x20 1 ∧ fSpace w = 0 ∧ badBase fr1 w = false ∧ fLen w = 64 ∧
       effAddr { x := x, f := fr1 } w ≤ winEnd false x ∧ x.net + fLen w ≤ 64) ∧
    (let w := gw 0x21 0x00800000
     let x : Thread := { win := zeros 256, winLen := 128 }
     (gs w x fr1).issuesWord th0 0x21 1 ∧ fSpace w = 0 ∧ badBase fr1 w = false ∧ fLen w = 128 ∧
       effAddr { x := x, f := fr1 } w + fLen w ≤ winEnd false x ∧ -128 ≤ x.net - fLen w) ∧
    ∀ ds ∈ [0, 1, 2], let w := gw 0x22 (63 * 2 ^ 10 + ds * 2 ^ 8)
      (gs w {} fr1).issuesWord th0 0x22 1 ∧ bits w 9 8 ≠ 3 ∧ bits w 7 6 ≠ 3 ∧
        bits w 31 24 + (bits w 15 10 + 1) ≤ spaceSize false (bits w 9 8) := by
  unfold State.issuesWord State.inImage
  decide +kernel

/-- GristoControl: a branch on z taken and not taken, the other transfers, and the end. -/
theorem wit_GristoControl :
    (∀ z ∈ [true, false], let w := gw 0x30 (1 * 2 ^ 37 + 2)
     let s := gs w { z := z } fr1
     s.issuesWord th0 0x30 1 ∧ condTrue { z := z } (fCs w) = z ∧ s.inImage th0 1 ∧ s.inImage th0 (fTarget w)) ∧
    (∀ op ∈ [0x31, 0x32, 0x34], (gs (gw op 2) {} fr1).issuesWord th0 op 1 ∧ (gs (gw op 2) {} fr1).inImage th0 2) ∧
    (gs (gw 0x33 0) { stack := [2] } fr1).issuesWord th0 0x33 1 ∧
    ¬ (({} : Thread).bedrock = true ∧ 158 < ({} : Thread).slots) := by
  unfold State.issuesWord State.inImage
  decide +kernel

/-- R105: 0xFFFFFFFF + 1 is 0 and sets z and c. -/
theorem test_add_carry :
    let s := gs (gw 1 (3 * 2 ^ 51 + 1 * 2 ^ 46 + 1 * 2 ^ 32 + 1)) { g := [(1, 0xFFFFFFFF)] } fr1
    ∃ t, exec (.add th0) s = .next t ∧
      (let x := t.dev.thread 0
       (x.getG 3, x.z, x.c, x.v, x.pc)) = (0, true, true, false, 1) :=
  ⟨_, rfl, by decide +kernel⟩

/-- R105: 0x80000000 - 1 overflows, with no borrow. -/
theorem test_sub_overflow :
    let s := gs (gw 2 (3 * 2 ^ 51 + 1 * 2 ^ 46 + 1 * 2 ^ 32 + 1)) { g := [(1, 0x80000000)] } fr1
    ∃ t, exec (.sub th0) s = .next t ∧
      (let x := t.dev.thread 0
       (x.getG 3, x.n, x.c, x.v)) = (0x7FFFFFFF, false, true, true) :=
  ⟨_, rfl, by decide +kernel⟩

/-- R99: bytes are in network order: the 16 bits from byte 12 of the window. -/
theorem test_ext_bytes :
    let s := gs (gw 0x10 (2 * 2 ^ 51 + 12 * 2 ^ 24 + 15 * 2 ^ 16)) { win := zeros 12 ++ [0x08, 0x06], winLen := 14 } fr1
    ∃ t, exec (.ext th0) s = .next t ∧ (t.dev.thread 0).getG 2 = 0x0806 :=
  ⟨_, rfl, by decide +kernel⟩

/-- R68: a write to g0 is discarded. -/
theorem test_movi_g0 :
    ∃ t, exec (.movi th0) (gs (gw 0x0B 7) {} fr1) = .next t ∧ (t.dev.thread 0).getG 0 = 0 :=
  ⟨_, rfl, by decide +kernel⟩

/-! ## Gristo: lookups, actions and exceptions (chapter 04) -/

/-- GristoLookups: the highest key register, an IPv4 and an IPv6 lookup, the last tag. -/
theorem wit_GristoLookups :
    ∀ op ∈ [0x40, 0x41, 0x42, 0x43], ∀ sub ∈ [0, 1], let w := gw op (28 * 2 ^ 46 + 3 * 2 ^ 37 + sub * 2 ^ 32)
      (gs w {} fr1).inImage th0 1 ∧ (gs w {} fr1).maySend th0 ∧ (gs w {} fr1).issuesWord th0 op 1 ∧ fS1 w ≤ 28 ∧
        bit (fSub w) 0 = decide (sub = 1) := by
  unfold State.issuesWord State.inImage State.maySend
  decide +kernel

/-- GristoAnswers: a request that is wanted and one that is not, taken already and waiting at a port that can take it; an
answered tag to collect, and a compatibility-mode slot that cancels. -/
theorem wit_GristoAnswers :
    (∀ b ∈ [true, false], ∀ kd ∈ [LkKind.done { value := 7 }, .d 0 0], ∃ q : LkReq, q.dropped = b ∧ q.kind = kd ∧
      (let d : Dev := { slate := { reqs := [(5, q)] } }
       tfind d.slate.reqs 5 = some q ∧ d.slate.reqs.filter (fun r => r.2.kind.waits) = (if kd.waits then [(5, q)] else []) ∧
         q.thread / 128 < 16 ∧ portTaken {} d (q.thread / 128) < 2)) ∧
    (let w := gw 0x44 (30 * 2 ^ 51)
     let x : Thread := { tags := [{ req := some 5, ans := some { value := 7, colour := some 1, seq := some 9 } }] }
     (gs w x fr1).inImage th0 1 ∧ fCs w < tagCnt false ∧ (gs w x fr1).issuesWord th0 0x44 1 ∧ fD w < 31 ∧
       (x.tag (fCs w)).ans = some { value := 7, colour := some 1, seq := some 9 }) ∧
    (let w := gw 0x4F (1 * 2 ^ 37)
     let q : LkReq := { thread := 0, tag := 1, kind := .d 0 0 }
     let x : Thread := { frame := some 1, tags := [{}, { req := some 5 }] }
     let p : SlotSt := { valid := true, compat := true, state := 2, version := 1, words := [BitVec.ofNat 64 w, 0, 0] }
     let s : State := { dev := { threads := [(0, x)], frames := [(1, fr1)], rs := { slots := [p, {}], active := some 1 }
                                 pwr := { on := [(0, true)] }, slate := { reqs := [(5, q)] } } }
     s.inImage th0 1 ∧ fCs w < tagCnt true ∧ s.issuesWord th0 0x4F 1 ∧ (x.tag (fCs w)).req = some 5 ∧
       tfind s.dev.slate.reqs 5 = some q) := by
  unfold State.issuesWord State.inImage
  refine ⟨?_, by decide +kernel, by decide +kernel⟩
  intro b hb kd hk
  refine ⟨{ thread := 0, tag := 0, kind := kd, dropped := b }, rfl, rfl, ?_⟩
  revert b kd
  decide +kernel

/-- GristoHashCountLearn: both hash functions, with and without a copy to md.hash; a learning queue with room and a full
one. -/
theorem wit_GristoHashCountLearn :
    (∀ sub ∈ [0, 1, 4, 5], let w := gw 0x50 (23 * 2 ^ 46 + 8 * 2 ^ 37 + sub * 2 ^ 32)
     (gs w {} fr1).inImage th0 1 ∧ (gs w {} fr1).issuesWord th0 0x50 1 ∧ fS1 w + fCs w < 32 ∧ bits (fSub w) 1 0 < 2 ∧
       (bits (fSub w) 1 0 = 1 → fCs w < 9)) ∧
    (gs (gw 0x52 0) {} fr1).issuesWord th0 0x52 1 ∧
    (let w := gw 0x53 (28 * 2 ^ 46 + 30 * 2 ^ 41)
     (gs w {} fr1).issuesWord th0 0x53 1 ∧ fS1 w ≤ 28 ∧ fS2 w ≤ 30 ∧
       ((gs w {} fr1).dev.blk 0).learnQ.length < 1024 ∧
       ¬ (List.replicate 1024 ({ profile := 0, key := 0, result := 0, op := 0 } : LearnReq)).length < 1024) := by
  unfold State.issuesWord State.inImage
  decide +kernel

/-- GristoMetersSequences. -/
theorem wit_GristoMetersSequences :
    ∀ op ∈ [0x51, 0x67, 0x68], (gs (gw op 0) {} fr1).inImage th0 1 ∧ (gs (gw op 0) {} fr1).maySend th0 ∧
      (gs (gw op 0) {} fr1).issuesWord th0 op 1 ∧ ∀ o ∈ unitOps {} (gs (gw op 0) {} fr1).dev, o.eng ≤ 0 := by
  unfold State.issuesWord State.inImage State.maySend
  decide +kernel

/-- GristoDestinations: the last network port and the first absent one; a replication entry and an edge of both kinds. -/
theorem wit_GristoDestinations :
    (∀ op ∈ [0x60, 0x61, 0x62, 0x63, 0x64, 0x65], ∀ sub ∈ [0, 1], let w := gw op (sub * 2 ^ 32 + 95)
     (gs w {} fr1).inImage th0 1 ∧ (gs w {} fr1).issuesWord th0 op 1 ∧ bit (fSub w) 0 = decide (sub = 1) ∧
       fImm w % 128 < 96 ∧ fr1.blk < 16) ∧
    96 ≤ fImm (gw 0x60 96) % 128 := by
  unfold State.issuesWord State.inImage
  decide +kernel

/-- GristoRequests: each kind. -/
theorem wit_GristoRequests :
    ∀ op ∈ [0x66, 0x69, 0x6A], ∀ kind ∈ [0, 1, 2], let w := gw op (kind * 2 ^ 32)
      (gs w {} fr1).inImage th0 1 ∧ (gs w {} fr1).issuesWord th0 op 1 ∧ bits (fSub w) 1 0 = kind ∧ fSpace w = 0 ∧
        badBase fr1 w = false := by
  unfold State.issuesWord State.inImage
  decide +kernel

/-- GristoExceptions: a thread at its cap, and one whose word is undefined. -/
theorem wit_GristoExceptions :
    (let s := gs (gw 1 0) { issued := 1024 } fr1
     let x := s.dev.thread 0
     x.frame = some 1 ∧ issues s.env s.dev 0 = true ∧ x.bedrock = false ∧ 1024 ≤ x.issued ∧
       engReserved s.dev 0 0 = false ∧ fOp (nextWord s.dev x) = 0x01) ∧
    (let s := gs (gw 0 0) { issued := 1023 } fr1
     let x := s.dev.thread 0
     x.frame = some 1 ∧ issues s.env s.dev 0 = true ∧ x.bedrock = false ∧ x.issued < 1024 ∧
       opDefined (s.dev.prog x.slot).compat (fOp (nextWord s.dev x)) = false) := by
  decide +kernel

/-! ## The sieve and Mica (chapters 03 and 06) -/

/-- SieveOrder: frames for a port, for the host and a bad one; a stream whose oldest frame has kept a complete one back
for 20 us. -/
theorem wit_SieveOrder :
    (∀ b ∈ [true, false], ∀ kd ∈ [(1, 95), (2, 65535), (3, 4095), (4, 0)],
      let f : Frame := { fr1 with bad := b, completeAt := some 0, md := mdSet (mdSet 0 2 31 28 kd.1) 2 27 0 kd.2 }
      let d : Dev := { blks := [(0, { sieve := [1] })], frames := [(1, f)] }
      canRelease {} d 0 1 = true ∧ f.bad = b ∧ f.dstKind = kd.1 ∧ f.dstVal = kd.2) ∧
    (let f : Frame := { stream := 3, seq := 4 }
     let g : Frame := { stream := 3, seq := 5, completeAt := some 1 }
     let s := sAt 60001 [] { blks := [(0, { sieve := [1, 2] })], frames := [(1, f), (2, g)] }
     1 ∈ (s.dev.blk 0).sieve ∧ (s.dev.frame 1).stream = 3 ∧ (s.dev.frame 1).late = false ∧
       (s.dev.frame 1).complete s.env = false ∧
       (∀ k ∈ (s.dev.blk 0).sieve, (s.dev.frame k).stream = 3 → (s.dev.frame k).late = false → k ≠ 1 →
         (s.dev.frame 1).seq < (s.dev.frame k).seq) ∧
       2 ∈ (s.dev.blk 0).sieve ∧ (s.dev.frame 2).stream = 3 ∧ (s.dev.frame 2).late = false ∧
       (s.dev.frame 2).completeAt = some 1 ∧ 1 + us 20 ≤ s.env.third) := by
  decide +kernel

/-- A scan request in enforce mode. -/
def scanReq1 : ScanReq := { frame := 1, enf := true, len := 64, off := 0, set := 0, recirc := false, since := 0 }
/-- A pattern of one wild byte with an action. -/
def wildPat (a : PatAction) : Pattern := { number := 7, action := a, record := false, anchor := none, body := [.wild] }

/-- MicaScans: a request for a free lane; a cold state to fetch in a set that is there, in one that is lost and with Loft
out of service; a scan with a winner of each action and with none; a wait at its limit. -/
theorem wit_MicaScans :
    (let s := sOf [] { blks := [(0, { scanQ := [scanReq1] })], pwr := { on := [(16, true)] } }
     nextScan (s.dev.blk 0).scanQ = some scanReq1 ∧ mayServe s.env s.dev 0 0 = true ∧
       thas (s.dev.blk 0).lanes 15 = false) ∧
    (let f : Frame := { fr1 with tiles := [5] }
     scanFail f scanReq1 none = none ∧ scanFail f scanReq1 (some 0) = some 5) ∧
    (∀ g ∈ [({ fr1 with bad := true } : Frame), { fr1 with tileBad := true }, { fr1 with tiles := [5] }],
      let d : Dev := { blks := [(0, { lanes := [(0, { req := scanReq1, blk := 0, start := 0 })] })], frames := [(1, g)] }
      tfind (d.blk 0).lanes 0 = some { req := scanReq1, blk := 0, start := 0 } ∧ g.stage ≠ .released ∧
        scanReq1.recirc = false ∧ (g.bad = true ∨ g.tileBad = true ∨ scanFail g scanReq1 (some 0) ≠ none)) ∧
    (∀ l ∈ [true, false], ∀ lo ∈ [loftUp, {}],
      let s := sOf [] { blks := [(0, { lanes := [(0, { req := scanReq1, blk := 0, start := 0 })] })],
                        sets := [(0, { valid := true, lost := l })], loft := lo }
      tfind (s.dev.blk 0).lanes 0 = some { req := scanReq1, blk := 0, start := 0 } ∧ (s.dev.set 0).resident = false ∧
        (s.dev.set 0).lost = l ∧ loftServes s.dev = lo.up) ∧
    (∀ ps ∈ [[], [wildPat .pass], [wildPat .mirror], [wildPat .host], [wildPat .drop]],
      let f : Frame := { fr1 with stage := .sieved, holdSince := some 0, md := mdSet 0 4 27 26 2 }
      let s := sAt 128 [] { blks := [(0, { lanes := [(0, { req := scanReq1, blk := 0, start := 0 })] })],
                            frames := [(1, f)], sets := [(0, { valid := true, resident := true, patterns := ps })] }
      let w := winner ps (scanBytes f scanReq1)
      tfind (s.dev.blk 0).lanes 0 = some { req := scanReq1, blk := 0, start := 0 } ∧ f.bad = false ∧
        f.stage ≠ .released ∧ scanMode f = 2 ∧ w = ps.head?.map (fun p => (p, 1)) ∧
        0 + scanReads w 64 ≤ f.arrived s.env ∧ 0 + 2 * scanReads w 64 ≤ s.env.third) ∧
    (let f : Frame := { fr1 with stage := .sieved, holdSince := some 0, md := mdSet 0 4 27 26 2 }
     let s := sAt 765000 [] { frames := [(1, f)] }
     (s.dev.frame 1).holdSince = some 0 ∧ (s.dev.frame 1).stage ≠ .released ∧ scanMode (s.dev.frame 1) = 2 ∧
       0 + us (max 1 (s.env.f 0xF00000 31 24)) ≤ s.env.third) := by
  decide +kernel

/-- MicaLoading: a load that fits, one for which there is no room, and one for a slot in use. -/
theorem wit_MicaLoading :
    (sOf [] {}).scopeFree 54 ∧
    (unitTarget {} 16 = bit 0 0 ∧ unitTarget {} 16 ≠ bit 1 0) ∧
    (let dsc := [(7, 4096), (8, 0), (9, 64)]
     ∀ q ∈ [0, 16384], ∀ v ∈ [true, false],
      let d : Dev := { cmd := cmd1 0x11 dsc, loft := loftUp
                       sets := [(1, { valid := true, quota := q })]
                       rs := { slots := if v then slots1 [0] else [{}, {}], active := if v then some 1 else none } }
      canStart d 0 0x11 = true ∧ 4096 ≤ argWord d 0 7 ∧ argWord d 0 7 ≤ 2 ^ 28 ∧ bits (argWord d 0 9) 14 0 = 64 ∧
        (img none [.wild]).crc.toNat = argWord d 0 8 ∧ loftServes d = true ∧
        (((List.range 16).filter (fun m => m != 0 && (d.set m).valid)).foldl
          (fun a m => a + (d.set m).quota) 0 + 64 ≤ 16384 ↔ q = 0)) ∧
    setInUse {} 0 = false := by
  refine ⟨quiet rfl _, by decide +kernel, by decide +kernel, by decide +kernel⟩

/-- R161: a set whose image is no longer than its quota is resident. -/
theorem test_micaLoad_resident :
    ∃ t, exec (.micaLoad 0 (img none [.wild]))
        { dev := { cmd := cmd1 0x11 [(7, 4096), (8, 0), (9, 64)], loft := loftUp } } = .next t ∧
      (t.dev.set 0).valid = true ∧ (t.dev.set 0).resident = true ∧ (t.dev.slot 0).finished = true :=
  ⟨_, rfl, by decide +kernel⟩

/-! ## Rule sets and Slate-T (chapter 05) -/

/-- A commit at a step. -/
def commit1 (step : Nat) : Commit :=
  { slot := 0, version := 2, imageAddr := 0, imageLen := 1, imageCrc := 1987164046, entry := 0, brEntry := 0,
    brValid := false, compat := false, dom := 0, time := 0, step := step, prog := 1 }
/-- Version 1 active or none, a commit of version 2 under way. -/
def dCommit (c : Commit) (act : Option Nat) : Dev :=
  { rs := { slots := slots1 [0], active := act, committed := [2], commits := [c] }, cmd := cmdRuns 0x10 [] }

/-- RuleTableWrites: a version that is free and one that is active, at the last word of its bank; a control word that is
accepted and one that is not, in a bank that is not wide; an empty bank and one that is used. -/
theorem wit_RuleTableWrites :
    ((131068 : Fin 131072).val % 4 = 0 ∧ rsFree {} (131068 / 8192) = true ∧
      rsFree { rs := { active := some 15 } } (131068 / 8192) = false) ∧
    (∀ d ∈ [({} : Dev), { rs := { active := some 0 } }],
      (tWide {} 32767 && 32767 % 2 == 1) = false ∧
        (tAccepts {} d 32767 (setBits 0x80000001 29 16 0) = d.rs.active.isNone)) ∧
    (tBankUsed {} {} 0 = false ∧ tBankUsed {} { rs := { tTable := [(88 + 3, 0x80)] } } 0 = true) := by
  decide +kernel

/-- CommitLoads: a free version and an active one; arguments in order and an entry beyond the image; an image with the
right CRC and one with another. -/
theorem wit_CommitLoads :
    (∀ v ∈ [1, 2], let d : Dev := { cmd := cmd1 0x10 [(4, v)], rs := { slots := slots1 [0], active := some 1 } }
     canStart d 0 0x10 = true ∧ (waitingSlots d 0x10).head? = some 0 ∧
       rsHeld d (bits (argWord d 0 4) 3 0) = decide (v = 1)) ∧
    (∀ n ∈ [0, 1], let d := dCommit { commit1 2 with imageLen := n } (some 1)
     d.gns.dead = false ∧ patchAhead d 0 = false ∧ (d.slot 0).used = true ∧ (d.slot 0).finished = false ∧ setRef d 2 = none ∧
       freeProg d < d.rs.slots.length) ∧
    (let d := dCommit (commit1 3) (some 1)
     d.gns.dead = false ∧ (d.slot 0).used = true ∧ (d.slot 0).finished = false ∧ (commit1 3).imageLen ≤ 1 ∧
       (commit1 3).prog < d.rs.slots.length ∧
       crc32c (([(7 : DWord)].take 1).flatMap (fun w => natLE 8 w.toNat)) = (commit1 3).imageCrc ∧
       crc32c (([(8 : DWord)].take 1).flatMap (fun w => natLE 8 w.toNat)) ≠ (commit1 3).imageCrc) := by
  decide +kernel

/-- CommitSwitches: with an active version and without, and a retirement at each stage. -/
theorem wit_CommitSwitches :
    (∀ a ∈ [some 1, none], let d := dCommit { commit1 5 with switchLt := 0 } a
     (commit1 5).switchLt ≤ ({} : Env).ltNs ∧ (d.slot 0).used = true ∧ (d.slot 0).finished = false ∧ d.rs.active = a) ∧
    (let s := sAt 900000000000 [] (dCommit (commit1 7) (some 2))
     s.dev.rs.commits = [commit1 7] ∧ (commit1 7).step = 7 ∧ retireCount s.env s.dev = 0 ∧ s.dev.gns.dead = false) ∧
    (let s := sAt 900000000000 [] { dCommit (commit1 7) (some 2) with
       rs := { slots := slots1 [0], active := some 2, retiring := some 1, commits := [commit1 7] }
       frames := [(1, { fr1 with md := mdSet fr1.md 0 27 24 1 })] }
     s.dev.rs.commits = [commit1 7] ∧ (commit1 7).slow = false ∧ retireCount s.env s.dev ≠ 0 ∧
       (commit1 7).switchedAt + ms (max 1 (s.env.f 0x70C004 15 0)) ≤ s.env.third) ∧
    (let s := sAt 786432 [] { dCommit (commit1 8) (some 2) with
       rs := { slots := slots1 [0], active := some 2, retiring := some 1, commits := [commit1 8], walk := some 0 } }
     s.dev.rs.commits = [commit1 8] ∧ s.dev.rs.walk = some 0 ∧ 0 + ns 262144 ≤ s.env.third ∧
       s.dev.rs.walkAt = 0 ∧ s.dev.rs.retiring = some 1 ∧ 1 < 16 ∧ (s.dev.slot 0).used = true ∧ (s.dev.slot 0).finished = false) := by
  decide +kernel

/-! ## Slate (chapter 07) -/

/-- WindowWrites: the bounds of each region of the window, whole words; a slot whose region is locked and one whose is
not; an entry of a locked version; a pending swap of the profiles. -/
theorem wit_WindowWrites :
    (∀ n ∈ [0, 0x1FFFFF4, 0x2000000, 0x23FFFD4, 0x2400000, 0x27FFFF8, 0x2800000, 0x3DFFFFC, 0x3E20000, 0x3E21FFC,
        0x4100000, 0x420FFF8, 0x4400000, 0x44FFFFC, 0x4800000, 0x4BFFFFC, 0x4C00000, 0x4C1FFFC, 0x4E00000, 0x4E3FFFC,
        0x5000000, 0x50FFFFC, 0x10000000, 0x3FFFFFFC], n % 4 = 0 ∧ n < 1073741824) ∧
    (0x1FFFFF4 % 32 < 24 ∧ 0x23FFFD4 % 128 < 88 ∧ 0x27FFFF8 % 8 = 0 ∧ 0x420FFF8 / 4 % 4 < 3) ∧
    (xLocked {} 1048575 = false ∧ xLocked { slate := { held := [(63, 0)] } } 1048575 = true) ∧
    (tLocked {} {} 32767 = false ∧
      tLocked {} { rs := { tTable := [(128 * 32767 + 88, 1), (128 * 32767 + 91, 0x80)], active := some 0 } } 32767 = true) ∧
    (({} : Dev).policerSwap = none ∧ ({ policerSwap := some (0, 0) } : Dev).policerSwap ≠ none) := by
  decide +kernel

/-- TableTransfers: the last region, the first code beyond, and Gneiss's tables. -/
theorem wit_TableTransfers :
    ∀ r ∈ [2, 3, 4, 5, 12, 13], ∀ op ∈ [0x24, 0x25],
      let d : Dev := { cmd := cmd1 op [(4, r), (6, 1)] }
      canStart d 0 op = true ∧ bits (argWord d 0 4) 3 0 = r ∧ (r ≤ 5 → 0 < tblCount d 0) := by
  decide +kernel

/-- SlateLocks: a lock in effect whose 10 ms have passed, and one that waits. -/
theorem wit_SlateLocks :
    (sOf [] {}).scopeFree 48 ∧
    (let s := sAt 30000000 [] { slate := { held := [(lockKey 1 31, 0)], lockWait := [lockKey 0 0] } }
     thas s.dev.slate.held (lockKey 1 31) = true ∧ thas s.dev.slate.held (lockKey 0 0) = false ∧
       lockKey 0 0 ∈ s.dev.slate.lockWait ∧ tfind s.dev.slate.held (lockKey 1 31) = some 0 ∧
       0 + ms 10 ≤ s.env.third) := by
  refine ⟨quiet rfl _, by decide +kernel⟩

/-- Profile 0 learns. -/
def learnEnv : Env := envOf [(0x700000, 0x01000080)]
/-- The first candidate slot of key 5. -/
def slot5 : Nat := (xCand learnEnv 0 (xKey learnEnv 0 5)).getD 0 0
/-- A request to learn key 5 at block 3. -/
def req5 : LearnReq := { profile := 0, key := 5, result := 7, op := 0 }
/-- Block 3 has the request waiting, and the first candidate slot is as given. -/
def dLearn (x : XSlot) (held : Tbl Nat) : Dev :=
  { blks := [(3, { learnQ := [req5] })], slate := { x := [(slot5, x)], held := held } }
/-- Slot 5's key stored, static or not. -/
def stored5 (static : Bool) : XSlot := { key := 5, valid := true, static := static }

/-- SlateLearning: a profile that learns and one that does not, a locked region, a static entry, one to refresh, an unused
slot, no slot; host requests; the three commands. -/
theorem wit_SlateLearning :
    (learnNext (dLearn {} []) = some 3 ∧ ((dLearn {} []).blk 3).learnQ = [req5] ∧ xKey learnEnv 0 5 = 5) ∧
    (({} : Env).b 0x700000 24 = false ∧ learnEnv.b 0x700000 24 = true) ∧
    (let all := (List.range 64).map (fun i => (i, 0))
     learnLocked learnEnv (dLearn (stored5 false) all) 0 5 = true) ∧
    (∀ st ∈ [true, false], learnLocked learnEnv (dLearn (stored5 st) []) 0 5 = false ∧
      xFind learnEnv (dLearn (stored5 st) []) 0 5 = some slot5 ∧ ((dLearn (stored5 st) []).xSlot slot5).static = st) ∧
    (learnLocked learnEnv (dLearn {} []) 0 5 = false ∧ xFind learnEnv (dLearn {} []) 0 5 = none ∧
      (xCand learnEnv 0 5).find? (xUsable (dLearn {} [])) = some slot5) ∧
    (∀ op ∈ [1, 2], let d : Dev := { cmd := cmdRuns 0x20 [], slate := { hostQ := [{ req5 with op := op }] } }
     learnNext d = some 16 ∧ (op = 1 ∨ op = 2) ∧ (d.slot 0).used = true ∧ (d.slot 0).finished = false) ∧
    (canStart { cmd := cmd1 0x20 [] } 0 0x20 = true ∧ canStart { cmd := cmd1 0x21 [] } 0 0x21 = true ∧
      gnsStart { cmd := cmd1 0x22 [] } 0 0x22 = true ∧ ({ cmd := cmd1 0x22 [] } : Dev).slate.flush = none) := by
  decide +kernel

/-- SlateLearning: with no lookup waiting the ports take none and no LEARN waits; a LEARN behind its thread's lookup waits;
a flush whose walk has passed the last bucket, entries left that match and that do not. -/
theorem wit_SlateLearning_order :
    (∀ x ∈ [{}, stored5 false, stored5 true], portsTake learnEnv (dLearn x []) = dLearn x [] ∧
      ¬ ∃ q ∈ (dLearn x []).slate.reqs, q.1 < req5.after ∧ q.2.thread = req5.thread ∧ q.2.kind.waits = true) ∧
    (let q : Nat → LkReq := fun n => { thread := 0, tag := n, kind := .x 0 n }
     let r : LearnReq := { req5 with after := 3 }
     let d : Dev := { blks := [(3, { learnQ := [r] })], slate := { reqs := [(0, q 0), (1, q 1), (2, q 2)] } }
     let d' := portsTake learnEnv d
     learnNext d' = some 3 ∧ (d'.blk 3).learnQ = [r] ∧
       ∃ q ∈ d'.slate.reqs, q.1 < r.after ∧ q.2.thread = r.thread ∧ q.2.kind.waits = true) ∧
    (let f : FlushJob := { slot := 0, since := 0 }
     let s := sAt 20000000 [] { cmd := cmdRuns 0x22 [], slate := { flush := some f, x := [(5, stored5 false), (6, stored5 true)] } }
     s.dev.slate.flush = some f ∧ s.dev.gns.dead = false ∧ f.next < 262144 ∧ (s.dev.slot 0).used = true ∧
       (s.dev.slot 0).finished = false ∧ f.since + ns 16 * 262144 ≤ s.env.third) := by
  decide +kernel

/-- SlateUpkeep: a sweep at a device that has become a standby; an epoch that is due; a bucket with a static, an active, an ageing and an expiring entry; the first entry
of each table. -/
theorem wit_SlateUpkeep :
    (let s : State := { env := eTwin 1 0, dev := { slate := { sweep := some 7 } } }
     s.dev.slate.sweep = some 7 ∧ isStandby s.env = true) ∧
    (let s := sAt 200000000000 [(0x700100, 0x00640001)] {}
     s.env.b 0x700100 0 = true ∧ isStandby s.env = false ∧ s.dev.slate.sweep = none ∧
       s.dev.slate.epochStart + ms (max 10 (s.env.f 0x700100 31 16)) ≤ s.env.third) ∧
    (let e := envOf [(0x700000, 0x00500000)]
     let d : Dev := { slate := { sweep := some 262143, x := [(1048572, { valid := true, static := true }),
       (1048573, { valid := true, activity := true }), (1048574, { valid := true, idle := 3 }),
       (1048575, { valid := true, idle := 4 })] } }
     d.slate.sweep = some 262143 ∧ 1048575 / 4 = 262143 ∧ e.f (0x700000 + 8 * 0) 23 20 = 5 ∧
       (d.xSlot 1048572).static = true ∧ (d.xSlot 1048573).activity = true ∧ (d.xSlot 1048574).idle + 1 ≠ 5 ∧
       (d.xSlot 1048575).idle + 1 = 5) ∧
    (let s := sAt 200000 [(0x700400, 0x00100001)] {}
     s.env.b 0x700400 0 = true ∧ s.dev.slate.scrubTime + 2 * max 16 (s.env.f 0x700400 31 16) ≤ s.env.third) ∧
    (scrubEntry 1048575 = (tabX, 1048575) ∧ scrubEntry 1048576 = (tabT, 0) ∧ scrubEntry 1081344 = (tabD, 0) ∧
      scrubEntry 6586367 = (tabRes, 786431)) ∧
    ((({ slate := { x := [(9, { parBad := true })] } } : Dev).xSlot 9).parBad = true ∧
      parFails { slate := { parBad := [(parKey tabT 0, true)] } } tabT 0 = true) := by
  decide +kernel

/-- A record of route 10.0.0.0/8 in VRF 0. -/
def route10 : RouteRec := { pfx := 0x0A000000, result := 9, vrf := 0, len := 8, v6 := false, delete := false }

/-- RouteUpdates: a batch in order and one with no record; a node whose 2 us have passed. -/
theorem wit_RouteUpdates :
    (∀ n ∈ [0, 1], let d : Dev := { cmd := cmd1 0x23 [(7, n)], slate := { vrf := [(0, 0x8010)] } }
     gnsStart d 0 0x23 = true ∧ d.slate.pJob = none ∧
       ((argWord d 0 7 = 0 ∨ 65536 < argWord d 0 7 ∨ [route10].any (recBad d) = true) ↔ n = 0)) ∧
    (let s := sAt 6000 [] { slate := { nodeFree := [(12287, 0)], nodeUsed := [12287] } }
     s.dev.slate.nodeFree.find? (fun q => q.1 == 12287) = some (12287, 0) ∧ 0 + us 2 ≤ s.env.third) := by
  decide +kernel

/-- A route of an IPv4 prefix of the length given. -/
def step10 (len : Nat) : RouteStep := { root := 0, v6 := false, del := false, pfx := 0x0A * 2 ^ 120, len := len, result := 9 }

/-- RouteUpdates: a record of one subtree, the last of its batch and not; a record of 256 subtrees at its first and at its
last but one. -/
theorem wit_RouteUpdates_job :
    (∀ r ∈ [[], [step10 24]], let j : PJob := { slot := 0, todo := step10 16 :: r }
     let d : Dev := { cmd := cmdRuns 0x23 [], slate := { pJob := some j } }
     d.slate.pJob = some j ∧ j.at_ = 0 ∧ pEntries (step10 16) = 1 ∧ d.gns.dead = false ∧ (d.slot 0).used = true ∧
       (d.slot 0).finished = false ∧ (pRecord 0 (step10 16) d.slate).isSome = true) ∧
    (∀ i ∈ [0, 254], let j : PJob := { slot := 0, todo := [step10 8], at_ := i }
     let d : Dev := { slate := { pJob := some j } }
     d.slate.pJob = some j ∧ j.at_ + 1 < pEntries (step10 8) ∧ d.gns.dead = false ∧
       (pRoute (step10 8) d.slate).isSome = true ∧
       (if i = 0 then ((pRoute (step10 8) d.slate).bind (fun p => pEntry 0 (step10 8) 0 p.2)).isSome
        else (pEntry 0 (step10 8) i d.slate).isSome) = true) := by
  decide +kernel

/-! ## Ridge (chapter 08) -/

/-- A shingle on its way: from block 0 to block 8. -/
def sh1 (idx tag : Nat) (last : Bool) : Shingle :=
  { send := 1, src := 0, out := 8, cg := 0, tag := tag, idx := idx, last := last, bad := false, valid := 0, cycle := 0 }

/-- RidgeShingles: a crossing whose turn it is, at its first and a later shingle; a shingle at a middle with room and without;
a shingle for the output that stage 2 meets. -/
theorem wit_RidgeShingles :
    (∀ nx ∈ [0, 1], ∀ bt ∈ [true, false],
      let x : Send := { frame := 1, outBlk := 8, data := zeros 128, next := nx, badTile := bt }
      let s := sOf [(thaReg 0 0x414, 0x70007000)]
        { frames := [(1, fr1)], sends := [(1, x)], blks := [(0, { injOth := [1] })] }
      (s.dev.blk 0).sent1 ≠ s.env.cycle + 1 ∧
        pickSend s.env (stage1Ready s.env 0 s.dev) 0 = some 1) ∧
    (let d : Dev := { blks := [(0, { toMid := [sh1 0 0 false] })] }
     (d.blk 0).toMid = [sh1 0 0 false] ∧
       poolGrants (envOf [(thaReg 0 0x414, 0x70007000)]) d 0 (midPool {} 0 0) 1 = true ∧
       poolGrants {} { d with blks := [(0, { toMid := [sh1 0 0 false], slack := [(midPool {} 0 0, 40)] })] } 0
         (midPool {} 0 0) 1 = false) ∧
    (let s := sAt 12 [] { blks := [(2, { voq := [(strm 0 0, [{ sh1 0 0 false with out := 0 }])] })] }
     (s.dev.blk 2).sent2 ≠ s.env.cycle + 1 ∧ outOf s.env 2 = 0 ∧
       pickStage2 s.env s.dev 2 = some { sh1 0 0 false with out := 0 }) := by
  decide +kernel

/-- RidgeOrdering: a descriptor with the expected number and with a later one, a further shingle of a frame; a credit; a
number missing for 20 us; a frame incomplete for its time. -/
theorem wit_RidgeOrdering :
    (∀ q ∈ [0, 1, 2 ^ 23], let d : Dev :=
       { sends := [(1, { frame := 1, outBlk := 8, desc := [256 * q] })], blks := [(8, { toOut := [sh1 0 (q % 1024) false] })] }
     (d.blk 8).toOut = [sh1 0 (q % 1024) false] ∧ tget 0 (d.blk 8).expect (strm 0 0) = 0 ∧
       asmOf d 8 (sh1 0 (q % 1024) false) = none ∧ d.asms = [] ∧ bits ((d.send 1).desc.getD 0 0) 31 8 = q ∧
       (d.send 1).done = false ∧ ((q + 2 ^ 24 - 0) % 2 ^ 24 < 2 ^ 23 ↔ q ≠ 2 ^ 23)) ∧
    (let a : Asm := { out := 8, src := 0, send := 1, got := [0] }
     let d : Dev := { asms := [(4, a)], blks := [(8, { toOut := [sh1 1 0 false] })] }
     asmOf d 8 (sh1 1 0 false) = some 4 ∧ (d.asm 4).orderedAt = none ∧ (d.asm 4).copies = [] ∧ (d.asm 4).dead = false ∧ (sh1 1 0 false).idx ≠ 0) ∧
    (let d : Dev := { blks := [(0, { credits := [(strm 8 1, 0)] })] }
     (d.blk 0).credits.find? (fun c => c.1 == strm 8 true.toNat) = some (strm 8 1, 0)) ∧
    (let a : Asm := { out := 8, src := 0, send := 1, seq := 1, desc := some [] }
     let s := sAt 3000000000 [] { asms := [(4, a)] }
     (4, a) ∈ s.dev.asms ∧ a.desc.isSome = true ∧ a.orderedAt = none ∧ a.heldAt + us (skipUs s.env) ≤ s.env.third ∧
       ∀ kv ∈ s.dev.asms, kv.2.seq ≠ tget 0 (s.dev.blk 8).expect (strm 0 0)) ∧
    (let a : Asm := { out := 8, src := 0, send := 1, desc := some [], orderedAt := some 0 }
     let s := sAt 3000000000 [] { asms := [(4, a)] }
     (s.dev.asm 4).out = 8 ∧ (s.dev.asm 4).orderedAt = some 0 ∧ (s.dev.asm 4).whole = false ∧
       (s.dev.asm 4).dead = false ∧ 0 + us (asmUs s.env) ≤ s.env.third) ∧
    (sOf [] {}).scopeFree 49 := by
  refine ⟨by decide +kernel, by decide +kernel, by decide +kernel, by decide +kernel, by decide +kernel, quiet rfl _⟩

/-- RidgeOrdering: every frame of such a state stands at an output block there is. -/
theorem wit_RidgeOrdering_out : ∀ j, ((({ asms := [(4, { out := 8 })] } : Dev)).asm j).out < 16 := by
  intro j
  by_cases h : j = 4
  · subst h; decide
  · have : (({ asms := [(4, { out := 8 })] } : Dev)).asm j = {} := by
      simp [Dev.asm, tget, Ne.symm h]
    rw [this]; decide

/-! ## Thatch and the egress (chapters 09 and 10) -/

/-- A frame of 64 bytes that stands whole at output block 0. -/
def asm1 : Asm := { got := [0, 1], fin := some (1, 64), bytes := zeros 64 }

/-- The CRC-32C of a tile of zeros, in four parts. -/
theorem crc_zeros256 : crc32c (zeros 256) = 3094524304 := by
  have h : zeros 256 = z64 ++ (z64 ++ (z64 ++ z64)) := by decide +kernel
  have h1 : z64.foldl (crcByte 0x82F63B78) 0xFFFFFFFF = 4231468184 := by decide +kernel
  have h2 : z64.foldl (crcByte 0x82F63B78) 4231468184 = 4158167844 := by decide +kernel
  have h3 : z64.foldl (crcByte 0x82F63B78) 4158167844 = 2345306063 := by decide +kernel
  have h4 : z64.foldl (crcByte 0x82F63B78) 2345306063 = 1200442991 := by decide +kernel
  rw [crc32c, h, List.foldl_append, List.foldl_append, List.foldl_append, h1, h2, h3, h4]
  decide
/-- Copy 3 of port 0 stands in unit u of Loft, on channel 0, which is online or not. -/
def dBack (up : Bool) (u : Nat) : Dev :=
  let lo : LoftSt := { chans := if up then [(0, { state := 2 })] else [], inter := [0], up := true, alloc := [u] }
  let tx : Tx := { copy := 9, queue := 0, startAt := 0, endAt := 9, tOut := 0, bytes := z64, ct := false }
  let p : PortSt := { queues := [(0, [3])], tx := some tx }
  { ports := [(0, p)], copies := [(3, { asm := 1, spilled := true, loft := [u] })], asms := [(1, asm1)], loft := lo }
/-- The same with the tile's bytes zero and its checksum in place. -/
def sBack (up : Bool) (u : Nat) : State :=
  { sOf [(thaReg 0 0xC00, 0x00100000), (thaReg 0 0x404, 0x70007000)] (dBack up u) with
    loft := mwrite [] (csumPlace (dBack up u) u) (natLE 4 3094524304) }

/-- DeepQueues: there is a unit, apart from its checksum's, whose checksum verifies. -/
theorem wit_DeepQueues_sum : ∃ u ∈ [0, 1], ∀ up,
    leNat (mread (sBack up u).loft (csumPlace (sBack up u).dev u) 4) = crc32c (mread (sBack up u).loft (256 * u) 256) := by
  have h4 : (natLE 4 3094524304).length = 4 := rfl
  have hr : ∀ up u, regionUnit (dBack up u) 35 0 = (Config.loftMap 35 1 4).toNat := fun _ _ => rfl
  have ok : ∀ u, u < 2 → (Config.loftMap 35 1 4).toNat ≠ u → ∀ up,
      leNat (mread (sBack up u).loft (csumPlace (sBack up u).dev u) 4) =
        crc32c (mread (sBack up u).loft (256 * u) 256) := by
    intro u hu hne up
    have hz := mread_zeros (sBack up u).loft (256 * u) 256 fun i hi => by
      rw [sBack, mget_mwrite_out]
      · rfl
      · rw [h4, csumPlace, hr]; omega
    rw [hz, crc_zeros256]
    exact (congrArg leNat (mread_mwrite [] (csumPlace (dBack up u) u) (natLE 4 3094524304))).trans (by decide)
  by_cases h : (Config.loftMap 35 1 4).toNat = 0
  · exact ⟨1, by simp, ok 1 (by omega) (by omega)⟩
  · exact ⟨0, by simp, ok 0 (by omega) (by omega)⟩

/-- DeepQueues: a copy being spilled, one to read back on a channel that serves and on one that does not, and audits of the
first, the last and an absent region. -/
theorem wit_DeepQueues :
    (let k : Copy := { asm := 1, spilling := true, charge := 1 }
     let d : Dev := { ports := [(0, { queues := [(0, [3])] })], copies := [(3, k)], asms := [(1, asm1)], loft := loftUp }
     (d.queue 0 0).find? (fun c => (d.copy c).spilling && (d.copyAsm c).whole && !(d.copyAsm c).dead) = some 3 ∧
       (loftTake (ceilDiv (d.asm 1).len 256 - k.loft.length) d).isSome = true ∧
       loftRoom (envOf [(thaReg 0 0xC00, 1)]) d 0 0 1 = true) ∧
    (∀ up ∈ [true, false], ∀ u ∈ [0, 1], let s := sBack up u
      backNext s.dev 0 0 = some 3 ∧ (s.dev.copy 3).started = false ∧ (s.dev.port 0).tx.isSome = true ∧
        queueCharge s.dev 0 0 < bits (qLoft s.env 0 0) 31 16 ∧ unitServed s.dev u = up ∧
        poolGrants s.env s.dev 0 0 (ceilDiv (s.dev.asm 1).len 256) = true) ∧
    (∀ r ∈ [0, 16, 17], let d : Dev := { cmd := cmd1 0x40 [(4, r)] }
     gnsStart d 0 0x40 = true ∧ d.loft.drip = none ∧ bits (argWord d 0 4) 4 0 = r) ∧
    (∀ r ∈ [15, 16], let d : Dev := { cmd := cmdRuns 0x40 [(4, r)], loft := { drip := some (0, r, false, [5]) } }
     d.gns.dead = false ∧ (d.slot 0).used = true ∧ (d.slot 0).finished = false) := by
  decide +kernel

/-- TransmitEnd: a frame that is whole, one that is stomped, and a flow-control frame; a tile that fails under a frame which
is the assembly's started copy. -/
theorem wit_TransmitEnd :
    ∀ st ∈ [none, some 20], ∀ fl ∈ [none, some (8, 0xFFFF)],
      let x : Tx := { copy := 3, queue := 15, startAt := 0, endAt := 100, tOut := 0, bytes := z64, ct := true,
                      stomp := st, flow := fl }
      let s := sAt 100 [] { ports := [(0, { upPort with tx := some x })], copies := [(3, { asm := 1 })], asms := [(1, asm1)] }
      (s.dev.port 0).tx = some x ∧ x.bytes ≠ [] ∧ x.endAt ≤ s.env.third ∧
        copyWhole (s.dev.copy x.copy) (s.dev.copyAsm x.copy) = true ∧ txEnding s.env s.dev 0 x = st.isSome ∧
        (let d : Dev := { s.dev with copies := [(3, { asm := 1, started := true })], asms := [(1, { asm1 with copies := [3] })] }
         (d.copy 3).started = true ∧ (d.copy 3).port = 0 ∧ 3 ∈ (d.copyAsm 3).copies ∧ (d.port 0).preempted = none) := by
  decide +kernel

/-- EgressInstants: a preemptable frame in its preamble, and one half sent, while a Q15 copy waits; a sample that is due. -/
theorem wit_EgressInstants :
    (let x : Tx := { copy := 9, queue := 0, startAt := 0, endAt := 90, tOut := 0, bytes := zeros 1500, ct := false }
     let p : PortSt := { upPort with preState := 2, tx := some x, queues := [(15, [3])] }
     let s := sAt 0 [(0x1200004, 1)] { dUp p with copies := [(3, { asm := 1, queue := 15 })], asms := [(1, asm1)] }
     let d := s.dev.setPort 0 { s.dev.port 0 with tx := none }
     (s.dev.port 0).tx = some x ∧ x.flow = none ∧ x.stomp = none ∧ x.sentBefore = 0 ∧ preActive s.dev 0 = true ∧
       express s.env 0 x.queue = false ∧ (s.env.third - x.startAt) * portRate s.dev 0 < 8 * 24000000 ∧
       considered s.env d 0 15 = true ∧ (d.queue 0 15).head? = some 3 ∧ tooOld s.env 0 15 (d.copyAsm 3) = false ∧
       oversize s.env d 0 15 (lenTx d 3) = false ∧ lenTx d 3 ≤ maxLen s.env 0) ∧
    (let x : Tx := { copy := 9, queue := 0, startAt := 0, endAt := 90, tOut := 0, bytes := zeros 1500, ct := false }
     let p : PortSt := { upPort with preState := 2, tx := some x, queues := [(15, [3])] }
     let s := sAt 45 [(0x1200004, 1)] { dUp p with copies := [(3, { asm := 1, queue := 15 })], asms := [(1, asm1)] }
     let sent := txSent s.env s.dev 0 x
     let frag := 64 * (s.env.f (pbReg 0 0x40) 9 8 + 1)
     let idle := s.dev.setPort 0 { s.dev.port 0 with tx := none }
     let d := s.dev.setPort 0 { s.dev.port 0 with tx := none, preempted := some { x with sentBefore := x.sentBefore + sent } }
     preActive s.dev 0 = true ∧ express s.env 0 x.queue = false ∧ txAllowed s.env s.dev 0 = true ∧
       (s.dev.port 0).flowQ = [] ∧ 8 * 24000000 ≤ (s.env.third - x.startAt) * portRate s.dev 0 ∧ frag ≤ sent ∧
       64 ≤ x.bytes.length - x.sentBefore - sent ∧ 2 * frag + 4 ≤ x.bytes.length ∧
       expressWaits s.env idle 0 = true ∧ expressWaits s.env d 0 = true ∧ pickQueue s.env d 0 = some 15 ∧
       (d.queue 0 15).head? = some 3 ∧ tooOld s.env 0 15 (d.copyAsm 3) = false ∧
       oversize s.env d 0 15 (lenTx d 3) = false ∧ lenTx d 3 ≤ maxLen s.env 0) ∧
    (let s := sAt 3000 [(egsReg 0 0x840, 0x80000001)] {}
     bit (s.env.reg (egsReg 0 0x840)) 31 = true ∧
       (s.dev.port 0).sampleAt + us (clamp 1 1000 (bits (s.env.reg (egsReg 0 0x840)) 9 0)) ≤ s.env.third) ∧
    (sOf [] {}).scopeFree 50 := by
  refine ⟨by decide +kernel, by decide +kernel, by decide +kernel, quiet rfl _⟩

/-- ShadowSwaps: sets that are free and sets that wait already; a port swap at its time; the two profile swaps. -/
theorem wit_ShadowSwaps :
    (∀ w ∈ [none, some (0, 7)],
      let d : Dev := { cmd := cmd1 0x30 [(4, 12), (5, 1)], wredSwap := w, policerSwap := w, ports := [(0, { swap := w })] }
      gnsStart d 0 0x30 = true ∧ swapPorts d 0 = [0] ∧ bit (argWord d 0 4) 2 = true ∧ bit (argWord d 0 4) 3 = true ∧
        ((swapStanding d &&& swapNamed d 0) ≠ 0 ↔ w.isSome = true)) ∧
    (let d : Dev := { cmd := cmd1 0x30 [(4, 12), (5, 1)], ports := [(5, { swap := some (0, 7) })] }
     (waitingSlots d 0x30).head? = some 0 ∧ (swapStanding d &&& swapNamed d 0) = 0 ∧ (swapNamed d 0 &&& 1) ≠ 0 ∧
       (swapStanding d &&& 32) ≠ 0) ∧
    (let s := sOf [] { ports := [(0, { swap := some (0, 0) })] }
     (s.dev.port 0).swap = some (0, 0) ∧ portSwapAt s.env 0 0 = some 0) ∧
    (let d : Dev := { wredSwap := some (0, 0), cmd := cmdRuns 0x30 [] }
     d.wredSwap = some (0, 0) ∧ 0 ≤ ({} : Env).ltNs ∧ d.policerSwap = none ∧ (∀ p ∈ d.ports, p.2.swap = none) ∧
       (d.slot 0).used = true ∧ (d.slot 0).finished = false) ∧
    (({ policerSwap := some (0, 0) } : Dev).policerSwap = some (0, 0)) := by
  decide +kernel

/-! ## Quartz (chapter 12) -/

/-- LT runs, 3 ms after reset, with domain 1 as given. -/
def eLt (l : List (Nat × Nat)) (m : Domain) : Env :=
  { envOf l with third := 9000000, ltBase := some 0, doms := [{}, m, {}, {}] }

/-- TimeDomains: a locked PLL; each operation at once and at a later time, an operation that waits already, a slew of more
than a second, a discipline in force; an operation whose time has come; a slew that has run out. -/
theorem wit_TimeDomains :
    (({ pwr := { locked := true } } : Dev).pwr.locked = true ∧ ({ env := eLt [] {} } : State).scopeFree 51 ∧
      (eLt [] {}).doms.length = 4) ∧
    (∀ at_ ∈ [0, 3000000, 3000001], let e := eLt [(0xB00158, at_)] {}
     e.reg (0xB00154) * 2 ^ 32 + e.reg (0xB00158) = at_ ∧ e.ltNs = 3000000 ∧ disciplining e {} = false ∧
       ((e.dom 1).now e.lt3).pend = none ∧ ¬ 65536 * 1000000000 < (toSigned 96 (domVal e 1)).natAbs) ∧
    ((((eLt [] { pend := some { op := 1, val := 0, atNs := 4000000, rate := 1 } }).dom 1).now 9000000).pend.isSome = true ∧
      65536 * 1000000000 < (toSigned 96 (domVal (eLt [(0xB0014C, 0x10000)] {}) 1)).natAbs) ∧
    disciplining (eLt [(0x1100000, 0xA0000000), (0x1100004, 1)] {}) {} = true ∧
    (∃ o : DomOp, ((eLt [] { pend := some { op := 1, val := 0, atNs := 3000000, rate := 1 } }).dom 1).pend = some o ∧
      o.atNs ≤ (eLt [] {}).ltNs) ∧
    (let m := ((eLt [] { slewing := true }).dom 1).now 9000000
     m.slewing = true ∧ m.slewRem = 0) := by
  refine ⟨⟨rfl, quiet rfl _, rfl⟩, by decide +kernel, by decide +kernel, by decide +kernel,
    ⟨_, rfl, by decide +kernel⟩, by decide +kernel⟩

/-- TimeSignals: a periodic edge and a single one that are due, a single one that has been; a pulse at its end; a queue with
room and a full one, each polarity; the wanted PPS edge of both polarities. -/
theorem wit_TimeSignals :
    (∀ per ∈ [true, false], ∀ k ∈ [0, 1],
      let e := eLt [(toutReg 7 0, 0x81000000 + (if per then 0x40000000 else 0)), (toutReg 7 0x10, 1000)] { count := 3000000 * 65536 * domUnit }
      let d : Dev := { qtz := { tout := [(7, { running := true, k := k })] } }
      e.b (toutReg 7 0) 31 = true ∧ (d.tout 7).running = true ∧ toutPeriodic e 7 = per ∧ (d.tout 7).k = k ∧
        (toutStart e 7 + (d.tout 7).k * toutPeriod e 7) * 65536 ≤ e.domN (toutDom e 7)) ∧
    (let d : Dev := { qtz := { tout := [(7, { pulseEnd := some 3000000 })] } }
     (d.tout 7).pulseEnd = some 3000000 ∧ 3000000 ≤ (eLt [] {}).ltNs) ∧
    (∀ x ∈ [(0, true), (1, true), (2, false), (3, true), (3, false)],
      let e := envOf [(0xB00A60, 0x80000005 + x.1 * 2 ^ 29)]
      4 < e.f 0xB00A60 7 0 ∧ e.f 0xB00A60 7 0 ≤ 5 ∧ e.b 0xB00A60 31 = true ∧ (e.f 0xB00A60 30 29 = 3 ∨ (e.f 0xB00A60 30 29 = 2 ∧ x.2 = false) ∨
        (e.f 0xB00A60 30 29 < 2 ∧ x.2 = true))) ∧
    (∀ n ∈ [15, 16], let d : Dev := { qtz := { tin := [(3, List.replicate n 0)] } }
     ((tget [] d.qtz.tin 3).length < 16 ↔ n = 15)) ∧
    (∀ down ∈ [true, false], let e := envOf [(0xB00B00, 0x80000000 + (if down then 0x40000000 else 0))]
     e.b 0xB00B00 31 = true ∧ e.b 0xB00B00 30 = down) := by
  decide +kernel

/-- R290: with a ratio of zero a domain counts nanoseconds as LT does. -/
theorem test_domain_counts : (eLt [] {}).domNs 1 = 3000000 := by decide +kernel

/-! ## Gutter, statistics and performance counters (chapter 13) -/

/-- An export whose sends are at most 1 KiB, with the header of an IPv4 UDP frame. -/
def expEnv (mss : Nat) : Env :=
  envOf [(0xC02000, 0x802A0000 + mss), (0xC02004, 1), (0xC0210C, 0x08004500), (0xC02114, 0x00000011)]

/-- GutterRing: a record that fits, one that does not in stop and in overwrite mode; a read index within and outside; a send
that is full, whose header can and cannot be segmented. -/
theorem wit_GutterRing :
    (∀ wr ∈ [0, 32767], ∀ rec ∈ [[], [({ unit := wr, units := 32768 } : RingRec)]], ∀ ow ∈ [0, 1],
      let g : GutSt := { wr := wr, rd := wr, recs := rec, staging := [{ bytes := zeros 32 }] }
      let e := envOf [(0xC00000, 0x80000000 + ow * 2 ^ 30)]
      let d : Dev := { gut := g }
      g.staging = [{ bytes := zeros 32 }] ∧ g.rdWas = none ∧ e.b 0xC00000 31 = true ∧ e.b 0xC00000 30 = decide (ow = 1) ∧
        g.wr + 1 ≤ gutUnits d ∧ (gutUsed d + 1 ≤ gutUnits d ↔ rec = [])) ∧
    (let full : List RingRec := [{ unit := 0, units := 32768 }]
     let g : GutSt := { rd := 5, staging := [{ bytes := zeros 32 }], rdWas := some (1, 0, full) }
     let e := envOf [(0xC00000, 0xC0000000)]
     g.rdWas = some (e.cycle + 1, 0, full) ∧ e.b 0xC00000 31 = true ∧ e.b 0xC00000 30 = true ∧
       0 < gutShort { gut := { g with rd := 0, recs := full ++ g.recs, rdWas := none } } 1) ∧
    (({ gut := { overAt := 1 } } : Dev).gut.overAt = ({} : Env).cycle + 1) ∧
    (let d : Dev := { gut := { wr := 2, recs := [{ unit := 0, units := 2 }] } }
     ({} : Env).b 0xC02000 31 = false ∧ d.gut.overAt ≠ ({} : Env).cycle + 1 ∧ (2 < gutUnits d ∧ (2 + gutUnits d - d.gut.rd) % gutUnits d ≤ gutUsed d) ∧
       ¬ ((3 + gutUnits d - d.gut.rd) % gutUnits d ≤ gutUsed d)) ∧
    (∀ mss ∈ [1024, 0], let e := expEnv mss
     let recs : List RingRec := [{ unit := 0, units := 16 }, { unit := 16, units := 16 }, { unit := 32, units := 16 }]
     let d : Dev := { gut := { wr := 64, recs := recs } }
     let x := expGather d.gut (expMss e) (expMax e - (expHeader e).length) d.gut.recs [] 0
     e.b 0xC02000 31 = true ∧ x.2.1 = 1 ∧ x.2.2 = true ∧
       (tsoOk (expHeader e ++ x.1) (expHeader e).length (expMss e) = decide (mss = 1024))) := by
  decide +kernel

/-- SnapshotsAndFlows: a snapshot of all groups and of none, at its instant; a flow command in order and one beyond the last
counter; an accumulator at its spill level. -/
theorem wit_SnapshotsAndFlows :
    gnsStart { cmd := cmd1 0x31 [(4, 31)] } 0 0x31 = true ∧
    (∀ g ∈ [0, 31], let r : SnapReq := { lt := 0, groups := g, late := false, slot := 0, saved := [(5, 1)] }
     let d : Dev := { stat := { snaps := [r], live := [(1576960, 7)] }, cmd := cmdRuns 0x31 [] }
     d.stat.snaps = [r] ∧ Tbl.risesFrom 0 r.saved = true ∧ r.lt ≤ ({} : Env).ltNs ∧ d.gns.dead = false ∧ (d.slot 0).used = true ∧
       (d.slot 0).finished = false ∧ bit g (statGroup 1576960) = decide (g = 31)) ∧
    (let x : Flow := { accF := 2 ^ 19, accB := 2 ^ 31 }
     loftServes { loft := loftUp } = true ∧ bit x.accF 19 = true ∧ bit x.accB 31 = true) ∧
    (∀ op ∈ [0x32, 0x33], ∀ a ∈ [524287, 524288], let d : Dev := { cmd := cmd1 op [(4, a), (5, 1)], loft := loftUp }
     canStart d 0 op = true ∧ loftServes d = true ∧ flowArgsOk d 0 = decide (a = 524287)) := by
  decide +kernel

/-- PerformanceCounters: a counter that has passed its range, with and without reload, no counter counting events; a
window at its end. -/
theorem wit_PerformanceCounters :
    (let d : Dev := { pmu := { ctr := [(0, 2 ^ 48 + 6), (1, 9)], now := [(0, (0, 6)), (1, (0, 9))] } }
     pmuNow {} d 0 = 6 ∧ 2 ^ 48 ≤ tget 0 d.pmu.ctr 0 - pmuNow {} d 0 ∧ tget 0 d.pmu.ctr 1 - pmuNow {} d 1 < 2 ^ 48) ∧
    (∀ rl ∈ [0, 1], let e := envOf [(0xD01104, 0x80000000 + rl * 2 ^ 30), (0xD01000, 0x40000000)]
     let d : Dev := { pmu := { ctr := [(0, 2 ^ 48)] } }
     2 ^ 48 ≤ tget 0 d.pmu.ctr 0 ∧ (∀ j ∈ pmuEnabled e, bits (e.reg (0xD01100 + 16 * j)) 31 29 ≠ 5) ∧
       e.b 0xD01104 30 = decide (rl = 1) ∧ e.b 0xD01000 30 = true) ∧
    (let s := sAt 3000000000 [] {}
     tget 0 s.dev.pmu.bwStart 95 + us (bwWindow s.env) ≤ s.env.third) ∧
    (sOf [] {}).scopeFree 52 := by
  refine ⟨by decide +kernel, by decide +kernel, by decide +kernel, quiet rfl _⟩

/-! ## Purlin and Loft (chapter 14) -/

/-- PurlinArbiters: a decision with requests, a parked loser with room and one without, and one with none; a granted
request withdrawn in and out of the protection table's bit; a quota window at its end. -/
theorem wit_PurlinArbiters :
    (∀ z ∈ [false, true], let d : Dev := { cmd := cmd1 0x24 [(4, 2)], slate := { scrubAt := 1048576 } }
     let e := if z then envOf [(0xE40000, 1)] else {}
     e.b 0xE40000 0 = z ∧ tget 0 (d.arb 17).nextAt 0 ≤ arbCycle 17 e.third ∧
       keepServed (wants e d 17 false) false (d.arb 17) = [] ∧
       (contenders (d.arb 17) false (wants e d 17 false)).map (·.id) = [34, 50] ∧
       (∀ r ∈ wants e d 17 false, accepts d 17 r = true ∧ sideMasked d r.id = false ∧
         (decide (6 ≤ purPrio e r.id) && decide (e.f 0xE40008 15 0 ≤ tget 0 (d.arb 17).wins r.id)) = false) ∧
       purPrio e 34 = 2 ∧ purPrio e 50 = 0) ∧
    (contenders (({} : Dev).arb 17) false (wants {} {} 17 false) = [] ∧
      contenders (({} : Dev).arb 0) true (wants {} {} 0 true) = []) ∧
    (∀ id ∈ [33, 38], let w : PurReq := { id := id, odd := false, key := 0, acc := [(0, 0)] }
     let x : ChSt := { state := 2, queue := [{ req := id, bank := 0, row := 0, since := 0 }] }
     let d : Dev := { loft := { arbs := [(0, { grant := [(0, (w, 0))] })], chans := [(0, x)] } }
     tfind (d.arb 0).grant 0 = some (w, 0) ∧ w.id = id ∧ untouched {} d 0 false w 0 = true ∧ (d.arb 0).pipelined = true ∧
       arbCycle 0 ({} : Env).third ≤ arbCycle 0 0 + 1) ∧
    ((envOf [(0xE40184, 0x105)]).b (0xE40100 + 4 * 33) 8 = true ∧ ({} : Env).b (0xE40100 + 4 * 38) 8 = false) ∧
    (let d : Dev := { cmd := cmd1 0x24 [(4, 2)] }
     tfind (d.arb 17).grant 0 = none ∧
       ((wants {} d 17 false).find? (fun r => r.id == 34 && !((d.arb 17).served.contains (r.id, r.key, false)))).isSome) ∧
    (let r : PurReq := { id := 33, odd := false, key := 0, acc := [(0, 0)] }
     let d : Dev := { loft := { arbs := [(0, { pend := [r] })] } }
     tfind (d.arb 0).grant 0 = none ∧ (d.arb 0).pend.find? (fun r => r.id == 33 && r.odd == false) = some r ∧
       (wants {} d 0 false).find? (fun r => r.id == 33 && !((d.arb 0).served.contains (r.id, r.key, false))) = none) ∧
    (∀ a ∈ [15, 16], let s := sAt 900000000 [] {}
     (s.dev.arb a).winStart + quotaLen s.env a ≤ s.env.third) := by
  decide +kernel

/-- Channel 0, online. -/
def dChan (x : ChSt) : Dev := { loft := { chans := [(0, { x with state := 2 })] } }
/-- An access to bank 1. -/
def acc1 (row since : Nat) : Access := { req := 3, bank := 1, row := row, since := since }

/-- LoftTraffic: an access of the burst, one older than 2 us, a row hit, the oldest; a row whose group is listed, below and
at the limit, and one whose group is not, with room in the table and none; a refresh that is due with and without accesses
queued; the rest of the upkeep. -/
theorem wit_LoftTraffic :
    ((dChan {}).chan 0).state = 2 ∧
    (∀ w ∈ [none, some 0, some 9],
      let t : TrainSt := { slot := 0, ch := 0, item := 0, lane := 0, last := 255, stride := 1, mapAddr := 0, next := 0,
                           passed := [], wasOnline := true, pattern := none, windows := 1, windowTo := w }
      let d : Dev := { dChan {} with loft := { (dChan {}).loft with train := some t } }
      windowOn {} d 0 = decide (w = some 9)) ∧
    (({ queue := [], feed := [acc1 8 0] } : ChSt).feed ≠ []) ∧
    (∀ x ∈ [({ queue := [acc1 8 9000], burst := [(3, 9000)] } : ChSt), { queue := [acc1 8 0] },
        { queue := [acc1 8 9000], openRow := [(1, 8)] }, { queue := [acc1 8 9000] }],
      let e := { envOf [] with third := 9000 }
      x.queue.filter (mayIssue e x) = x.queue ∧ x.queue ≠ []) ∧
    (inBurst { burst := [(3, 9000)] } (acc1 8 9000) = true ∧ 0 + us 2 < 9000 ∧
      activates { openRow := [(1, 8)] } (acc1 8 9000) = false ∧ activates {} (acc1 8 9000) = true) ∧
    (∀ n ∈ [0, 999999], let en : Aggr := { group := 1, count := n, lead := 3, vote := 1 }
     [en].findIdx? (fun r => r.group == (acc1 8 0).row / 8) = some 0 ∧
       (n + 1 ≤ max 1 (({} : Env).f 0xE00010 31 16) ↔ n = 0)) ∧
    (let e := { envOf [] with third := 9000 }
     ∀ p ∈ [7, 8], ∀ q ∈ [[], [acc1 8 9000]], let x : ChSt := { state := 2, queue := q, post := [(0, p)], dueBank := 1 }
     x.dueAt + trefi x ≤ 8 * e.third ∧ bankQueued x 1 = decide (q ≠ [])) ∧
    (let d := dChan { post := [(5, 1)], rfm := [5] }
     (d.chan 0).burst = [] ∧ bankHeld {} (d.chan 0) 5 = false ∧ tget 0 (d.chan 0).post 5 ≠ 0 ∧
       bankQueued (d.chan 0) 5 = false ∧ 5 ∈ (d.chan 0).rfm) ∧
    (let s := sAt 3000000000 [] {}
     s.dev.loft.aggrAt + ms (max 1 (s.env.f 0xE00010 15 8)) ≤ s.env.third) ∧
    (tfind ((dChan { thr := [(3, (9, 0))] }).chan 0).thr 3 = some (9, 0) ∧ 9 ≤ (sAt 9 [] {}).env.third) := by
  decide +kernel

/-- A sweep of settings 0 to 255. -/
def train1 (next : Nat) (passed : List Nat) : TrainSt :=
  { slot := 0, ch := 0, item := 0, lane := 0, last := 255, stride := 1, mapAddr := 4096, next := next, passed := passed,
    wasOnline := true, pattern := none, windows := 1, windowTo := some 0 }

/-- LoftTraining: a sweep that may start, one of a lane there is not; the last setting's test; an end with and without a
setting that passed, the channel online; a restart whose mask names a channel without an eye and one that does not. -/
theorem wit_LoftTraining :
    (∀ lane ∈ [1, 2], let d : Dev := { cmd := cmd1 0x41 [(4, lane * 256), (5, 0x0001FF00)] }
     gnsStart d 0 0x41 = true ∧ d.loft.train = none ∧ d.loft.restart = none ∧ bits (argWord d 0 5) 7 0 ≤ bits (argWord d 0 5) 15 8 ∧
       bits (argWord d 0 5) 23 16 ≠ 0 ∧ (bits (argWord d 0 4) 12 8 < [2, 2, 16, 8, 1, 1].getD (bits (argWord d 0 4) 7 5) 0 ↔
         lane = 1)) ∧
    (∀ up ∈ [true, false], let s := sAt 765000 [] { loft := { train := some (train1 255 []) }, pwr := { on := [(130, up)] } }
     s.dev.loft.train = some (train1 255 []) ∧ unitOn s.dev (130 + (train1 255 []).ch / 4) = up ∧
       (train1 255 []).next ≤ (train1 255 []).last ∧ s.dev.gns.dead = false ∧
       0 + us (max 1 (s.env.f 0xE00004 7 0)) ≤ s.env.third) ∧
    (∀ p ∈ [[], [0, 255]], let d : Dev := { dChan {} with cmd := cmdRuns 0x41 [], loft := { loftUp with train := some (train1 256 p) } }
     (train1 256 p).last < (train1 256 p).next ∧ (train1 256 p).windowTo = some 0 ∧ d.gns.dead = false ∧ (d.slot 0).used = true ∧ (d.slot 0).finished = false ∧
       chanOn d 0 = true ∧ (d.slot 0).forHead = false) ∧
    (∀ ne ∈ [true, false],
      let d : Dev := { cmd := cmd1 0x42 [(4, 0x80000000)], loft := { chans := [(31, { noEye := ne })] } }
      gnsStart d 0 0x42 = true ∧ d.loft.train = none ∧ d.loft.restart = none ∧ d.copies = [] ∧
        bit (argWord d 0 4) 31 = true ∧ (d.chan 31).noEye = ne) ∧
    (∃ p ∈ (List.range 8).filter (fun p => decide (bits 1 (4 * p + 3) (4 * p) ≠ 0)), unitOn {} (130 + p) = false) ∧
    (let d : Dev := { cmd := cmdRuns 0x42 [], loft := { restart := some (0, 1) }, pwr := { on := [(130, true)] } }
     (∀ p ∈ (List.range 8).filter (fun p => decide (bits 1 (4 * p + 3) (4 * p) ≠ 0)), unitOn d (130 + p) = true) ∧ d.loft.restart = some (0, 1) ∧ d.gns.dead = false ∧ (d.slot 0).used = true ∧ (d.slot 0).finished = false) := by
  decide +kernel

/-! ## Twin (chapter 15) -/

/-- TwinStateCopy: a learn record and an age-out record at the head of the host queue, of a key stored, its region locked
and not, the last of a full copy and not. -/
theorem wit_TwinStateCopy_learn :
    ∀ op ∈ [3, 4], ∀ held ∈ [[], (List.range 64).map (fun i => (i, 0))], ∀ left ∈ [none, some 1, some 2],
      let r : LearnReq := { req5 with op := op }
      let d : Dev := { slate := { x := [(slot5, stored5 false)], held := held, hostQ := [r] }, twin := { copyLeft := left } }
      portsTake learnEnv d = d ∧ learnNext d = some 16 ∧ d.slate.hostQ = [r] ∧ d.twin.copyLeft = left ∧
        learnLocked learnEnv d 0 5 = !held.isEmpty ∧ xFind learnEnv d 0 (xKey learnEnv 0 5) = some slot5 ∧
        xFind learnEnv d 0 (xKey learnEnv 0 6) = none := by
  decide +kernel

/-- TwinStateCopy: a role exchange at both roles, the Flashing lanes on and not; a boundary at both roles, and one at which the handover is due; a copy
that is due; a standby to receive records; a switch that may be armed and one that may not. -/
theorem wit_TwinStateCopy :
    (∀ role ∈ [0, 1], let e := eTwin role 0
     e.b 0x1100000 31 = true ∧ e.b 0x1200004 0 = true ∧ e.b 0x1100004 0 = decide (role = 1) ∧
       ∀ on ∈ [true, false],
         let d : Dev := { twin := { state := 1, enabledAt := some 0 }, pwr := { on := [(128, true), (129, on)] } }
         d.twin.state = 1 ∧ d.twin.enabledAt.isSome = true ∧ unitOn d 128 = true ∧ unitOn d 129 = on) ∧
    (∀ role ∈ [0, 1], ∀ h ∈ [none, some (0, 0, 0)], let e := eTwin role 0
     let d : Dev := { twin := { state := 3, k := 7, handover := h } }
     e.b 0x1100000 31 = true ∧ d.twin.state = 3 ∧ d.twin.k ≠ twinK e ∧ 0 ≤ e.domNs 0) ∧
    (let d : Dev := { twin := { state := 2, copyDue := true, toSend := [(4, 1)], full := true } }
     (eTwin 0 0).b 0x1100000 31 = true ∧ d.twin.state = 2 ∧ (eTwin 0 0).b 0x1100004 0 = false ∧ d.twin.copyDue = true ∧
       d.gns.dead = false) ∧
    (∀ dis ∈ [0, 0x20000000], let e := eTwin 1 dis
     e.b 0x1100000 31 = true ∧ e.b 0x1100004 0 = true ∧ e.b 0x1100000 29 = decide (dis ≠ 0) ∧ e.doms.length = 4) ∧
    (∀ st ∈ [2, 3], let d : Dev := { cmd := cmd1 0x50 [], twin := { state := st } }
     canStart d 0 0x50 = true ∧ d.twin.handover = none ∧ (d.twin.state = 3 ↔ st = 3)) := by
  decide +kernel

/-- TwinTakeover: heartbeats with and without a handover at a standby that may and may not take over; the first and the
second miss; an answer to a handover; the second and the third missed acknowledgement, with the wired fence in use and not;
the fence input rising at an active and at a standby; a notice; a fenced device. -/
theorem wit_TwinTakeover :
    (∀ el ∈ [true, false], ∀ m ∈ [0, 1],
      let s : State := { env := { eTwin 1 0 with third := 3000 },
                         dev := { twin := { state := 3, eligible := el, counting := true, k := 5, missHb := m } } }
      s.env.b 0x1100000 31 = true ∧ (s.dev.twin.state = 2 ∨ s.dev.twin.state = 3) ∧ s.env.b 0x1100004 0 = true ∧
        s.dev.twin.eligible = el ∧ s.dev.twin.counting = true ∧ s.dev.twin.hbK ≠ s.dev.twin.k ∧
        s.dev.twin.hbJudged ≠ s.dev.twin.k ∧ s.dev.twin.kAt + us 1 ≤ s.env.third ∧ (2 ≤ s.dev.twin.missHb + 1 ↔ m = 1)) ∧
    (∀ h ∈ [none, some (0, 5)], let d : Dev := { cmd := cmdRuns 0x50 [], twin := { state := 3, handed := h } }
     d.twin.handed = h ∧ (d.slot 0).used = true ∧ (d.slot 0).finished = false) ∧
    (∀ m ∈ [1, 2], ∀ wf ∈ [0, 0x40000000],
      let s : State := { env := { eTwin 0 wf with third := 9000 },
                         dev := { twin := { state := 3, counting := true, k := 5, missAck := m } } }
      ¬ s.env.b 0x1100004 0 = true ∧ s.dev.twin.handover = none ∧ s.dev.twin.ackK ≠ s.dev.twin.k ∧
        s.dev.twin.ackJudged ≠ s.dev.twin.k ∧ s.dev.twin.kAt + us 3 ≤ s.env.third ∧
        (3 ≤ s.dev.twin.missAck + 1 ↔ m = 2) ∧ (s.env.b 0x1100000 30 = decide (wf ≠ 0)) ∧ s.dev.twin.fenceIn = false) ∧
    (∀ role ∈ [0, 1], let e := eTwin role 0x40000000
     e.b 0x1100000 31 = true ∧ e.b 0x1100000 30 = true ∧ e.b 0x1100004 0 = decide (role = 1)) ∧
    ({ twin := { state := 4 } } : Dev).twin.state = 4 := by
  decide +kernel

/-- R375: the second heartbeat missed in a row makes an eligible standby take the active role. -/
theorem test_takeover :
    ∃ t, exec .heartbeatMiss { env := { eTwin 1 0 with third := 3000 }, dev := { twin :=
        { state := 3, eligible := true, counting := true, k := 5, missHb := 1 } } } = .next t ∧
      t.env.b 0x1100004 0 = false ∧ t.dev.twin.fenceOut = true :=
  ⟨_, rfl, by decide +kernel⟩

/-! ## Host port, commands and epochs (chapter 16) -/

/-- Ring r in use with 64 entries, the host owning those below the tail. -/
def hptOn (r tail : Nat) : Tbl Word := [(hptReg r 8 / 4, 0x80000000), (hptReg r 0xC / 4, w32 tail)]
/-- A transmit descriptor. -/
def txd (eop tso : Bool) (len : Nat) : TxDesc :=
  { eop := eop, echo := false, tso := tso, len := len, hdrLen := 42, mss := 1024, cookie := 0 }
/-- A frame for receive ring 63. -/
def hrx1 : HostRx := { ring := 63, bytes := [], len := 64, inPort := 0, ts := 0, hash := 0, ver := 1, frame := 1 }
/-- An echo. -/
def echo1 : Echo := { bytes := z64, status := 1, port := 3, tOut := 0, cookie := 7 }

/-- HostRings: a send of two descriptors within the limits, with room for it, one of sixteen descriptors and one of
seventeen, one of 9,212 bytes and one of 9,213; a frame and an echo with buffers and without, a bad frame; a message left to
the end of its interval. -/
theorem wit_HostRings :
    (let ds := [txd false false 60, txd true false 40]
     let s : State := { env := envOf [(0x1200004, 1), (thaReg 15 0x404, 0x70007000)], hpt := hptOn 63 2,
                        dev := { rs := { slots := slots1 [0], active := some 1 } } }
     let o : State := { s with hpt := hptOn 15 2, host := mwrite [] 8 [0, 0, 0, 0x80] }
     s.env.b 0x1200004 0 = true ∧ sendTurn s 63 = true ∧ sendTurn o 63 = false ∧ oneSend ds = true ∧ ds.length ≤ ringAvail s 63 ∧
       ds.foldl (fun a y => a + y.len) 0 = 100 ∧ takesFrames s.env s.dev = true ∧
       (grantRun s.env 15 (inPool s.env 15 6 (classOf s.env 15 6 (zeros 100))) 1 s.dev).1 = 1 ∧
       (verAt s.env s.dev s.env.ltStamp).isSome = true) ∧
    (∀ n ∈ [16, 17], let ds := List.replicate (n - 1) (txd false false 4) ++ [txd true false 4]
     oneSend ds = true ∧ ds.length ≤ ringAvail { hpt := hptOn 0 63 } 0 ∧ (16 < ds.length ↔ n = 17)) ∧
    (∀ bad ∈ [true, false],
      let s : State := { hpt := hptOn 127 1,
                         dev := { blks := [(0, { hostQ := [hrx1] })], frames := [(1, { fr1 with bad := bad })] } }
      (s.dev.blk 0).hostQ = [hrx1] ∧ (s.dev.frame 1).rxDone = true ∧ (s.dev.frame 1).bad = bad ∧
        ringAvail s (64 + hrx1.ring) = 1 ∧
        bufsFor 60 ([{ addr := 0, size := 60 }].take (ringAvail s 127)) = some [{ addr := 0, size := 60 }] ∧
        bufsFor 60 ([{ addr := 0, size := 59 }].take (ringAvail s 127)) = none) ∧
    (let s : State := { hpt := hptOn 64 1, dev := { blks := [(0, { echoes := [echo1] })] } }
     (s.dev.blk 0).hostQ = [] ∧ (s.dev.blk 0).echoes = [echo1] ∧ s.env.f 0xB00D00 5 0 = 0 ∧ ringAvail s 64 = 1 ∧
       bufsFor 64 ([{ addr := 0, size := 64 }].take 1) = some [{ addr := 0, size := 64 }] ∧
       bufsFor 64 ([{ addr := 0, size := 63 }].take 1) = none) ∧
    (let s := sAt 6000 [] { rings := [(127, { vecPend := true, vecAt := some 0 })] }
     127 / 2 + 64 * (127 % 2) = 127 ∧ (s.dev.ring 127).vecPend = true ∧ 0 + us 2 ≤ s.env.third) := by
  decide +kernel

/-- Commands: a free slot with a ring on, and each reason to refuse; an entry of the command ring; a completion to post into
the ring's last entry, without and with a stall; a head that moves; the commands. -/
theorem wit_Commands :
    (freeSlot ({} : Dev).cmd.slots 0 = 0 ∧ (envOf [(0x200058, 1)]).f 0x200058 3 0 ≠ 0 ∧ ({} : Env).f 0x200058 3 0 = 0 ∧
      ({} : Dev).pwr.phase ≠ 0 ∧ freeSlot [(0, slotOf1 1 []), (1, slotOf1 1 [])] 0 = 2) ∧
    ((0x01000000 : Nat) / 2 ^ 24 ∈ knownOpcodes ∧ (0x99000000 : Nat) / 2 ^ 24 ∉ knownOpcodes ∧
      (envOf [(0x200100, 0x40), (0x200104, 2)]).b 0x200100 6 = true ∧
      bit ((envOf [(0x200104, 2)]).reg 0x200104) 1 = true) ∧
    (let e := envOf [(0x200078, 1), (0x20007C, 1), (0x200058, 1)]
     e.f 0x200078 3 0 ≠ 0 ∧ 0 % 64 ≠ e.f 0x20007C 12 0 % 64) ∧
    (∀ hd ∈ [1, 2], let e := envOf [(0x200058, 1), (0x200060, hd)]
     cplSize e = 64 ∧ cplBlocked e { cmd := { tail := 63 } } = false ∧ ({} : Dev).pwr.pcieUp = true ∧
       (((63 + 1) % 64 + 1) % 64 = e.f 0x200060 12 0 % 64 ↔ hd = 1)) ∧
    (canStart { cmd := cmd1 0x01 [] } 0 0x01 = true ∧ canStart { cmd := cmd1 0x02 [] } 0 0x02 = true ∧
      gnsStart { cmd := cmd1 0x60 [] } 0 0x60 = true ∧ gnsBusyFor { cmd := cmd1 0x60 [] } 0 = false) := by
  decide +kernel

/-- The head of a group, with a key for member 1; a member. -/
def eHead : Env := envOf [(0x200100, 0x40), (0x200104, 2), (0x1200004, 1)]
/-- A message of a type from a device to device `dst`, without its tag. -/
def msg (type src dst ctr ms : Nat) : List Byte :=
  battenBody type src dst ctr ms (zeros ((battenLen type).getD 0))

/-- The tag that a message ends with is found where the check looks for it. -/
theorem msg_tag (key iv : Nat) (m : List Byte) (n : Nat) (h : m.length = 12 + n) :
    slice (m ++ gmac key iv m) (12 + n) 16 = gmac key iv ((m ++ gmac key iv m).take (12 + n)) := by
  have h16 : (gmac key iv m).length = 16 := by simp [gmac, natBE, natLE]
  rw [List.take_append_of_le_length (by omega), List.take_of_length_le (by omega)]
  simp [slice, ← h, List.take_of_length_le, h16]

/-- EpochsAndGroups: a rebuild under way; a message of each type at the head, its counter next and old; one at a member,
with the member's own key; a message answered late, with resends left and none. -/
theorem wit_EpochsAndGroups :
    (let d : Dev := { cmd := { rebuilding := true }, twin := { state := 1 } }
     d.cmd.rebuilding = true ∧ d.gns.dead = false ∧ d.twin.handover = none ∧ d.twin.enabledAt = none ∧
       twinOn (eTwin 0 0) = true) ∧
    (∀ ty ∈ [2, 3, 4], let m := msg ty 1 0 8 0x100
     let o : MSlot := { slot := 0, gen := 1, sentAt := 0, resends := 0, acked := false }
     let x : MembSt := { last := 7, out := [(0, o)] }
     let d : Dev := { cmd := { keyValid := 2, memb := [(1, x)], slots := [(0, { slotOf1 1 [] with member := some 1 })] } }
     m.length = 12 + (battenLen ty).getD 0 ∧ beAt m 0 1 = 1 ∧ beAt m 1 1 = ty ∧ beAt m 3 1 = eHead.f 0x200100 5 0 ∧
       takesFrames eHead d = true ∧ (battenKey eHead d (beAt m 2 1)).isSome = true ∧ isHead eHead = true ∧
       (d.memb 1).last < beAt m 4 6 ∧ beAt (msg ty 1 0 7 0) 4 6 ≤ (d.memb 1).last ∧
       (tfind (d.memb 1).out (beAt m 10 2 % 256)).map (·.gen) = some (beAt m 10 2 / 256 % 16) ∧
       (d.slot 0).used = true ∧ (d.slot 0).finished = false ∧ (d.slot 0).forHead = false) ∧
    (let e := envOf [(0x200100, 1), (0x1200004, 1)]
     let m := battenBody 1 0 1 1 0x1FF (0x01 :: zeros 63)
     battenLen 1 = some 64 ∧ m.length = 12 + 64 ∧ beAt m 3 1 = e.f 0x200100 5 0 ∧ isHead e = false ∧
       takesFrames e {} = true ∧ (0 : Nat) < beAt m 4 6 ∧ beAt m 10 2 % 256 = 255 ∧
       bits (beAt (slice m 12 64) 0 4) 31 24 ∈ knownOpcodes ∧ freeSlot ({} : Dev).cmd.slots 0 < 4096) ∧
    (∀ n ∈ [2, 3], let e := { envOf [(0x200120, 0x00010003)] with third := 3000 }
     let o : MSlot := { slot := 0, gen := 1, sentAt := 0, resends := n, acked := false }
     let d : Dev := { cmd := { memb := [(1, { out := [(5, o)] })], slots := [(0, { slotOf1 1 [] with member := some 1 })] } }
     (d.slot 0).member = some 1 ∧ (d.memb 1).out.find? (fun kv => kv.2.slot == 0) = some (5, o) ∧ o.acked = false ∧
       o.sentAt + us (max 1 (e.f 0x200120 31 16)) ≤ e.third ∧ (o.resends < e.f 0x200120 3 0 ↔ n = 2)) := by
  decide +kernel

/-- R397: a NOP completes OK. -/
theorem test_nop :
    ∃ t, exec (.nop 0) { dev := { cmd := cmd1 0x01 [(1, 77)] } } = .next t ∧
      t.dev.cmd.cpls.map (fun c => (c.status, c.tag, c.opcode)) = [(0, 77, 1)] :=
  ⟨_, rfl, by decide +kernel⟩


/-- FIPS 197, appendix C.1. -/
theorem test_aes : aesBlock 0x000102030405060708090a0b0c0d0e0f 0x00112233445566778899aabbccddeeff =
    0x69c4e0d86a7b0430d8cdb78070b4c55a := by decide +kernel
/-- The tag of no data under a key and an IV of zeros: test case 1 of the GCM specification that SP 800-38D rests on. -/
theorem test_gmac : gmac 0 0 [] = natBE 16 0x58e2fccefa7e3061367f1d57a4e7455a := by decide +kernel

/-! ## Gneiss (chapter 17) -/

/-- A context of an X_FLUSH in slot 0 at patch word 5. -/
def ctx5 (stk : List (Bool × Nat)) : Ctx :=
  { rt := { kind := .xFlush, slot := some 0 }, space := true, upc := 5, stack := stk }
/-- The state with such a context running the word given. -/
def gnsS (w : Nat) (c : Ctx) : State :=
  { dev := { gns := { run := some c, patch := [(5, BitVec.ofNat 128 w)] }, cmd := cmdRuns 0x22 [] } }
/-- A microword: aluop, next-address type, condition, port, next address. -/
def uw (op ty cond port next : Nat) : Nat := next * 2 ^ 112 + ty * 2 ^ 108 + cond * 2 ^ 104 + op * 2 ^ 96 + port * 2 ^ 72

/-- Gneiss: routines that may start or resume; a word of each group with each type of next address; undefined words and
double-bit errors in patch RAM, in ROM, and in ROM during a rebuild; a request outstanding; commands that may be aborted, with
a context and without. -/
theorem wit_Gneiss :
    (let c := ctx5 []
     let d : Dev := { cmd := { rebuilding := true }, gns := { susp := [c] } }
     (gnsNext d).map (·.kind) = some .rebuild ∧ c.rt.kind.prio < RoutineKind.rebuild.prio ∧
       gnsNext { gns := { susp := [c] } } = none ∧ d.gns.run = none ∧ d.gns.dead = false) ∧
    (∀ x ∈ [(0, 0), (1, 1), (12, 1), (0x10, 2), (0x13, 2), (0x20, 3), (0x23, 3), (0x30, 4), (0x31, 5)],
      ∀ y ∈ [(0, 0), (0, 1), (1, 1), (2, 0), (3, 0)],
      let c := ctx5 [(true, 9)]
      let s := gnsS (uw x.1 y.1 y.2 6 77) c
      let w := gnsWord s.dev (gnsPlace s.dev c).1
      s.dev.gns.run = some c ∧ s.dev.gns.dead = false ∧ aluGroup (gf w 102 96) = some x.2 ∧ gf w 77 72 = 6 ∧
        gf w 103 103 = 0 ∧ gf w 109 108 = y.1 ∧ gf w 107 104 = y.2 ∧ c.stack.length < 8 ∧
        (s.dev.slot 0).used = true ∧ (s.dev.slot 0).finished = false) ∧
    (let s := gnsS (uw 0x7F 0 0 0 0) (ctx5 [])
     aluGroup (gf (gnsWord s.dev (gnsPlace s.dev (ctx5 [])).1) 102 96) = none) ∧
    (let c : Ctx := { ctx5 [] with rt := { kind := .rebuild, slot := none } }
     let s := gnsS (uw 0x7F 0 0 0 0) c
     aluGroup (gf (gnsWord s.dev (gnsPlace s.dev c).1) 102 96) = none ∧ (gnsPlace s.dev c).1.rt.kind = .rebuild) ∧
    (∀ rb ∈ [true, false], let c : Ctx := { ctx5 [] with space := false }
     let d : Dev := { gns := { run := some c }, cmd := { rebuilding := rb } }
     (gnsPlace d c).1.space = false ∧ d.cmd.rebuilding = rb) ∧
    (let d : Dev := { gns := { reqs := [(2, 0, 0x10, 0)] } }
     d.gns.reqs.find? (fun r => r.1 == (2 : Nat)) = some (2, 0, 0x10, 0)) ∧
    (∀ op ∈ [0x22, 0x40, 0x41], ∀ g ∈ [[], [{ ctx5 [] with space := false }]],
      let d : Dev := { gns := { susp := g }, cmd := cmdRuns op [] }
      let x := d.slot 0
      x.used = true ∧ x.finished = false ∧ x.forHead = false ∧ x.member = none ∧ x.gen * 4096 + 0 < 65536 ∧
        (x.desc.getD 0 0).toNat / 2 ^ 24 = op ∧ hasCtx d 0 = !g.isEmpty) := by
  decide +kernel

/-- Gneiss: an aborted routine at a safe point with an unwind entry, and an unwinding one at its Complete word. -/
theorem wit_Gneiss_unwind :
    (let c : Ctx := { ctx5 [] with unwind := some (true, 9) }
     let s := gnsS (uw 0 0 0 0 77 + 2 ^ 103) c
     let d : Dev := { s.dev with gns := { s.dev.gns with aborts := [0] } }
     let w := gnsWord d (gnsPlace d c).1
     d.gns.run = some c ∧ d.gns.dead = false ∧ d.gns.aborts = [0] ∧ c.rt.slot = some 0 ∧ c.unwind = some (true, 9) ∧
       gf w 102 96 = 0 ∧ gf w 77 72 ≤ 6 ∧ gf w 103 103 = 1 ∧ gf w 109 108 = 0 ∧ gf w 107 104 ≤ 1) ∧
    (∀ u ∈ [true, false], let c : Ctx := { ctx5 [] with unwinding := u }
     let s := gnsS (uw 0x30 0 0 0 77) c
     aluGroup (gf (gnsWord s.dev (gnsPlace s.dev c).1) 102 96) = some 4 ∧ c.rt.slot = some 0 ∧
       (s.dev.slot 0).used = true ∧ (s.dev.slot 0).finished = false ∧ c.unwinding = u) := by
  decide +kernel

/-- R415: a call pushes the next word of the space. -/
theorem test_gnsCall :
    ∃ t, exec (.gnsNoOperation .clean) (gnsS (uw 0 0 1 0 77) (ctx5 [])) = .next t ∧
      t.dev.gns.run.map (fun c => (c.space, c.upc, c.stack)) = some (false, 77, [(true, 6)]) :=
  ⟨_, rfl, by decide +kernel⟩

/-! ## Registers and events (chapter 18) -/

/-- The name of the register at an offset. -/
def nameAt (off : Nat) : Option RegName := (regAt off).map (·.1.name)
/-- A scope's waiting write. -/
def waits (sc off v : Nat) : Posted := { scope := sc, offset := off, value := w32 v }
/-- The scope of the register at an offset. -/
def scAt (off : Nat) : Option Nat := (regAt off).bind (fun x => scopeOf x.1 x.2)
/-- Some bit of the register at an offset can be written. -/
def canWrite (off : Nat) : Bool := ((regAt off).map (fun x => x.1.wmask != 0 || x.1.wtmask != 0)).getD false

/-- RegisterAccess, writes: a low and a high half; a register whose scope is free and one whose scope is taken; an _ACK
register; an offset that nothing has; bad widths; the first and last host-port register; writes waiting in one scope. -/
theorem wit_RegisterAccess :
    (nameAt 0xB00100 = some .QTZ_D_ADJ_LO ∧ nameAt 0xB00104 = some .QTZ_D_ADJ_HI ∧ nameAt 0xD01108 = some .PMU_CTR_LO ∧
      canWrite 0xB00100 = true ∧ canWrite 0xB00104 = true ∧ scAt 0xB00104 = some 51 ∧ nameAt 0x1200010 = some .PWR_GOV ∧
      scAt 0x1200010 = some 58 ∧ canWrite 0x1200010 = true) ∧
    ((envOf []).regs.posted.any (fun x => x.scope == 58) = false ∧
      [waits 58 0x1200010 0].any (fun x => x.scope == 58) = true) ∧
    (eventAt 0x8000 = none ∧ (eventAt (0x100000 + 0)).isNone = true ∧ regAt 0x8000 = none ∧ statAt 0x8000 = none ∧
      regAt 0x1FFFFFC = none ∧ eventAt 0x1FFFFFC = none ∧ statAt 0x1FFFFFC = none) ∧
    (∃ k ∈ eventKinds, eventAt (k.cnt + 4) = some (k.group, k.bit, true) ∧ regAt (k.cnt + 4) = none) ∧
    (∀ o ∈ [0, 4, 0x14, 0x18, 0x1FD8], o < 0x2000 ∧ o % 0x40 / 4 ∈ [0, 1, 5, 6] ∧ o % 4 = 0 ∧ ({} : Dev).pwr.fltPending = 0) ∧
    (∀ o ∈ [0xE00010, 0xE40008, 0x1100010, 0x1200010, 0xC00000],
      (regAt o).isSome = true ∧ nameAt o ≠ some .PWR_RST ∧ (∃ sc, scAt o = some sc ∧ sc < 59)) ∧
    (∀ y ∈ [waits 53 0xE00010 1], y.scope ≠ 58) := by
  decide +kernel

/-- RegisterAccess, reads: a voted register of one field of 24 bits with no, one and three copies that differ; the first and
the last voted register; reads within a word and past its end. -/
theorem wit_RegisterAccess2 :
    (nextVoted 0 = some 0x200100 ∧ nextVoted 0x200104 = some 0x20011C ∧ nameAt 0x20011C = some .CMD_BATTEN_SESSION ∧
      (regAt 0x20011C).map (fun x => (x.1.tv, shown {} {} x.1.name x.2)) = some ([(23, 0)], none) ∧
      (nextVoted (0x20011C + 4)).isSome = true ∧ nextVoted 0x1100004 = some 0x1100004 ∧ nextVoted (0x1100004 + 4) = none ∧
      ({} : Dev).mgmt.scrubTime + ns 64 ≤ ({ third := 192 } : Env).third) ∧
    (∀ b ∈ [0, 1], ∀ c ∈ [0, 2], let a := 0
     ((bits a 23 0 ≠ bits (a ^^^ b) 23 0 ∧ bits a 23 0 ≠ bits (a ^^^ c) 23 0 ∧ bits (a ^^^ b) 23 0 ≠ bits (a ^^^ c) 23 0) ↔
       b = 1 ∧ c = 2)) ∧
    (0x200044 / 4 * 4 ≠ 0x200040 ∧ tget 0 ({} : Env).regs.tvB (0x200044 / 4) = 0 ∧ 2 % 4 + 2 ≤ 4 ∧ 3 % 4 + 2 % 8 > 4) := by
  decide +kernel

/-- RegisterAccess, reads of the rings' registers and of the window: aligned and not, a Loft unit that serves and one that
does not. -/
theorem wit_RegisterAccess_spaces :
    (aligned 0x1FD8 4 = true ∧ aligned 0x3FFFFFF8 8 = true ∧ aligned 3 2 = false ∧ aligned 4 8 = false ∧ HostSpace.bar2 ≠ .pf0) ∧
    (∀ up ∈ [true, false], (0x10000000 : Nat) < 0x40000000 ∧
      unitServed (dBack up 0) (((envOf []).f 0x200900 7 0 * 2 ^ 28 + (0x10000000 - 0x10000000)) / 256) = up) := by
  decide +kernel

/-- R430: one copy that differs is corrected and counted; the register reads its value again. -/
theorem test_voteOne :
    ∃ t, exec .voteScrubRead
        { dev := { mgmt := { scrubAt := 0x20011C } },
          env := { third := 192, regs := { tvB := [(0x20011C / 4, 5#32)] } } } = .next t ∧
      t.env.reg 0x20011C = 0 ∧ t.dev.evCnt 139 0 = 1 ∧ t.dev.mgmt.voteLog = 0x80047#32 :=
  ⟨_, rfl, by decide +kernel⟩

/-- R430: three copies that differ are a fault. -/
theorem test_voteThree :
    ∃ t, exec .voteScrubRead
        { dev := { mgmt := { scrubAt := 0x20011C } },
          env := { third := 192, regs := { tvB := [(0x20011C / 4, 5#32)], tvC := [(0x20011C / 4, 6#32)] } } } = .next t ∧
      t.dev.cmd.cause = 1 ∧ t.dev.cmd.epoch = 1 :=
  ⟨_, rfl, by decide +kernel⟩

/-- EventRegisters: group 0 with its enables open on vector 3, its counter ahead; the vector's mask set and removed. -/
theorem wit_EventRegisters :
    (∃ g : Fin 141, ∃ i : Fin 8, bit (groupBits g) i = true) ∧
    (∀ un ∈ [true, false],
      let e := envOf [(0x100000, 0x01000003)]
      let d : Dev := { evt := { cnt := [(0, 1)], unmasked := if un then [(3, true)] else [] } }
      let d' : Dev := { d with evt := { d.evt with ack := [(0, 1)] } }
      bit (groupBits 0) 0 = true ∧ bits (grpCfg e 0) 10 0 = 3 ∧ vecPending e d 3 = true ∧ vecPending e d' 3 = false ∧
        vecPending {} d 3 = false ∧ (d.evt.fnMask = true ∨ tget false d.evt.unmasked 3 = false ↔ un = false)) ∧
    (∀ fm ∈ [true, false], let d : Dev := { evt := { pba := [(3, true)], fnMask := fm } }
     tget false d.evt.pba 3 = true ∧ d.evt.fnMask = fm) := by
  decide +kernel

/-- R437, R440: acknowledging all occurrences and then one fewer fills the pending set and sends the message. -/
theorem test_ackBack :
    ∃ t, exec (.eventAckWrite 0 0 0) (sOf [(0x100000, 0x01000003)]
        { evt := { cnt := [(0, 1)], ack := [(0, 1)], unmasked := [(3, true)] } }) = .next t ∧
      t.dev.evt.sent = [(3, 1)] :=
  ⟨_, rfl, by decide +kernel⟩

/-! ## Reset, clocks and power (chapters 19 and 20) -/

/-- ResetAndClocks: PERST low; phase 2 with PERST high, the datapath enabled or not; a BIST that runs; clocks present. -/
theorem wit_ResetAndClocks :
    (({ perst := false } : Env).perst = false) ∧
    (∀ en ∈ [0, 1], let s : State := { env := { envOf [(0x1200004, en)] with perst := true } }
     s.env.perst = true ∧ s.dev.pwr.phase = 2 ∧ (s.env.b 0x1200004 0 = true ↔ en = 1)) ∧
    (let d : Dev := { pwr := { bistRun := true } }
     d.pwr.bistRun = true) ∧
    (∀ i ∈ [0, 3, 4, 5], let d : Dev := { pwr := { clkOk := 0x3F } }
     bit d.pwr.clkOk i = true) ∧
    (blkOf 0 / 4 = 0 ∧ blkOf 95 / 4 = 3) := by
  decide +kernel

/-- R446: with the straps sampled the device starts in phase 2 and the twin's role is the strap's. -/
theorem test_perstRise :
    ∃ t, exec (.perstRise { devid := 5, twinRole := true, bootSrc := 0, pcieWidth := false }) { env := { perst := false } } = .next t ∧
      t.env.reg 0x200100 = 5 ∧ t.env.reg 0x1100004 = 1 ∧ t.dev.pwr.phase = 2 :=
  ⟨_, rfl, by decide +kernel⟩

/-- PowerGovernor: clusters to power up, down, down while in use, and to leave alone, with nothing queued and with the
opposite request queued; a head that fits the limit exactly and one that does not fit yet; a ramp at its end; the hottest
sensor below the trip point and on it. -/
theorem wit_PowerGovernor :
    (∀ s ∈ [({} : State), { dev := { pwr := { on := [(0, true)] } } },
        { dev := { pwr := { on := [(0, true)] }, ports := [(0, { enabled := true })] } },
        { dev := { pwr := { queue := [{ unit := 0, up := true, since := 0 }] } } }],
      s.env.regs.posted = [] ∧ s.dev.pwr.queue.length ≤ 1) ∧
    (let s : State := { dev := { pwr := { on := [(0, true)] }, ports := [(0, { enabled := true })] } }
     unitTarget s.dev 0 = true ∧ unitTarget s.dev 1 = false ∧ blockInUse s 0 = true ∧ blockInUse s 1 = false) ∧
    (∀ lim ∈ [10, 40], let r : PwrReq := { unit := 0, up := true, since := 0 }
     let s : State := { env := envOf [(0x1200010, lim)], dev := { pwr := { queue := [r], ramps := [(1, true, 0)] } } }
     s.dev.pwr.ramps.foldl (fun a x => a + unitRho x.1) 0 + unitRho r.unit ≤ clamp 10 80 (s.env.f 0x1200010 6 0) ∧
       ∀ x ∈ s.dev.pwr.ramps, x.1 ≠ r.unit) ∧
    (let s := sAt (0 + us 2) [] { pwr := { ramps := [(0, true, 0)] } }
     s.dev.pwr.ramps.find? (fun r => r.1 == (0 : Nat)) = some (0, true, 0) ∧ 0 + unitRamp 0 ≤ s.env.third) ∧
    ((959 : Int) < 960 ∧ (960 : Int) ≤ 960) := by
  decide +kernel

/-- R454, R455: a third cluster does not fit the least limit of 10 while two ramp. -/
theorem test_grantWaits :
    ∃ t, exec .governorGrant (sOf [(0x1200010, 10)]
        { pwr := { queue := [{ unit := 2, up := true, since := 0 }], ramps := [(0, true, 0), (1, true, 0)] } }) = .next t ∧
      t.dev.pwr.ramps.length = 2 ∧ t.dev.pwr.grants = 0 :=
  ⟨_, rfl, by decide +kernel⟩

/-- R471: 120 degrees, in eighths, trips and pulls the fence output low. -/
theorem test_trip :
    ∃ t, exec (.tempSensorRead [100, 960, 200]) { dev := { twin := { fenceOut := true } } } = .next t ∧
      t.dev.pwr.tripped = true ∧ t.dev.twin.fenceOut = false ∧ t.dev.pwr.temp = 0x800003C0#32 :=
  ⟨_, rfl, by decide +kernel⟩

/-! ## The step and reset -/

/-- StepTakesFront: an empty queue with nothing that a cycle brings on. -/
theorem wit_StepTakesFront : State.reset.pending = [] ∧ State.reset.dev.slate.pJob = none ∧
    State.reset.dev.slate.flush = none ∧ State.reset.dev.rs.walk = none ∧ State.reset.dev.slate.reqs = [] := by decide

/-- ResetState: a register of the tables. -/
theorem wit_ResetState : 0x1200010 % 4 = 0 ∧ (regAt 0x1200010).isSome = true := by decide +kernel

/-- StepKeepsInvariant: a state after reset in which a write waits, host memory holds a byte and a command is queued. -/
theorem wit_StepKeepsInvariant :
    State.Inv { env := { envOf [(0x1200010, 40)] with
                  regs := { (envOf [(0x1200010, 40)]).regs with posted := [waits 58 0x1200010 1] } }
                host := [(7, 9)], pending := [.routineStart] } := by
  constructor <;> decide +kernel

/-- The front of the queue is taken. -/
theorem test_step : ∃ t, step { dev := { pwr := { deferMax := 9 } }, pending := [.deferMaxClear, .routineStart] } = .next t ∧
    t.pending = [.routineStart] ∧ t.dev.pwr.deferMax = 0 :=
  ⟨_, rfl, by decide +kernel⟩

end Sys2Proof.Tests
end

/-! SUPPORT. The issue of a Gristo word that no bound stops: what it leaves when the instruction goes on
(R66, R67, R78, R80, R103). -/
namespace Sys2Proof.Machine

/-! ## What an instruction is given -/

/-- The input of the instruction that thread `th` issues. -/
def State.issOf (s : State) (th : ThreadId) : Iss :=
  let x := s.dev.thread (ThreadId.key th)
  { e := s.env, k := ThreadId.key th, compat := (s.dev.prog x.slot).compat, w := nextWord s.dev x }

/-- Thread `th` with frame i. -/
def State.tfOf (s : State) (th : ThreadId) (i : Nat) : TF :=
  { x := s.dev.thread (ThreadId.key th), f := s.dev.frame i }

/-- The device once the engine of thread `th` has issued from it. -/
def State.issuedDev (s : State) (th : ThreadId) : Dev := issueSlot s.env (ThreadId.key th) s.dev

/-- The thread of an instruction that goes on at word pc of its image. -/
def State.wentOn (s : State) (th : ThreadId) (x : Thread) (pc : Nat) (taken : Bool) : Thread :=
  { x with
    issued := (s.dev.thread (ThreadId.key th)).issued + 1
    slots := (s.dev.thread (ThreadId.key th)).slots + (if taken then 2 else 1)
    pc := pc
    readyAt := s.env.cycle + (if taken then 2 else 1) }

/-! ## The engine's issue slot -/

theorem issueSlot_same (e : Env) (k : Nat) (d : Dev) : d.sameBut [.blks, .pmu] (issueSlot e k d) :=
  Dev.sameBut_trans (Dev.sameBut_mono (Dev.same_blks d _) (by decide)) (Dev.sameBut_mono (Dev.same_pmu _ _) (by decide))

@[simp] theorem issueSlot_thread (e : Env) (k : Nat) (d : Dev) (j : Nat) : (issueSlot e k d).thread j = d.thread j := rfl
@[simp] theorem issueSlot_frame (e : Env) (k : Nat) (d : Dev) (j : Nat) : (issueSlot e k d).frame j = d.frame j := rfl
@[simp] theorem issueSlot_prog (e : Env) (k : Nat) (d : Dev) (j : Nat) : (issueSlot e k d).prog j = d.prog j := rfl

/-! ## The outcome of an issued word -/

/-- A word issued and within its bounds comes to its instruction's outcome. -/
theorem gristoOp_of_issuesWord {s : State} {th : ThreadId} {op i : Nat} (body : Iss → TF → Dev → Flow1)
    (hw : s.issuesWord th op i) :
    gristoOp s.env th op body s.dev =
      finish s.env (ThreadId.key th) i (s.issOf th).compat (s.tfOf th i)
        (body (s.issOf th) (s.tfOf th i) (s.issuedDev th)) (s.issuedDev th) := by
  obtain ⟨hframe, hissues, hbound, hop, hdef⟩ := hw
  simp [gristoOp, hframe, hissues, hbound, hop, hdef, State.issOf, State.tfOf, State.issuedDev]

/-- An instruction that goes on at a word of the image, having left the rest of the device alone, changes its thread and
frame only. -/
theorem finish_goto {s : State} {th : ThreadId} {i pc : Nat} (compat taken : Bool) (c : TF) (hin : s.inImage th pc) :
    finish s.env (ThreadId.key th) i compat (s.tfOf th i) (.goto c pc taken (s.issuedDev th)) (s.issuedDev th) =
      ((s.issuedDev th).setThread (ThreadId.key th) (s.wentOn th c.x pc taken)).setFrame i c.f :=
  if_neg (Nat.not_le.mpr hin)

/-- The state in which an issued word has gone on at word pc. -/
theorem goesOn_setThread_setFrame (s : State) (th : ThreadId) (i pc : Nat) (taken : Bool) (c : TF) :
    s.goesOn { s with dev := ((s.issuedDev th).setThread (ThreadId.key th) (s.wentOn th c.x pc taken)).setFrame i c.f }
      th i pc taken c.x c.f :=
  ⟨tget_tput_self .., tget_tput_self .., fun _ hj => tget_tput_ne _ _ _ _ hj, fun _ hj => tget_tput_ne _ _ _ _ hj⟩

/-- Going on changes threads, frames, the blocks' issue records and the cycle counters. -/
theorem sameBut_setThread_setFrame (s : State) (th : ThreadId) (i : Nat) (x : Thread) (f : Frame) :
    s.sameBut [.threads, .frames, .blks, .pmu]
      { s with dev := ((s.issuedDev th).setThread (ThreadId.key th) x).setFrame i f } :=
  ⟨rfl, rfl, rfl, rfl, rfl, Dev.sameBut_trans (Dev.sameBut_mono (issueSlot_same _ _ _) (by decide))
    (Dev.sameBut_trans (Dev.sameBut_mono (Dev.same_threads _ _) (by decide))
      (Dev.sameBut_mono (Dev.same_frames _ _) (by decide)))⟩

/-- An issued word whose instruction goes on at a word of the image, having left the rest of the device alone. -/
theorem gristoOp_goesOn {s : State} {th : ThreadId} {op i pc : Nat} {taken : Bool} {body : Iss → TF → Dev → Flow1} {c : TF}
    (hw : s.issuesWord th op i) (hin : s.inImage th pc)
    (hb : body (s.issOf th) (s.tfOf th i) (s.issuedDev th) = .goto c pc taken (s.issuedDev th)) :
    let t : State := { s with dev := gristoOp s.env th op body s.dev }
    s.goesOn t th i pc taken c.x c.f ∧ s.sameBut [.threads, .frames, .blks, .pmu] t := by
  rw [gristoOp_of_issuesWord body hw, hb, finish_goto _ _ _ hin]
  exact ⟨goesOn_setThread_setFrame .., sameBut_setThread_setFrame ..⟩

end Sys2Proof.Machine

/-! SUPPORT. Registers, flags and arithmetic of the ALU instructions on 32-bit vectors (R68, R95, R104, R105). -/
namespace Sys2Proof.Machine

/-! ## Registers and operands -/

theorem Thread.getG_lt (x : Thread) (i : Nat) : x.getG i < 2 ^ 32 := by
  unfold Thread.getG
  split
  · decide
  · exact BitVec.isLt _

theorem fImm_lt (w : Nat) : fImm w < 2 ^ 32 := Nat.mod_lt _ (by decide)

theorem op2_lt (x : Thread) (w : Nat) : op2 x w < 2 ^ 32 := by
  unfold op2
  split
  · exact fImm_lt w
  · exact x.getG_lt _

/-- A register read after a write (R68, R95). -/
theorem Thread.getG_setG (x : Thread) (m : Bool) (d j : Nat) (r : BitVec 32) :
    (x.setG m d r.toNat).getG j = if j = d ∧ d ≠ 0 ∧ ¬ (m = true ∧ 16 ≤ d) then r.toNat else x.getG j := by
  unfold Thread.setG
  by_cases hd : d = 0 ∨ (m = true ∧ 16 ≤ d)
  · rw [if_pos hd, if_neg fun ⟨_, h0, hm⟩ => hd.elim h0 hm]
  · rw [if_neg hd]
    obtain ⟨h0, hm⟩ := not_or.mp hd
    by_cases hj : j = d
    · subst hj
      rw [if_pos ⟨rfl, h0, hm⟩]
      simp only [Thread.getG, if_neg h0, tget_tset_self, w32, BitVec.ofNat_toNat, BitVec.setWidth_eq]
    · rw [if_neg (fun h => hj h.1)]
      simp only [Thread.getG, tget_tset_ne _ _ _ _ hj]

/-- A write changes no field but the registers. -/
theorem Thread.setG_eq_with_g (x : Thread) (m : Bool) (d v : Nat) : x.setG m d v = { x with g := (x.setG m d v).g } := by
  unfold Thread.setG
  split <;> rfl

@[simp] theorem Thread.setG_z (x : Thread) (m : Bool) (d v : Nat) : (x.setG m d v).z = x.z := by rw [setG_eq_with_g]
@[simp] theorem Thread.setG_n (x : Thread) (m : Bool) (d v : Nat) : (x.setG m d v).n = x.n := by rw [setG_eq_with_g]
@[simp] theorem Thread.setG_c (x : Thread) (m : Bool) (d v : Nat) : (x.setG m d v).c = x.c := by rw [setG_eq_with_g]
@[simp] theorem Thread.setG_v (x : Thread) (m : Bool) (d v : Nat) : (x.setG m d v).v = x.v := by rw [setG_eq_with_g]

/-! ## Results -/

/-- A register write followed by a setting of the flags is all that `wroteReg` allows. -/
theorem Thread.wroteReg_setG_flags (x : Thread) (m : Bool) (d : Nat) (r : BitVec 32) (z n c v : Bool) :
    Thread.wroteReg m d r z n c v x { x.setG m d r.toNat with z := z, n := n, c := c, v := v } :=
  ⟨fun j => x.getG_setG m d j r, rfl, rfl, rfl, rfl,
    congrArg (fun y : Thread => { y with z := z, n := n, c := c, v := v }) (x.setG_eq_with_g m d r.toNat)⟩

/-- A register write alone keeps the flags. -/
theorem Thread.wroteReg_setG (x : Thread) (m : Bool) (d : Nat) (r : BitVec 32) :
    Thread.wroteReg m d r x.z x.n x.c x.v x (x.setG m d r.toNat) := by
  simpa only [← x.setG_z m d r.toNat, ← x.setG_n m d r.toNat, ← x.setG_c m d r.toNat, ← x.setG_v m d r.toNat] using
    x.wroteReg_setG_flags m d r (x.setG m d r.toNat).z (x.setG m d r.toNat).n (x.setG m d r.toNat).c (x.setG m d r.toNat).v

theorem beq_zero_toNat (r : BitVec 32) : (r.toNat == 0) = (r == 0) := by
  rw [Bool.eq_iff_iff, beq_iff_eq, beq_iff_eq]
  exact ⟨fun h => BitVec.eq_of_toNat_eq h, fun h => h ▸ rfl⟩

theorem bit_toNat (r : BitVec 32) (i : Nat) : bit r.toNat i = r.getLsbD i := BitVec.testBit_toNat r

/-- A result's register and its z and n (R104). -/
theorem Thread.result_toNat (x : Thread) (m : Bool) (d : Nat) (r : BitVec 32) :
    x.result m d r.toNat = { x.setG m d r.toNat with z := r == 0, n := r.msb } := by
  simp only [Thread.result, Thread.setZN, beq_zero_toNat, bit_toNat, BitVec.msb_eq_getLsbD_last]

/-- A result that leaves c and v. -/
theorem Thread.wroteReg_result (x : Thread) (m : Bool) (d : Nat) (r : BitVec 32) :
    Thread.wroteReg m d r (r == 0) r.msb x.c x.v x (x.result m d r.toNat) := by
  rw [Thread.result_toNat]
  simpa using x.wroteReg_setG_flags m d r (r == 0) r.msb (x.setG m d r.toNat).c (x.setG m d r.toNat).v

/-- A result that leaves v. -/
theorem Thread.wroteReg_resultC (x : Thread) (m : Bool) (d : Nat) (r : BitVec 32) (c : Bool) :
    Thread.wroteReg m d r (r == 0) r.msb c x.v x (x.resultC m d (r.toNat, c)) := by
  rw [Thread.resultC, Thread.result_toNat]
  simpa using x.wroteReg_setG_flags m d r (r == 0) r.msb c (x.setG m d r.toNat).v

/-- A result with all four flags. -/
theorem Thread.wroteReg_resultCV (x : Thread) (m : Bool) (d : Nat) (r : BitVec 32) (c v : Bool) :
    Thread.wroteReg m d r (r == 0) r.msb c v x (x.resultCV m d (r.toNat, c, v)) := by
  rw [Thread.resultCV, Thread.result_toNat]
  exact x.wroteReg_setG_flags m d r (r == 0) r.msb c v

/-! ## The arithmetic on vectors (R105) -/

theorem toSigned_toNat (r : BitVec 32) : toSigned 32 r.toNat = r.toInt := by
  simp only [toSigned, Nat.mod_eq_of_lt r.isLt, BitVec.toInt_eq_toNat_cond]
  split <;> split <;> omega

theorem ofSigned_eq_toNat_ofInt (i : Int) : ofSigned 32 i = (BitVec.ofInt 32 i).toNat := (BitVec.toNat_ofInt i).symm

/-- Signed overflow of a sum: the sum's signed reading is not the sum of the readings. -/
theorem saddOverflow_eq_decide (a b : BitVec 32) :
    BitVec.saddOverflow a b = decide ((a + b).toInt ≠ a.toInt + b.toInt) := by
  cases h : BitVec.saddOverflow a b
  · simp [BitVec.toInt_add_of_not_saddOverflow (by simp [h] : ¬ a.saddOverflow b)]
  · have hlo := (a + b).le_toInt
    have hhi := (a + b).toInt_lt
    simp only [BitVec.saddOverflow, Bool.or_eq_true, decide_eq_true_eq] at h
    exact (decide_eq_true (by omega)).symm

/-- Signed overflow of a difference: its signed reading is not the difference of the readings. -/
theorem ssubOverflow_eq_decide (a b : BitVec 32) :
    BitVec.ssubOverflow a b = decide ((a - b).toInt ≠ a.toInt - b.toInt) := by
  cases h : BitVec.ssubOverflow a b
  · simp [BitVec.toInt_sub_of_not_ssubOverflow (by simp [h] : ¬ a.ssubOverflow b)]
  · have hlo := (a - b).le_toInt
    have hhi := (a - b).toInt_lt
    simp only [BitVec.ssubOverflow, Bool.or_eq_true, decide_eq_true_eq] at h
    exact (decide_eq_true (by omega)).symm

theorem addFlags_toNat (a b : BitVec 32) :
    addFlags a.toNat b.toNat = ((a + b).toNat, decide (2 ^ 32 ≤ a.toNat + b.toNat), BitVec.saddOverflow a b) := by
  simp only [addFlags, ← BitVec.toNat_add, toSigned_toNat, saddOverflow_eq_decide]

theorem subFlags_toNat (a b : BitVec 32) :
    subFlags a.toNat b.toNat = ((a - b).toNat, decide (b.toNat ≤ a.toNat), BitVec.ssubOverflow a b) := by
  have hr : (a.toNat + 2 ^ 32 - b.toNat) % 2 ^ 32 = (a - b).toNat := by
    rw [BitVec.toNat_sub]
    congr 1
    omega
  simp only [subFlags, hr, toSigned_toNat, ssubOverflow_eq_decide]

theorem shlFlags_toNat (a : BitVec 32) (n : Nat) :
    shlFlags a.toNat n = ((a <<< n).toNat, n != 0 && a.getLsbD (32 - n)) := by
  simp only [shlFlags, BitVec.toNat_shiftLeft, Nat.shiftLeft_eq, bit_toNat]

theorem shrFlags_toNat (sg : Bool) (a : BitVec 32) (n : Nat) :
    shrFlags sg a.toNat n = ((if sg then a.sshiftRight n else a >>> n).toNat, n != 0 && a.getLsbD (n - 1)) := by
  cases sg
  · simp [shrFlags, bit_toNat, Nat.shiftRight_eq_div_pow]
  · simp only [shrFlags, if_true, toSigned_toNat, ofSigned_eq_toNat_ofInt, bit_toNat, BitVec.sshiftRight,
      Int.shiftRight_eq_div_pow]
    rfl

theorem leBy_toNat (sg : Bool) (a b : BitVec 32) :
    leBy sg a.toNat b.toNat = if sg then BitVec.sle a b else BitVec.ule a b := by
  simp only [leBy, toSigned_toNat]
  rfl

/-! ## What each instruction writes (R105) -/

section
variable (s : Iss) (x : Thread)

/-- g[s1] as a 32-bit vector. -/
def aluA : BitVec 32 := BitVec.ofNat 32 (src1 s x)
/-- op2 as a 32-bit vector. -/
def aluB : BitVec 32 := BitVec.ofNat 32 (op2 x s.w)

theorem src1_eq_toNat : src1 s x = (aluA s x).toNat := (Nat.mod_eq_of_lt (x.getG_lt _)).symm
theorem op2_eq_toNat : op2 x s.w = (aluB s x).toNat := (Nat.mod_eq_of_lt (op2_lt x s.w)).symm

theorem addX_wroteReg :
    Thread.wroteReg s.compat (fD s.w) (aluA s x + aluB s x) (aluA s x + aluB s x == 0) (aluA s x + aluB s x).msb
      (decide (2 ^ 32 ≤ (aluA s x).toNat + (aluB s x).toNat)) (BitVec.saddOverflow (aluA s x) (aluB s x)) x (addX s x) := by
  rw [addX, src1_eq_toNat, op2_eq_toNat, addFlags_toNat]
  exact x.wroteReg_resultCV ..

/-- What sub writes, and cmp too: its write names g0, which discards it. -/
theorem subFlags_wroteReg (d : Nat) :
    Thread.wroteReg s.compat d (aluA s x - aluB s x) (aluA s x - aluB s x == 0) (aluA s x - aluB s x).msb
      (decide ((aluB s x).toNat ≤ (aluA s x).toNat)) (BitVec.ssubOverflow (aluA s x) (aluB s x)) x
      (x.resultCV s.compat d (subFlags (src1 s x) (op2 x s.w))) := by
  rw [src1_eq_toNat, op2_eq_toNat, subFlags_toNat]
  exact x.wroteReg_resultCV ..

theorem andX_wroteReg :
    Thread.wroteReg s.compat (fD s.w) (aluA s x &&& aluB s x) (aluA s x &&& aluB s x == 0) (aluA s x &&& aluB s x).msb
      x.c x.v x (andX s x) := by
  rw [andX, src1_eq_toNat, op2_eq_toNat, ← BitVec.toNat_and]
  exact x.wroteReg_result ..

theorem orX_wroteReg :
    Thread.wroteReg s.compat (fD s.w) (aluA s x ||| aluB s x) (aluA s x ||| aluB s x == 0) (aluA s x ||| aluB s x).msb
      x.c x.v x (orX s x) := by
  rw [orX, src1_eq_toNat, op2_eq_toNat, ← BitVec.toNat_or]
  exact x.wroteReg_result ..

theorem xorX_wroteReg :
    Thread.wroteReg s.compat (fD s.w) (aluA s x ^^^ aluB s x) (aluA s x ^^^ aluB s x == 0) (aluA s x ^^^ aluB s x).msb
      x.c x.v x (xorX s x) := by
  rw [xorX, src1_eq_toNat, op2_eq_toNat, ← BitVec.toNat_xor]
  exact x.wroteReg_result ..

theorem shlX_wroteReg (n : Nat) (hn : n = op2 x s.w % 32) :
    Thread.wroteReg s.compat (fD s.w) (aluA s x <<< n) (aluA s x <<< n == 0) (aluA s x <<< n).msb
      (n != 0 && (aluA s x).getLsbD (32 - n)) x.v x (shlX s x) := by
  rw [shlX, ← hn, src1_eq_toNat, shlFlags_toNat]
  exact x.wroteReg_resultC ..

theorem shrX_wroteReg (n : Nat) (hn : n = op2 x s.w % 32) (r : BitVec 32)
    (hr : r = if bit (fSub s.w) 1 then (aluA s x).sshiftRight n else aluA s x >>> n) :
    Thread.wroteReg s.compat (fD s.w) r (r == 0) r.msb (n != 0 && (aluA s x).getLsbD (n - 1)) x.v x (shrX s x) := by
  rw [shrX, ← hn, src1_eq_toNat, shrFlags_toNat, ← hr]
  exact x.wroteReg_resultC ..

/-- The order of min and max (R105): signed when sub[1] is 1. -/
def aluLe : Bool := if bit (fSub s.w) 1 then BitVec.sle (aluA s x) (aluB s x) else BitVec.ule (aluA s x) (aluB s x)

theorem minX_wroteReg (r : BitVec 32) (hr : r = if aluLe s x then aluA s x else aluB s x) :
    Thread.wroteReg s.compat (fD s.w) r (r == 0) r.msb x.c x.v x (minX s x) := by
  rw [minX, src1_eq_toNat, op2_eq_toNat, leBy_toNat, ← apply_ite BitVec.toNat, hr]
  exact x.wroteReg_result ..

theorem maxX_wroteReg (r : BitVec 32) (hr : r = if aluLe s x then aluB s x else aluA s x) :
    Thread.wroteReg s.compat (fD s.w) r (r == 0) r.msb x.c x.v x (maxX s x) := by
  rw [maxX, src1_eq_toNat, op2_eq_toNat, leBy_toNat, ← apply_ite BitVec.toNat, hr]
  exact x.wroteReg_result ..

theorem movX_wroteReg :
    Thread.wroteReg s.compat (fD s.w) (aluA s x) (aluA s x == 0) (aluA s x).msb x.c x.v x (movX s x) := by
  rw [movX, src1_eq_toNat]
  exact x.wroteReg_result ..

theorem moviX_wroteReg (r : BitVec 32) (hr : r = BitVec.ofNat 32 (fImm s.w)) :
    Thread.wroteReg s.compat (fD s.w) r (r == 0) r.msb x.c x.v x (moviX s x) := by
  have himm : fImm s.w = r.toNat := by rw [hr, BitVec.toNat_ofNat, Nat.mod_eq_of_lt (fImm_lt s.w)]
  rw [moviX, himm]
  exact x.wroteReg_result ..

theorem selX_wroteReg :
    Thread.wroteReg s.compat (fD s.w) (if condTrue x (fCs s.w) then aluA s x else aluB s x) x.z x.n x.c x.v x (selX s x) := by
  rw [selX, src1_eq_toNat, op2_eq_toNat, ← apply_ite BitVec.toNat]
  exact x.wroteReg_setG ..

end

/-! ## The obligation -/

/-- An ALU command whose word issues goes on at the next word with its thread as its meaning `h` leaves it. -/
theorem exec_aluOp {s : State} {th : ThreadId} {op i : Nat} {h : Iss → Thread → Thread} {cmd : Instr} {d : Nat}
    {r : BitVec 32} {z n c v : Bool}
    (hexec : exec cmd s = .next { s with dev := gristoOp s.env th op (aluOp h) s.dev })
    (hin : s.inImage th ((s.dev.thread (ThreadId.key th)).pc + 1))
    (hreg : Thread.wroteReg (s.issOf th).compat d r z n c v (s.dev.thread (ThreadId.key th))
      (h (s.issOf th) (s.dev.thread (ThreadId.key th))))
    (hw : s.issuesWord th op i) :
    ∃ t x', exec cmd s = .next t ∧
      s.goesOn t th i ((s.dev.thread (ThreadId.key th)).pc + 1) false x' (s.dev.frame i) ∧
      Thread.wroteReg (s.issOf th).compat d r z n c v (s.dev.thread (ThreadId.key th)) x' ∧
      s.sameBut [.threads, .frames, .blks, .pmu] t := by
  obtain ⟨hgo, hsame⟩ := gristoOp_goesOn (body := aluOp h) hw hin rfl
  exact ⟨_, _, hexec, hgo, hreg, hsame⟩

/-- Settles O10: each ALU command goes on at the next word with what its meaning writes. -/
theorem gristoAlu : Obligations.GristoAlu := by
  unfold Obligations.GristoAlu
  intro s th i x w m a b n sg keep does hin
  refine ⟨?add, ?sub, ?and, ?or, ?xor, ?shl, ?shr, ?min, ?max, ?mov, ?movi, ?cmp, ?sel⟩
  case add => exact exec_aluOp rfl hin (addX_wroteReg (s.issOf th) x)
  case sub => exact exec_aluOp (h := subX) rfl hin (subFlags_wroteReg (s.issOf th) x (fD w))
  case and => exact exec_aluOp rfl hin (andX_wroteReg (s.issOf th) x)
  case or => exact exec_aluOp rfl hin (orX_wroteReg (s.issOf th) x)
  case xor => exact exec_aluOp rfl hin (xorX_wroteReg (s.issOf th) x)
  case shl => exact exec_aluOp rfl hin (shlX_wroteReg (s.issOf th) x n rfl)
  case shr => exact exec_aluOp rfl hin (shrX_wroteReg (s.issOf th) x n rfl _ rfl)
  case min => exact exec_aluOp rfl hin (minX_wroteReg (s.issOf th) x _ rfl)
  case max => exact exec_aluOp rfl hin (maxX_wroteReg (s.issOf th) x _ rfl)
  case mov => exact exec_aluOp rfl hin (movX_wroteReg (s.issOf th) x)
  case movi => exact exec_aluOp rfl hin (moviX_wroteReg (s.issOf th) x _ rfl)
  case cmp => exact exec_aluOp (h := cmpX) rfl hin (subFlags_wroteReg (s.issOf th) x 0)
  case sel => exact exec_aluOp rfl hin (selX_wroteReg (s.issOf th) x)

end Sys2Proof.Machine

/-! SUPPORT. A register write that nothing waits before, and the time signals of Quartz: the pulses of TOUT, the captures
of TIN and PPS_IN (R306-R310, R432). -/
namespace Sys2Proof.Machine

/-! ## A write whose scope is free, a command on the device alone, an event -/

theorem takePosted_eq_none {sc : Nat} {l : List Posted} (h : ∀ x ∈ l, x.scope ≠ sc) : takePosted sc l = none := by
  induction l with
  | nil => rfl
  | cons x r ih =>
    rw [takePosted, if_neg (h x (by simp)), ih fun y hy => h y (by simp [hy])]
    rfl

/-- A register's write with a row of its own lands at once when nothing waits in the register's scope (R432). -/
theorem landNow_of_scopeFree {s : State} {off : Nat} {k : RegKind} {p : List Nat} {sc : Nat} (v : Nat)
    (hreg : regAt off = some (k, p)) (hsc : scopeOf k p = some sc) (hfree : s.scopeFree sc)
    (hlow : stagedLow s.env k.name off = none) : landNow off v s = landReg k p off v none s := by
  simp only [landNow, hreg, hsc, hlow, Option.bind_some, takePosted_eq_none hfree]
  rfl

/-- A command that replaces the device alone changes what the device's change says. -/
theorem State.sameBut_with_dev {l : List Part} {s : State} {d : Dev} (h : s.dev.sameBut l d) :
    s.sameBut l { s with dev := d } := ⟨rfl, rfl, rfl, rfl, rfl, h⟩

/-- A command that replaces the device, its new device found by a rule. -/
theorem exec_with_dev {c : Instr} {s : State} {d d' : Dev} (hexec : exec c s = .next { s with dev := d }) (hd : d = d') :
    exec c s = .next { s with dev := d' } := hd ▸ hexec

/-- An event raised counts once, and no other does (R437). -/
theorem raiseEv_raised (e : Env) (g i : Nat) (d : Dev) : d.raised g i (raiseEv e g i d) :=
  ⟨by rw [raiseEv_evCnt, if_pos rfl], fun g' i' h => by rw [raiseEv_evCnt, if_neg h]⟩

/-! ## TOUT (R306) -/

theorem Dev.setTout_tout (d : Dev) (n : Nat) (x : ToutSt) (m : Nat) :
    (d.setTout n x).tout m = if m = n then x else d.tout m := tget_tput ..

@[simp] theorem Dev.setTout_tout_self (d : Dev) (n : Nat) (x : ToutSt) : (d.setTout n x).tout n = x := tget_tput_self ..

theorem Dev.setTout_tout_ne (d : Dev) (n : Nat) (x : ToutSt) {m : Nat} (h : m ≠ n) :
    (d.setTout n x).tout m = d.tout m := tget_tput_ne _ _ _ _ h

theorem Dev.same_setTout (d : Dev) (n : Nat) (x : ToutSt) : d.sameBut [.qtz] (d.setTout n x) := Dev.same_qtz d _

/-- The domain time of the next active edge of TOUT n, in 2^-16 ns. -/
def toutDue (e : Env) (n : Nat) (d : Dev) : Nat := (toutStart e n + (d.tout n).k * toutPeriod e n) * 65536

/-- TOUT n with the pulse of its present edge begun. -/
def toutPulse (e : Env) (n : Nat) (d : Dev) : ToutSt :=
  { running := toutPeriodic e n, k := (d.tout n).k + 1, level := toutActive e n, pulseEnd := some (e.ltNs + toutWidth e n) }

/-- What an edge of an enabled output that has one to come does. -/
theorem toutEdgeOp_of_running {e : Env} {n : Nat} {d : Dev} (hen : e.b (toutReg n 0) 31 = true)
    (hrun : (d.tout n).running = true) :
    toutEdgeOp e n d = if e.domN (toutDom e n) < toutDue e n d then d else d.setTout n (toutPulse e n d) := by
  rw [toutEdgeOp, hen, hrun]
  exact if_neg Bool.false_ne_true

theorem toutPulseEndOp_of_le {e : Env} {n x : Nat} {d : Dev} (hend : (d.tout n).pulseEnd = some x) (hx : x ≤ e.ltNs) :
    toutPulseEndOp e n d = d.setTout n { d.tout n with level := !(toutActive e n), pulseEnd := none } := by
  simp only [toutPulseEndOp, hend, if_pos hx]

/-! ## TIN (R308, R309) -/

/-- The configuration register of TIN n. -/
def tinCfg (n : Nat) : Nat := 0xB00A00 + 0x20 * n

/-- The edges field of TIN n selects an edge that rises or falls. -/
def tinSelects (e : Env) (n : Nat) (rising : Bool) : Prop :=
  e.f (tinCfg n) 30 29 = 3 ∨ (e.f (tinCfg n) 30 29 = 2 ∧ rising = false) ∨ (e.f (tinCfg n) 30 29 < 2 ∧ rising = true)

/-- The FIFO entry of an edge now: the stamp and, in bit 0, the direction. -/
def tinEntry (e : Env) (rising : Bool) : Nat := 2 * (e.ltStamp % 2 ^ 80) + (if rising then 1 else 0)

/-- The device with the FIFO of TIN n replaced. -/
def Dev.setTin (d : Dev) (n : Nat) (q : List Nat) : Dev := { d with qtz := { d.qtz with tin := tset [] d.qtz.tin n q } }

theorem Dev.setTin_tin (d : Dev) (n : Nat) (q : List Nat) (j : Nat) :
    tget [] (d.setTin n q).qtz.tin j = if j = n then q else tget [] d.qtz.tin j := tget_tset ..

theorem Dev.same_setTin (d : Dev) (n : Nat) (q : List Nat) : d.sameBut [.qtz] (d.setTin n q) := Dev.same_qtz d _

/-- A level that does not hold for the filter time is no edge (R308). -/
theorem tinEdgeOp_of_lt_filter {e : Env} {n held : Nat} (rising : Bool) (d : Dev) (h : held < e.f (tinCfg n) 7 0) :
    tinEdgeOp e n rising held d = d := 
  if_pos (by rw [← tinCfg, decide_eq_true h, Bool.or_true])

/-- The edges field as the operation reads it. -/
def tinWanted (e : Env) (n : Nat) (rising : Bool) : Bool :=
  if e.f (tinCfg n) 30 29 = 3 then true else if e.f (tinCfg n) 30 29 = 2 then !rising else rising

theorem tinWanted_of_tinSelects {e : Env} {n : Nat} {rising : Bool} (h : tinSelects e n rising) :
    tinWanted e n rising = true := by
  unfold tinWanted
  obtain h3 | ⟨h2, hr⟩ | ⟨h1, hr⟩ := h
  · rw [if_pos h3]
  · rw [if_neg (by omega), if_pos h2, hr]
    rfl
  · rw [if_neg (by omega), if_neg (by omega), hr]

/-- A selected edge that has held is stored behind the FIFO's entries, or lost to a full FIFO (R308, R309). -/
theorem tinEdgeOp_of_selected {e : Env} {n held : Nat} {rising : Bool} (d : Dev) (hheld : e.f (tinCfg n) 7 0 ≤ held)
    (hen : e.b (tinCfg n) 31 = true) (hsel : tinSelects e n rising) :
    tinEdgeOp e n rising held d = if 16 ≤ (tget [] d.qtz.tin n).length then raiseEv e 133 4 d
      else d.setTin n (tget [] d.qtz.tin n ++ [tinEntry e rising]) := by
  have hcounts : ¬ (!(e.b (tinCfg n) 31) || !tinWanted e n rising || decide (held < e.f (tinCfg n) 7 0)) = true := by
    rw [hen, tinWanted_of_tinSelects hsel, decide_eq_false (Nat.not_lt.mpr hheld)]
    exact Bool.false_ne_true
  exact if_neg hcounts

/-- QTZ_TIN_POP as the register tables hold it. -/
def tinPopKind : RegKind := ⟨.QTZ_TIN_POP, 0xb00a14, [(0x20, 4)], 0x0, 0x1, [], false, .fixed 51, 0x0⟩

theorem regAt_tinPop (n : Fin 4) : regAt (0xB00A14 + 0x20 * n.val) = some (tinPopKind, [n.val]) := by
  revert n
  decide +kernel

/-- TIN_POP takes the head of its FIFO away. -/
theorem landNow_tinPop {s : State} (n : Fin 4) (hfree : s.scopeFree 51) :
    landNow (0xB00A14 + 0x20 * n.val) 1 s = { s with dev := s.dev.setTin n.val (tget [] s.dev.qtz.tin n.val).tail } :=
  landNow_of_scopeFree 1 (regAt_tinPop n) rfl hfree rfl

/-! ## PPS_IN (R310) -/

theorem ppsEdgeOp_of_selected {e : Env} {falling : Bool} (d : Dev) (hen : e.b 0xB00B00 31 = true)
    (hsel : e.b 0xB00B00 30 = falling) :
    ppsEdgeOp e falling d =
      { d with qtz := { d.qtz with ppsLast := e.ltStamp % 2 ^ 80, ppsCount := (d.qtz.ppsCount + 1) % 2 ^ 32 } } :=
  if_pos (by simp [hen, hsel])

/-! ## The obligation -/

/-- TOUT_EDGE: a pulse begins once the domain has reached the edge, and nothing happens before. -/
theorem exec_toutEdge {s : State} {n : Fin 8} (hen : s.env.b (toutReg n 0) 31 = true)
    (hrun : (s.dev.tout n).running = true) :
    ∃ t, exec (.toutEdge n) s = .next t ∧ (∀ j, j ≠ n.val → t.dev.tout j = s.dev.tout j) ∧
      (toutDue s.env n s.dev ≤ s.env.domN (toutDom s.env n) →
        s.sameBut [.qtz] t ∧ t.dev.tout n = toutPulse s.env n s.dev) ∧
      (s.env.domN (toutDom s.env n) < toutDue s.env n s.dev → t = s) := by
  refine ⟨_, exec_with_dev rfl (toutEdgeOp_of_running hen hrun), ?_⟩
  by_cases hdue : s.env.domN (toutDom s.env n) < toutDue s.env n s.dev
  · rw [if_pos hdue]
    exact ⟨fun _ _ => rfl, fun h => absurd hdue (Nat.not_lt.mpr h), fun _ => rfl⟩
  · rw [if_neg hdue]
    exact ⟨fun _ hj => Dev.setTout_tout_ne _ _ _ hj,
      fun _ => ⟨State.sameBut_with_dev (Dev.same_setTout _ _ _), Dev.setTout_tout_self ..⟩, fun h => absurd h hdue⟩

/-- TIN_EDGE of a selected edge that has held: it enters its FIFO, or is counted lost to a full one. -/
theorem exec_tinEdge_of_selected {s : State} {n : Fin 4} {up : Bool} {held : Nat} (hheld : s.env.f (tinCfg n) 7 0 ≤ held)
    (hen : s.env.b (tinCfg n) 31 = true) (hsel : tinSelects s.env n up) :
    ∃ t, exec (.tinEdge n ⟨up, held⟩) s = .next t ∧
      ((tget [] s.dev.qtz.tin n).length < 16 → s.sameBut [.qtz] t ∧ ∀ j, tget [] t.dev.qtz.tin j =
        if j = n then tget [] s.dev.qtz.tin n ++ [tinEntry s.env up] else tget [] s.dev.qtz.tin j) ∧
      (16 ≤ (tget [] s.dev.qtz.tin n).length → s.sameBut [.evt, .pmu] t ∧ s.dev.raised 133 4 t.dev) := by
  refine ⟨_, exec_with_dev rfl (tinEdgeOp_of_selected s.dev hheld hen hsel), ?_⟩
  by_cases hfull : 16 ≤ (tget [] s.dev.qtz.tin n).length
  · rw [if_pos hfull]
    exact ⟨fun h => absurd hfull (Nat.not_le.mpr h),
      fun _ => ⟨State.sameBut_with_dev (raiseEv_same _ _ _ _), raiseEv_raised ..⟩⟩
  · rw [if_neg hfull]
    exact ⟨fun _ => ⟨State.sameBut_with_dev (Dev.same_setTin _ _ _), Dev.setTin_tin _ _ _⟩, fun h => absurd h hfull⟩

/-- Settles O41: each time signal does what its operation says in the case that the statement names. -/
theorem timeSignals : Obligations.TimeSignals := by
  unfold Obligations.TimeSignals
  refine ⟨?toutEdge, ?toutPulseEnd, ?tinFiltered, ?tinEdge, ?tinPop, ?ppsEdge⟩
  case toutEdge => exact fun s n hen hrun => exec_toutEdge hen hrun
  case toutPulseEnd =>
    intro s n x hend hx
    refine ⟨_, exec_with_dev rfl (toutPulseEndOp_of_le hend hx), ?_⟩
    exact ⟨Dev.setTout_tout_self .., fun _ hj => Dev.setTout_tout_ne _ _ _ hj, State.sameBut_with_dev (Dev.same_setTout _ _ _)⟩
  case tinFiltered =>
    intro s n up held r hheld
    exact exec_with_dev rfl (tinEdgeOp_of_lt_filter up s.dev hheld)
  case tinEdge => exact fun s n up held hheld hen hsel => exec_tinEdge_of_selected hheld hen hsel
  case tinPop =>
    intro s n hfree
    refine ⟨_, congrArg Host.Outcome.next (landNow_tinPop n hfree), ?_⟩
    exact ⟨State.sameBut_with_dev (Dev.same_setTin _ _ _), Dev.setTin_tin _ _ _⟩
  case ppsEdge =>
    intro s down hen hsel
    refine ⟨_, exec_with_dev rfl (ppsEdgeOp_of_selected s.dev hen hsel), ?_⟩
    exact ⟨State.sameBut_with_dev (Dev.same_qtz _ _), rfl⟩

end Sys2Proof.Machine

/-! SUPPORT. What a frame changes as it enters its input block from the host port, is found bad there, or leaves it
(R20, R37, R167, R229-R231, R242). -/
namespace Sys2Proof.Machine

/-! ## Tables -/

theorem tget_eq_getD_tfind {α : Type} (d : α) (t : Tbl α) (k : Nat) : tget d t k = (tfind t k).getD d := by
  induction t with
  | nil => rfl
  | cons a r ih => rw [tget, tfind, ih]; split <;> rfl

theorem thas_eq_isSome_tfind {α : Type} (t : Tbl α) (k : Nat) : thas t k = (tfind t k).isSome := by
  induction t with
  | nil => rfl
  | cons a r ih => rw [thas, tfind, ih]; split <;> rfl

theorem mem_keys_iff_thas {α : Type} (t : Tbl α) (k : Nat) : k ∈ t.map (·.1) ↔ thas t k = true := by
  induction t with
  | nil => simp [thas]
  | cons a r ih =>
    rw [List.map_cons, List.mem_cons, ih, thas, eq_comm]
    split
    next h => exact ⟨fun _ => rfl, fun _ => .inl h⟩
    next h => exact ⟨fun hr => hr.resolve_left h, .inr⟩

/-- A key that is not listed reads the default. -/
theorem tget_of_not_mem_keys {α : Type} (d : α) {t : Tbl α} {k : Nat} (h : k ∉ t.map (·.1)) : tget d t k = d := by
  rw [mem_keys_iff_thas, thas_eq_isSome_tfind, Bool.not_eq_true, Option.isSome_eq_false_iff, Option.isNone_iff_eq_none] at h
  rw [tget_eq_getD_tfind, h, Option.getD_none]

theorem Dev.frame_congr {d d' : Dev} {i : Nat} (h : tfind d'.frames i = tfind d.frames i) : d'.frame i = d.frame i := by
  rw [Dev.frame, Dev.frame, tget_eq_getD_tfind, tget_eq_getD_tfind, h]

theorem thas_congr {α : Type} {t t' : Tbl α} {i : Nat} (h : tfind t' i = tfind t i) : thas t' i = thas t i := by
  rw [thas_eq_isSome_tfind, thas_eq_isSome_tfind, h]

theorem Dev.blk_congr {d d' : Dev} (h : d'.blks = d.blks) (b : Nat) : d'.blk b = d.blk b := by
  rw [Dev.blk, h, Dev.blk]

/-! ## Tiles and pools -/

/-- What waits in a block: frames for a general dispatch entry, and frames and echoes for the host. -/
def BlkSt.waits (x : BlkSt) : List Nat × List HostRx × List Echo := (x.waitGen, x.hostQ, x.echoes)

/-- Between two devices only counts and the blocks differ, and no block in what waits there: tiles and charges have moved. -/
structure Dev.movesTiles (d d' : Dev) : Prop where
  same : d.sameBut [.evt, .stat, .pmu, .blks] d'
  waits : ∀ b, (d'.blk b).waits = (d.blk b).waits

theorem Dev.movesTiles_refl (d : Dev) : d.movesTiles d := ⟨Dev.sameBut_refl _ d, fun _ => rfl⟩

theorem Dev.movesTiles_trans {d d' d'' : Dev} (h : d.movesTiles d') (h' : d'.movesTiles d'') : d.movesTiles d'' :=
  ⟨Dev.sameBut_trans h.same h'.same, fun b => (h'.waits b).trans (h.waits b)⟩

theorem Dev.movesTiles.waitGen {d d' : Dev} (h : d.movesTiles d') (b : Nat) : (d'.blk b).waitGen = (d.blk b).waitGen :=
  (Prod.mk.inj (h.waits b)).1

theorem Dev.movesTiles.hostQ {d d' : Dev} (h : d.movesTiles d') (b : Nat) : (d'.blk b).hostQ = (d.blk b).hostQ :=
  (Prod.mk.inj (Prod.mk.inj (h.waits b)).2).1

theorem Dev.movesTiles.echoes {d d' : Dev} (h : d.movesTiles d') (b : Nat) : (d'.blk b).echoes = (d.blk b).echoes :=
  (Prod.mk.inj (Prod.mk.inj (h.waits b)).2).2

/-- What counts and leaves the blocks alone. -/
theorem Dev.movesTiles_of_sameBut {d d' : Dev} (h : d.sameBut [.stat, .evt, .pmu] d') : d.movesTiles d' :=
  ⟨Dev.sameBut_mono h (by decide), fun b => by rw [Dev.blk_congr (h .blks (by decide)) b]⟩

theorem Dev.movesTiles_setBlk {d : Dev} {b : Nat} {x : BlkSt} (h : x.waits = (d.blk b).waits) :
    d.movesTiles (d.setBlk b x) := by
  refine ⟨Dev.sameBut_mono (Dev.same_blks _ _) (by decide), fun m => ?_⟩
  rw [Dev.setBlk_blk]
  split
  next hm => rw [h, hm]
  next => rfl

theorem raiseEv_movesTiles (e : Env) (g i : Nat) (d : Dev) : d.movesTiles (raiseEv e g i d) :=
  Dev.movesTiles_of_sameBut (Dev.sameBut_mono (raiseEv_same _ _ _ _) (by decide))

theorem cycAdd_movesTiles (e : Env) (b i k : Nat) (d : Dev) : d.movesTiles (cycAdd e b i k d) :=
  Dev.movesTiles_of_sameBut (Dev.sameBut_mono (Dev.same_pmu _ _) (by decide))

theorem chargePool_movesTiles (b p n : Nat) (d : Dev) : d.movesTiles (chargePool b p n d) := Dev.movesTiles_setBlk rfl

theorem releasePool_movesTiles (b p n : Nat) (d : Dev) : d.movesTiles (releasePool b p n d) := Dev.movesTiles_setBlk rfl

theorem ovcUpdate_movesTiles (e : Env) (b : Nat) (d : Dev) : d.movesTiles (ovcUpdate e b d) := by
  simp only [ovcUpdate]
  split
  · exact Dev.movesTiles_refl d
  · split
    · refine Dev.movesTiles_trans ?_ (raiseEv_movesTiles ..)
      exact Dev.movesTiles_setBlk rfl
    · exact Dev.movesTiles_setBlk rfl

theorem freeTile_movesTiles (e : Env) (b t : Nat) (d : Dev) : d.movesTiles (freeTile e b t d) := by
  simp only [freeTile]
  refine Dev.movesTiles_trans (cycAdd_movesTiles e b 12 1 d) ?_
  split
  · refine Dev.movesTiles_trans ?_ (ovcUpdate_movesTiles ..)
    refine Dev.movesTiles_trans ?_ (raiseEv_movesTiles ..)
    exact Dev.movesTiles_setBlk rfl
  · exact Dev.movesTiles_setBlk rfl

theorem freeTiles_movesTiles (e : Env) (b : Nat) (l : List Nat) (d : Dev) : d.movesTiles (freeTiles e b l d) :=
  List.foldlRecOn l _ (Dev.movesTiles_refl d) fun _ h t _ => Dev.movesTiles_trans h (freeTile_movesTiles e b t _)

theorem allocTiles_movesTiles (e : Env) (b n : Nat) (d : Dev) : d.movesTiles (allocTiles e b n d).2 := by
  induction n generalizing d with
  | zero => exact Dev.movesTiles_refl d
  | succ n ih =>
    simp only [allocTiles]
    split
    · exact Dev.movesTiles_refl d
    · refine Dev.movesTiles_trans ?_ (ih _)
      refine Dev.movesTiles_trans ?_ (cycAdd_movesTiles e b 11 1 _)
      exact Dev.movesTiles_setBlk rfl

theorem grantRun_movesTiles (e : Env) (b p n : Nat) (d : Dev) : d.movesTiles (grantRun e b p n d).2 := by
  induction n generalizing d with
  | zero => exact Dev.movesTiles_refl d
  | succ n ih =>
    simp only [grantRun]
    split
    · exact Dev.movesTiles_trans (chargePool_movesTiles b p 1 d) (ih _)
    · exact Dev.movesTiles_refl d

/-- A pool's grant is judged from its block alone (R228, R229). -/
theorem poolGrants_congr {e : Env} {b : Nat} {d d' : Dev} (h : d'.blk b = d.blk b) (p n : Nat) :
    poolGrants e d' b p n = poolGrants e d b p n := by
  unfold poolGrants chargeSum sharedFree sharedSize sharedRaw poolCe poolC poolSlack
  rw [h]

theorem grantRun_fst_congr {e : Env} {b : Nat} {d d' : Dev} (h : d'.blk b = d.blk b) (p n : Nat) :
    (grantRun e b p n d').1 = (grantRun e b p n d).1 := by
  induction n generalizing d d' with
  | zero => rfl
  | succ n ih =>
    have hcharged : (chargePool b p 1 d').blk b = (chargePool b p 1 d).blk b := by
      simp only [chargePool, Dev.onBlk, Dev.setBlk_blk_self, h]
    simp only [grantRun, poolGrants_congr h]
    split
    · rw [ih hcharged]
    · rfl

/-! ## One frame and its input block -/

/-- The parts that a frame in its input block changes. -/
def ingressParts : List Part := [.evt, .stat, .pmu, .blks, .frames, .sends, .gut]

/-- Between two devices only frames and their traces in the input blocks differ: what waits for the host stands. -/
structure Dev.queuesKept (d d' : Dev) : Prop where
  same : d.sameBut ingressParts d'
  hostQ : ∀ b, (d'.blk b).hostQ = (d.blk b).hostQ
  echoes : ∀ b, (d'.blk b).echoes = (d.blk b).echoes

/-- Of the frames, only frame i differs. -/
structure Dev.onlyFrame (i : Nat) (d d' : Dev) : Prop extends kept : Dev.queuesKept d d' where
  other : ∀ j, j ≠ i → tfind d'.frames j = tfind d.frames j

theorem Dev.queuesKept_refl (d : Dev) : d.queuesKept d := ⟨Dev.sameBut_refl _ d, fun _ => rfl, fun _ => rfl⟩

theorem Dev.queuesKept_trans {d d' d'' : Dev} (h : d.queuesKept d') (h' : d'.queuesKept d'') : d.queuesKept d'' :=
  ⟨Dev.sameBut_trans h.same h'.same, fun b => (h'.hostQ b).trans (h.hostQ b), fun b => (h'.echoes b).trans (h.echoes b)⟩

theorem Dev.onlyFrame_refl (i : Nat) (d : Dev) : d.onlyFrame i d := ⟨Dev.queuesKept_refl d, fun _ _ => rfl⟩

theorem Dev.onlyFrame_trans {i : Nat} {d d' d'' : Dev} (h : d.onlyFrame i d') (h' : d'.onlyFrame i d'') :
    d.onlyFrame i d'' :=
  ⟨Dev.queuesKept_trans h.kept h'.kept, fun j hj => (h'.other j hj).trans (h.other j hj)⟩

theorem Dev.movesTiles.onlyFrame {d d' : Dev} (h : d.movesTiles d') (i : Nat) : d.onlyFrame i d' where
  same := Dev.sameBut_mono h.same (by decide)
  hostQ := h.hostQ
  echoes := h.echoes
  other j _ := by rw [(h.same .frames (by decide)).1]

theorem Dev.setFrame_onlyFrame (d : Dev) (i : Nat) (f : Frame) : d.onlyFrame i (d.setFrame i f) where
  same := Dev.sameBut_mono (Dev.same_frames _ _) (by decide)
  hostQ _ := rfl
  echoes _ := rfl
  other j hj := by rw [Dev.setFrame, tfind_tput, if_neg hj]

/-- A block changed in what does not wait for the host. -/
theorem Dev.setBlk_onlyFrame {d : Dev} (i : Nat) {b : Nat} {x : BlkSt} (hq : x.hostQ = (d.blk b).hostQ)
    (he : x.echoes = (d.blk b).echoes) : d.onlyFrame i (d.setBlk b x) where
  same := Dev.sameBut_mono (Dev.same_blks _ _) (by decide)
  hostQ m := by
    rw [Dev.setBlk_blk]
    split
    next hm => rw [hq, hm]
    next => rfl
  echoes m := by
    rw [Dev.setBlk_blk]
    split
    next hm => rw [he, hm]
    next => rfl
  other _ _ := rfl

theorem freeIngress_onlyFrame (e : Env) (i : Nat) (d : Dev) : d.onlyFrame i (freeIngress e i d) := by
  have htiles := Dev.movesTiles_trans (freeTiles_movesTiles e (d.frame i).blk (d.frame i).tiles d)
    (releasePool_movesTiles (d.frame i).blk (d.frame i).pool (d.frame i).charge _)
  exact Dev.onlyFrame_trans (htiles.onlyFrame i) (Dev.setFrame_onlyFrame _ _ _)

theorem tdelFrame_onlyFrame (d : Dev) (i : Nat) : d.onlyFrame i { d with frames := tdel d.frames i } where
  same := Dev.sameBut_mono (Dev.same_frames _ _) (by decide)
  hostQ _ := rfl
  echoes _ := rfl
  other j hj := by rw [tfind_tdel, if_neg hj]

theorem frameSettle_onlyFrame (e : Env) (i : Nat) (d : Dev) : d.onlyFrame i (frameSettle e i d) := by
  simp only [frameSettle]
  split
  · exact Dev.onlyFrame_trans (freeIngress_onlyFrame e i d) (tdelFrame_onlyFrame _ i)
  · exact Dev.onlyFrame_refl i d

/-- A frame that is still there has not settled. -/
theorem frameSettle_eq_self {e : Env} {i : Nat} {d : Dev} (h : thas (frameSettle e i d).frames i = true) :
    frameSettle e i d = d := by
  simp only [frameSettle] at h ⊢
  split at h
  · simp [thas_tdel] at h
  next hstays => exact if_neg hstays

/-! ## A frame dropped (R34, R305, R323) -/

/-- The crossings of frame i that have not begun. -/
def unbegun (d : Dev) (i : Nat) : List Nat :=
  d.sends.filterMap (fun kv => if kv.2.frame = i && kv.2.next = 0 && !kv.2.mirror then some kv.1 else none)

/-- Frame i taken back from block b: its crossings not yet begun go. -/
def unsend (i b : Nat) (d : Dev) : Dev :=
  let d' := d.onBlk b (fun x => { x with
    injBr := x.injBr.filter (fun s => !((unbegun d i).contains s))
    injOth := x.injOth.filter (fun s => !((unbegun d i).contains s))
    openOth := x.openOth.filter (fun s => !((unbegun d i).contains s)) })
  { d' with sends := d'.sends.filter (fun kv => !((unbegun d i).contains kv.1)) }.onFrame i
    (fun f => { f with stage := .released, sendsLeft := f.sendsLeft - (unbegun d i).length })

theorem dropFrame_eq (e : Env) (i code : Nat) (d : Dev) :
    dropFrame e i code d = frameSettle e i (unsend i (d.frame i).blk (echoOnce e i 2
      (if code = 0 then d else dropCapture e code (d.frame i).blk ((d.frame i).recInfo e) d))) := rfl

theorem unsend_onlyFrame (i b : Nat) (d : Dev) : d.onlyFrame i (unsend i b d) := by
  have hsends : ∀ (x : Dev) (l : Tbl Send), x.onlyFrame i { x with sends := l } := fun x l =>
    ⟨⟨Dev.sameBut_mono (Dev.same_sends x l) (by decide), fun _ => rfl, fun _ => rfl⟩, fun _ _ => rfl⟩
  refine Dev.onlyFrame_trans ?_ (Dev.setFrame_onlyFrame _ i _)
  refine Dev.onlyFrame_trans ?_ (hsends _ _)
  exact Dev.setBlk_onlyFrame i rfl rfl

theorem unsend_frame (i b : Nat) (d : Dev) : (unsend i b d).frame i =
    { d.frame i with stage := .released, sendsLeft := (d.frame i).sendsLeft - (unbegun d i).length } := tget_tput_self ..

theorem gutRecord_same (e : Env) (a b c t dp x : Nat) (r : RecInfo) (d : Dev) :
    d.sameBut [.stat, .evt, .pmu, .gut] (gutRecord e a b c t dp x r d) := by
  simp only [gutRecord]
  split
  · exact Dev.sameBut_refl _ d
  · split
    · exact Dev.sameBut_mono (bump_same _ _ _ _ _ _) (by decide)
    · exact Dev.sameBut_mono (Dev.same_gut _ _) (by decide)

theorem dropCapture_same (e : Env) (c b : Nat) (r : RecInfo) (d : Dev) :
    d.sameBut [.stat, .evt, .pmu, .gut] (dropCapture e c b r d) := by
  simp only [dropCapture]
  split
  · exact Dev.sameBut_refl _ d
  · split
    · exact Dev.sameBut_mono (Dev.same_gut _ _) (by decide)
    · refine Dev.sameBut_trans ?_ (gutRecord_same _ _ _ _ _ _ _ _ _)
      exact Dev.sameBut_mono (Dev.same_gut d _) (by decide)

theorem pushEcho_same (e : Env) (b p st t c : Nat) (l : List Byte) (d : Dev) :
    d.sameBut [.stat, .evt, .pmu, .blks] (pushEcho e b p st t c l d) := by
  simp only [pushEcho]
  split
  · exact Dev.sameBut_mono (bump_same _ _ _ _ _ _) (by decide)
  · exact Dev.sameBut_mono (Dev.same_blks _ _) (by decide)

theorem echoOnce_same (e : Env) (i st : Nat) (d : Dev) : d.sameBut ingressParts (echoOnce e i st d) := by
  simp only [echoOnce]
  split
  · refine Dev.sameBut_trans ?_ (Dev.setFrame_onlyFrame _ i _).same
    exact Dev.sameBut_mono (pushEcho_same _ _ _ _ _ _ _ _) (by decide)
  · exact Dev.sameBut_refl _ d

/-- A frame's one echo has been made already. -/
theorem echoOnce_of_echoed {e : Env} {i : Nat} (st : Nat) {d : Dev} (h : (d.frame i).echoed = true) :
    echoOnce e i st d = d := by
  simp [echoOnce, h]

theorem dropFrame_same (e : Env) (i code : Nat) (d : Dev) : d.sameBut ingressParts (dropFrame e i code d) := by
  rw [dropFrame_eq]
  refine Dev.sameBut_trans ?_ (frameSettle_onlyFrame e i _).same
  refine Dev.sameBut_trans ?_ (unsend_onlyFrame i _ _).same
  refine Dev.sameBut_trans ?_ (echoOnce_same e i 2 _)
  split
  · exact Dev.sameBut_refl _ d
  · exact Dev.sameBut_mono (dropCapture_same _ _ _ _ _) (by decide)

/-- A frame whose echo has been made, dropped with no code. -/
theorem dropFrame_of_echoed {e : Env} {i : Nat} {d : Dev} (h : (d.frame i).echoed = true) :
    dropFrame e i 0 d = frameSettle e i (unsend i (d.frame i).blk d) := by
  rw [dropFrame_eq, if_pos rfl, echoOnce_of_echoed 2 h]

/-! ## An echoed frame found bad -/

/-- Frame i is gone, or it is marked bad and asks for no echo. -/
def Dev.discards (d : Dev) (i : Nat) : Prop :=
  thas d.frames i = true → (d.frame i).bad = true ∧ (d.frame i).echoed = true

theorem Dev.discards_congr {d d' : Dev} {i : Nat} (h : tfind d'.frames i = tfind d.frames i) (hd : d.discards i) :
    d'.discards i := by
  rw [Dev.discards, Dev.frame_congr h, thas_congr h]
  exact hd

theorem dropFrame_onlyFrame {e : Env} {i : Nat} {d : Dev} (h : (d.frame i).echoed = true) :
    d.onlyFrame i (dropFrame e i 0 d) := by
  rw [dropFrame_of_echoed h]
  exact Dev.onlyFrame_trans (unsend_onlyFrame ..) (frameSettle_onlyFrame ..)

theorem dropFrame_discards {e : Env} {i : Nat} {d : Dev} (hbad : (d.frame i).bad = true) (h : (d.frame i).echoed = true) :
    (dropFrame e i 0 d).discards i := by
  rw [dropFrame_of_echoed h]
  intro hthere
  rw [frameSettle_eq_self hthere, unsend_frame]
  exact ⟨hbad, h⟩

/-- An echoed frame found bad changes nothing but itself, and is discarded wherever it stands. -/
theorem badFrame_of_echoed {e : Env} {i : Nat} {d : Dev} (h : (d.frame i).echoed = true) :
    d.onlyFrame i (badFrame e i d) ∧ (badFrame e i d).discards i := by
  unfold badFrame
  split
  next hgone => exact ⟨Dev.onlyFrame_refl i d, fun hthere => absurd hthere (by simpa using hgone)⟩
  next =>
    dsimp only
    generalize hmark : d.onFrame i (fun f => { f with rxDone := true, bad := true }) = m
    have hm : m.frame i = { d.frame i with rxDone := true, bad := true } := by
      rw [← hmark]
      exact Dev.setFrame_frame_self ..
    have hbad : (m.frame i).bad = true := by rw [hm]
    have hecho : (m.frame i).echoed = true := by rw [hm]; exact h
    have honly : d.onlyFrame i m := hmark ▸ Dev.setFrame_onlyFrame d i _
    split
    · refine ⟨Dev.onlyFrame_trans honly (Dev.onlyFrame_trans ?_ (dropFrame_onlyFrame hecho)), dropFrame_discards hbad hecho⟩
      exact Dev.setBlk_onlyFrame i rfl rfl
    · exact ⟨Dev.onlyFrame_trans honly (dropFrame_onlyFrame hecho), dropFrame_discards hbad hecho⟩
    · exact ⟨honly, fun _ => ⟨hbad, hecho⟩⟩

end Sys2Proof.Machine

/-! SUPPORT. The host port's rings (R37, R383, R386-R389, R442): HEAD and its message, sends, deliveries, and the
function-level reset of PF1. -/
namespace Sys2Proof.Machine

/-! ## Rings -/

@[simp] theorem Dev.setRing_ring_self (d : Dev) (r : Nat) (x : RingSt) : (d.setRing r x).ring r = x := tget_tput_self ..

theorem Dev.setRing_ring_ne (d : Dev) {r j : Nat} (x : RingSt) (h : j ≠ r) : (d.setRing r x).ring j = d.ring j :=
  tget_tput_ne _ _ _ _ h

theorem Dev.same_setRing (d : Dev) (r : Nat) (x : RingSt) : d.sameBut [.rings] (d.setRing r x) := Dev.same_rings d _

theorem Dev.ring_congr {d d' : Dev} (h : d'.rings = d.rings) (j : Nat) : d'.ring j = d.ring j := by
  rw [Dev.ring, h, Dev.ring]

/-- Between two devices the HEAD of ring r and its messages stand, and so do the other rings. -/
structure Dev.headsKept (r : Nat) (d d' : Dev) : Prop where
  head : (d'.ring r).head = (d.ring r).head
  vecAt : (d'.ring r).vecAt = (d.ring r).vecAt
  vecSent : (d'.ring r).vecSent = (d.ring r).vecSent
  others : ∀ j, j ≠ r → d'.ring j = d.ring j

theorem Dev.headsKept_of_rings {d d' : Dev} (r : Nat) (h : d'.rings = d.rings) : d.headsKept r d' where
  head := congrArg RingSt.head (Dev.ring_congr h r)
  vecAt := congrArg RingSt.vecAt (Dev.ring_congr h r)
  vecSent := congrArg RingSt.vecSent (Dev.ring_congr h r)
  others j _ := Dev.ring_congr h j

theorem ringErr_ring (r : Nat) (d : Dev) : (ringErr r d).ring r = { d.ring r with err := ((d.ring r).err + 1) % 2 ^ 32 } :=
  Dev.setRing_ring_self ..

theorem ringErr_headsKept (r : Nat) (d : Dev) : d.headsKept r (ringErr r d) where
  head := by rw [ringErr_ring]
  vecAt := by rw [ringErr_ring]
  vecSent := by rw [ringErr_ring]
  others _ hj := Dev.setRing_ring_ne _ _ hj

theorem Dev.headsKept_trans {r : Nat} {d d' d'' : Dev} (h : d.headsKept r d') (h' : d'.headsKept r d'') :
    d.headsKept r d'' :=
  ⟨h'.head.trans h.head, h'.vecAt.trans h.vecAt, h'.vecSent.trans h.vecSent,
    fun j hj => (h'.others j hj).trans (h.others j hj)⟩

/-! ## HEAD and its message (R442) -/

/-- HEAD of ring r has gone k entries on from state s and been written back over memory m; its vector's message has been
sent, or left to the end of the interval since the last. No other ring differs. -/
def State.headAhead (s t : State) (r k : Nat) (m : Memory) : Prop :=
  let x := s.dev.ring r
  let head := (x.head + k) % ringLen s.hpt r
  let wb := hptGet s.hpt r 0x14 + 2 ^ 32 * hptGet s.hpt r 0x18
  (t.dev.ring r).head = head ∧ t.host = (if wb = 0 then m else mwrite m wb (natLE 4 head)) ∧
    ((∀ w, x.vecAt = some w → w + us 2 ≤ s.env.third) →
      (t.dev.ring r).vecSent = x.vecSent + 1 ∧ (t.dev.ring r).vecAt = some s.env.third) ∧
    (∀ w, x.vecAt = some w → s.env.third < w + us 2 →
      (t.dev.ring r).vecSent = x.vecSent ∧ (t.dev.ring r).vecPend = true) ∧
    ∀ j, j ≠ r → t.dev.ring j = s.dev.ring j

/-- What rings and host memory show of a HEAD's advance stands in every state that has them. -/
theorem State.headAhead_congr {s t t' : State} {r k : Nat} {m : Memory} (h : s.headAhead t r k m)
    (hr : t'.dev.rings = t.dev.rings) (hm : t'.host = t.host) : s.headAhead t' r k m := by
  unfold State.headAhead
  simp only [Dev.ring_congr hr, hm]
  exact h

@[simp] theorem ringSignal_head (e : Env) (x : RingSt) : (ringSignal e x).head = x.head := by
  unfold ringSignal
  dsimp only
  split
  · split <;> rfl
  · rfl

@[simp] theorem ringSignal_err (e : Env) (x : RingSt) : (ringSignal e x).err = x.err := by
  unfold ringSignal
  dsimp only
  split
  · split <;> rfl
  · rfl

/-- With the interval since the last message over, the message goes at once. -/
theorem ringSignal_of_over {e : Env} {x : RingSt} (h : ∀ w, x.vecAt = some w → w + us 2 ≤ e.third) :
    ringSignal e x = { x with vecAt := some e.third, vecPend := false, vecSent := x.vecSent + 1 } := by
  unfold ringSignal
  cases hat : x.vecAt with
  | none => rfl
  | some w => simp [Nat.not_lt.mpr (h w hat)]

/-- Within the interval since the last message, it is left to the interval's end. -/
theorem ringSignal_of_within {e : Env} {x : RingSt} {w : Nat} (hat : x.vecAt = some w) (h : e.third < w + us 2) :
    ringSignal e x = { x with vecPend := true } := by
  simp [ringSignal, hat, h]

theorem ringAdvance_ring (r k : Nat) (s : State) : (ringAdvance r k s).dev.ring r =
    ringSignal s.env { s.dev.ring r with head := ((s.dev.ring r).head + k) % ringLen s.hpt r } := Dev.setRing_ring_self ..

@[simp] theorem ringAdvance_err (r k : Nat) (s : State) : ((ringAdvance r k s).dev.ring r).err = (s.dev.ring r).err := by
  rw [ringAdvance_ring, ringSignal_err]

theorem ringAdvance_same (r k : Nat) (s : State) : s.dev.sameBut [.rings] (ringAdvance r k s).dev := Dev.same_setRing _ _ _

/-- An advance of HEAD in a state s' that has the rings of s but for error counts. -/
theorem ringAdvance_headAhead {s s' : State} {r : Nat} (k : Nat) (henv : s'.env = s.env) (hhpt : s'.hpt = s.hpt)
    (hkept : s.dev.headsKept r s'.dev) : s.headAhead (ringAdvance r k s') r k s'.host := by
  obtain ⟨hhead, hat, hsent, hothers⟩ := hkept
  have hring := ringAdvance_ring r k s'
  refine ⟨?head, ?host, fun hover => ?sent, fun w hw hin => ?left, fun j hj => ?others⟩
  case head => rw [hring, ringSignal_head, hhead, hhpt]
  case host => rw [ringAdvance, hhead, hhpt]
  case sent =>
    rw [hring, ringSignal_of_over (fun w hw => by rw [henv]; exact hover w (hat ▸ hw)), henv, hsent]
    exact ⟨rfl, rfl⟩
  case left =>
    rw [hring.trans (ringSignal_of_within (hat.trans hw) (henv ▸ hin))]
    exact ⟨hsent, rfl⟩
  case others => exact (Dev.setRing_ring_ne _ _ hj).trans (hothers j hj)

/-- The interval of a message left over has ended: it goes (R442). -/
theorem ringTimerOp_of_due {s : State} {v : Nat} (hpend : (s.dev.ring (v / 2 + 64 * (v % 2))).vecPend = true)
    (hover : ∀ w, (s.dev.ring (v / 2 + 64 * (v % 2))).vecAt = some w → w + us 2 ≤ s.env.third) :
    ringTimerOp v s = { s with dev := s.dev.setRing (v / 2 + 64 * (v % 2)) { s.dev.ring (v / 2 + 64 * (v % 2)) with
      vecAt := some s.env.third, vecPend := false, vecSent := (s.dev.ring (v / 2 + 64 * (v % 2))).vecSent + 1 } } := by
  unfold ringTimerOp
  dsimp only
  rw [hpend]
  cases hat : (s.dev.ring (v / 2 + 64 * (v % 2))).vecAt with
  | none => rfl
  | some w => simp [hover w hat]

/-! ## A frame of the host port enters its slice (R37, R231) -/

/-- A send as its slice gets it: padded. -/
def hostPadded (l : List Byte) : List Byte := l ++ zeros (60 - l.length)
/-- The whole frame, with its FCS. -/
def hostBytes (l : List Byte) : List Byte := hostPadded l ++ fcsOf (hostPadded l)
/-- The pool it is charged to. -/
def hostPool (e : Env) (b : Nat) (l : List Byte) : Nat := inPool e b 6 (classOf e b 6 (hostPadded l))
/-- The tiles it takes. -/
def hostNeed (l : List Byte) : Nat := ceilDiv (hostBytes l).length 256
/-- The device once a pool of the wrong kind has been counted. -/
def hostCounted (e : Env) (b pool : Nat) (d : Dev) : Dev :=
  if e.f (thaReg b (0x400 + 0x10 * pool)) 31 30 == 1 then bumpBlk e b 82 1 none d else d
/-- The tiles its pool grants it. -/
def hostGrant (e : Env) (b : Nat) (l : List Byte) (d : Dev) : Nat × Dev :=
  grantRun e b (hostPool e b l) (hostNeed l) (hostCounted e b (hostPool e b l) d)
/-- The tiles granted, taken. -/
def hostTiles (e : Env) (b : Nat) (l : List Byte) (d : Dev) : List Nat × Dev :=
  allocTiles e b (hostGrant e b l d).1 (hostGrant e b l d).2
/-- The frame that enters block b. -/
def hostFrame (e : Env) (b : Nat) (l : List Byte) (echo : Bool) (cookie : Nat) (d : Dev) : Frame :=
  let md : BitVec 512 := mdSet (mdSet (mdSet 0 0 31 24 96) 6 31 0 (e.ltStamp / 2 ^ 32 % 2 ^ 32)) 7 31 0 (e.ltStamp % 2 ^ 32)
  { inPort := 96, blk := b, lp := 6, bytes := hostBytes l, startAt := e.third, rxDone := true, pool := hostPool e b l,
    charge := (hostGrant e b l d).1, tiles := (hostTiles e b l d).1, cookie := cookie
    md := mdSet (mdSet (mdSet md 1 31 16 (hostBytes l).length) 8 23 23 1) 8 22 22 (if echo then 1 else 0) }

/-- What becomes of a send that a device takes. -/
theorem hostEnter_of_takesFrames {e : Env} {b : Nat} {l : List Byte} {echo : Bool} {cookie : Nat} {d : Dev}
    (h : takesFrames e d = true) : hostEnter e b l echo cookie d =
      let r := enterFrame (hostFrame e b l echo cookie d) (hostTiles e b l d).2
      if (hostGrant e b l d).1 < hostNeed l then dropFrame e r.1 0 (bumpBlk e b (hostPool e b l) 1 none r.2)
      else if (verAt e (hostCounted e b (hostPool e b l) d) e.ltStamp).isNone then
        dropFrame e r.1 0x8304 (bumpDev e 0 1 none r.2)
      else queueWait r.1 false r.2 := by
  unfold hostEnter
  rw [h]
  rfl

theorem hostCounted_same (e : Env) (b pool : Nat) (d : Dev) : d.sameBut [.stat, .evt, .pmu] (hostCounted e b pool d) := by
  unfold hostCounted
  split
  · exact bump_same _ _ _ _ _ _
  · exact Dev.sameBut_refl _ d

theorem hostTiles_movesTiles (e : Env) (b : Nat) (l : List Byte) (d : Dev) : d.movesTiles (hostTiles e b l d).2 :=
  Dev.movesTiles_trans (Dev.movesTiles_of_sameBut (hostCounted_same _ _ _ _))
    (Dev.movesTiles_trans (grantRun_movesTiles ..) (allocTiles_movesTiles ..))

/-- The count of a wrong pool changes no grant. -/
theorem hostGrant_fst (e : Env) (b : Nat) (l : List Byte) (d : Dev) :
    (hostGrant e b l d).1 = (grantRun e b (hostPool e b l) (hostNeed l) d).1 :=
  grantRun_fst_congr (Dev.blk_congr (hostCounted_same e b _ d .blks (by decide)) b) _ _

theorem verAt_congr {e : Env} {d d' : Dev} (h : d'.rs = d.rs) (ts : Nat) : verAt e d' ts = verAt e d ts := by
  simp only [verAt, h]

/-- The frames and the number of the next one replaced. -/
theorem Dev.same_frames_nextFrame (d : Dev) (t : Tbl Frame) (n : Nat) :
    d.sameBut [.frames] { d with frames := t, nextFrame := n } := by
  intro p hp
  cases p <;> simp_all [Dev.agree]

theorem enterFrame_same (f : Frame) (d : Dev) : d.sameBut ingressParts (enterFrame f d).2 :=
  Dev.sameBut_trans (Dev.sameBut_mono (Dev.same_blks d _) (by decide))
    (Dev.sameBut_mono (Dev.same_frames_nextFrame _ _ _) (by decide))

theorem queueWait_same (i : Nat) (br : Bool) (d : Dev) : d.sameBut ingressParts (queueWait i br d) :=
  Dev.sameBut_mono (Dev.same_blks d _) (by decide)

theorem hostEnter_same (e : Env) (b : Nat) (l : List Byte) (echo : Bool) (cookie : Nat) (d : Dev) :
    d.sameBut ingressParts (hostEnter e b l echo cookie d) := by
  cases htake : takesFrames e d with
  | false =>
    simp only [hostEnter, htake]
    cases echo with
    | false => exact Dev.sameBut_refl _ d
    | true => exact Dev.sameBut_mono (pushEcho_same _ _ _ _ _ _ _ _) (by decide)
  | true =>
    rw [hostEnter_of_takesFrames htake]
    refine Dev.sameBut_trans (Dev.sameBut_mono (hostTiles_movesTiles e b l d).same (by decide)) ?_
    refine Dev.sameBut_trans (enterFrame_same (hostFrame e b l echo cookie d) _) ?_
    dsimp only
    split
    · exact Dev.sameBut_trans (Dev.sameBut_mono (bump_same _ _ _ _ _ _) (by decide)) (dropFrame_same _ _ _ _)
    · split
      · exact Dev.sameBut_trans (Dev.sameBut_mono (bump_same _ _ _ _ _ _) (by decide)) (dropFrame_same _ _ _ _)
      · exact queueWait_same _ _ _

theorem tsoEnter_same (e : Env) (b : Nat) (l : List Byte) (hdrLen mss : Nat) (echo : Bool) (cookie : Nat) (d : Dev) :
    d.sameBut ingressParts (tsoEnter e b l hdrLen mss echo cookie d) := by
  unfold tsoEnter
  split
  · exact Dev.sameBut_mono (bump_same _ _ _ _ _ _) (by decide)
  · exact Dev.sameBut_foldl _ (fun x seg => hostEnter_same e b seg echo cookie x) _ d

/-- A frame that enters its block and waits there for a general dispatch entry. -/
theorem queueWait_enterFrame (f : Frame) (d : Dev) :
    let d' := queueWait (enterFrame f d).1 false (enterFrame f d).2
    thas d'.frames d.nextFrame = true ∧ d'.frame d.nextFrame = { f with arrival := (d.blk f.blk).arrivals } ∧
      (d'.blk f.blk).waitGen = (d.blk f.blk).waitGen ++ [d.nextFrame] := by
  have hframe : (enterFrame f d).2.frame d.nextFrame = { f with arrival := (d.blk f.blk).arrivals } := tget_tput_self ..
  have hblk : (enterFrame f d).2.blk f.blk = { d.blk f.blk with arrivals := (d.blk f.blk).arrivals + 1 } :=
    tget_tput_self ..
  refine ⟨?_, hframe, ?_⟩
  · exact (thas_tput ..).trans (by simp)
  · have hid : (enterFrame f d).1 = d.nextFrame := rfl
    simp only [queueWait, hid, hframe, Dev.onBlk, Dev.setBlk_blk_self, hblk, Bool.false_eq_true, if_false]

/-- A send that is taken, granted its tiles and served by a version waits in its block as a frame of port 96 (R37). -/
theorem hostEnter_waits {e : Env} {b : Nat} {l : List Byte} {echo : Bool} {cookie : Nat} {d : Dev}
    (htake : takesFrames e d = true) (hgrant : (grantRun e b (hostPool e b l) (hostNeed l) d).1 = hostNeed l)
    (hver : (verAt e d e.ltStamp).isSome = true) :
    let d' := hostEnter e b l echo cookie d
    thas d'.frames d.nextFrame = true ∧ (d'.frame d.nextFrame).bytes = hostBytes l ∧
      (d'.frame d.nextFrame).inPort = 96 ∧ (d'.frame d.nextFrame).blk = b ∧
      (d'.frame d.nextFrame).pool = hostPool e b l ∧ (d'.frame d.nextFrame).charge = hostNeed l ∧
      (d'.frame d.nextFrame).cookie = cookie ∧ (d'.blk b).waitGen = (d.blk b).waitGen ++ [d.nextFrame] := by
  have hfull : (hostGrant e b l d).1 = hostNeed l := (hostGrant_fst e b l d).trans hgrant
  have hver' : (verAt e (hostCounted e b (hostPool e b l) d) e.ltStamp).isNone = false := by
    rw [verAt_congr (hostCounted_same e b _ d .rs (by decide)), Option.isNone_eq_false_iff]
    exact hver
  have heq : hostEnter e b l echo cookie d =
      queueWait (enterFrame (hostFrame e b l echo cookie d) (hostTiles e b l d).2).1 false
        (enterFrame (hostFrame e b l echo cookie d) (hostTiles e b l d).2).2 := by
    rw [hostEnter_of_takesFrames htake]
    simp only [hfull, hver', Nat.lt_irrefl, if_false, Bool.false_eq_true]
  have htiles := hostTiles_movesTiles e b l d
  have hnext : (hostTiles e b l d).2.nextFrame = d.nextFrame := (htiles.same .frames (by decide)).2
  have hwait : ((hostTiles e b l d).2.blk b).waitGen = (d.blk b).waitGen := htiles.waitGen b
  obtain ⟨hhas, hframe, hlast⟩ := queueWait_enterFrame (hostFrame e b l echo cookie d) (hostTiles e b l d).2
  rw [hnext] at hhas hframe hlast
  rw [heq]
  refine ⟨hhas, ?_⟩
  rw [hframe]
  exact ⟨rfl, rfl, rfl, rfl, hfull, rfl, hlast.trans (congrArg (· ++ [d.nextFrame]) hwait)⟩

/-! ## A send (R386, R387) -/

/-- A send of n descriptors with x the first goes beyond the limits. -/
def sendBad (x : TxDesc) (n : Nat) (data : List Byte) : Prop :=
  16 < n ∨ (x.tso = true ∧ tsoOk data x.hdrLen x.mss = false) ∨ (x.tso = false ∧ 9212 < data.length)

/-- The device once the send of ring t has been given to its slice or counted. -/
def sendGiven (e : Env) (t n : Nat) (x : TxDesc) (data : List Byte) (d : Dev) : Dev :=
  if 16 < n then ringErr t d
  else if x.tso then
    let d := tsoEnter e (t % 16) data x.hdrLen x.mss x.echo x.cookie.toNat d
    if tsoOk data x.hdrLen x.mss then d else ringErr t d
  else if 9212 < data.length then ringErr t d
  else hostEnter e (t % 16) data x.echo x.cookie.toNat d

/-- The device with the turn of block b's slice past ring t. -/
def Dev.turnPast (d : Dev) (t : Nat) : Dev := d.onBlk (t % 16) (fun y => { y with hostRr := (t / 16 + 1) % 4 })

/-- A whole send in its ring's turn is taken. -/
theorem sendTakeOp_of_sendTurn {s : State} {t : Nat} {ds : List TxDesc} {data : List Byte} {x : TxDesc}
    (hon : s.env.b 0x1200004 0 = true) (hturn : sendTurn s t = true) (hfirst : ds.head? = some x) (hone : oneSend ds = true)
    (havail : ds.length ≤ ringAvail s t) (hlen : data.length = ds.foldl (fun a y => a + y.len) 0) :
    sendTakeOp t ds data s =
      ringAdvance t ds.length { s with dev := (sendGiven s.env t ds.length x data s.dev).turnPast t } := by
  have hgo : (!(s.env.b 0x1200004 0) || !(sendTurn s t) || !(oneSend ds) || decide (ringAvail s t < ds.length) ||
      data.length != ds.foldl (fun a x => a + x.len) 0) = false := by
    rw [hon, hturn, hone, decide_eq_false (Nat.not_lt.mpr havail), bne_eq_false_iff_eq.mpr hlen]
    rfl
  have hx : ∀ y, ds.headD y = x := fun y => by rw [List.headD_eq_head?_getD, hfirst, Option.getD_some]
  unfold sendTakeOp
  simp only [hgo, hx, Bool.false_eq_true, if_false]
  rfl

theorem sendTakeOp_of_not_sendTurn {s : State} {t : Nat} (ds : List TxDesc) (data : List Byte) (h : sendTurn s t = false) :
    sendTakeOp t ds data s = s := by
  simp [sendTakeOp, h]

/-- A send beyond the limits counts in the ring's error count, and nothing of it enters the slice. -/
theorem sendGiven_of_sendBad {e : Env} {t n : Nat} {x : TxDesc} {data : List Byte} {d : Dev} (h : sendBad x n data) :
    ∃ d', sendGiven e t n x data d = ringErr t d' ∧ d.sameBut [.stat, .evt, .pmu] d' := by
  unfold sendGiven
  by_cases hn : 16 < n
  · exact ⟨d, if_pos hn, Dev.sameBut_refl _ d⟩
  · obtain hlong | ⟨htso, hno⟩ | ⟨htso, hbig⟩ := h
    · exact absurd hlong hn
    · refine ⟨bumpPort e (4 * (t % 16)) 62 1 none d, ?_, bump_same _ _ _ _ _ _⟩
      simp [hn, htso, hno, tsoEnter]
    · exact ⟨d, by simp [hn, htso, hbig], Dev.sameBut_refl _ d⟩

/-- A send within the limits goes to its slice, whole or in segments, and leaves the rings alone. -/
theorem sendGiven_same_of_not_sendBad {e : Env} {t n : Nat} {x : TxDesc} {data : List Byte} {d : Dev}
    (h : ¬ sendBad x n data) : d.sameBut ingressParts (sendGiven e t n x data d) := by
  obtain ⟨hn, htso, hplain⟩ : ¬ 16 < n ∧ ¬ (x.tso = true ∧ tsoOk data x.hdrLen x.mss = false) ∧
      ¬ (x.tso = false ∧ 9212 < data.length) := by simpa only [sendBad, not_or] using h
  unfold sendGiven
  rw [if_neg hn]
  cases hx : x.tso with
  | true =>
    have hok : tsoOk data x.hdrLen x.mss = true := by simpa [hx] using htso
    rw [if_pos rfl]
    dsimp only
    rw [if_pos hok]
    exact tsoEnter_same _ _ _ _ _ _ _ _
  | false =>
    rw [if_neg Bool.false_ne_true, if_neg fun hbig => hplain ⟨hx, hbig⟩]
    exact hostEnter_same _ _ _ _ _ _

/-- A send within the limits that is no large send is one frame. -/
theorem sendGiven_of_plain {e : Env} {t n : Nat} {x : TxDesc} {data : List Byte} {d : Dev} (h : ¬ sendBad x n data)
    (htso : x.tso = false) : sendGiven e t n x data d = hostEnter e (t % 16) data x.echo x.cookie.toNat d := by
  have hn : ¬ 16 < n := fun hn => h (.inl hn)
  have hbig : ¬ 9212 < data.length := fun hbig => h (.inr (.inr ⟨htso, hbig⟩))
  simp [sendGiven, hn, htso, hbig]

theorem sendGiven_same (e : Env) (t n : Nat) (x : TxDesc) (data : List Byte) (d : Dev) :
    d.sameBut (ingressParts ++ [.rings]) (sendGiven e t n x data d) := by
  by_cases h : sendBad x n data
  · obtain ⟨d', heq, hsame⟩ := sendGiven_of_sendBad (e := e) (t := t) (d := d) h
    rw [heq]
    exact Dev.sameBut_trans (Dev.sameBut_mono hsame (by decide)) (Dev.sameBut_mono (Dev.same_setRing _ _ _) (by decide))
  · exact Dev.sameBut_mono (sendGiven_same_of_not_sendBad h) (by decide)

theorem sendGiven_headsKept (e : Env) (t n : Nat) (x : TxDesc) (data : List Byte) (d : Dev) :
    d.headsKept t (sendGiven e t n x data d) := by
  by_cases h : sendBad x n data
  · obtain ⟨d', heq, hsame⟩ := sendGiven_of_sendBad (e := e) (t := t) (d := d) h
    rw [heq]
    exact Dev.headsKept_trans (Dev.headsKept_of_rings t (hsame .rings (by decide))) (ringErr_headsKept t d')
  · exact Dev.headsKept_of_rings t (sendGiven_same_of_not_sendBad h .rings (by decide))

theorem Dev.turnPast_blk (d : Dev) (t m : Nat) : (d.turnPast t).blk m =
    if m = t % 16 then { d.blk (t % 16) with hostRr := (t / 16 + 1) % 4 } else d.blk m := Dev.setBlk_blk ..

/-- The state once a send of ring t has been taken. -/
def sendTaken (s : State) (t n : Nat) (x : TxDesc) (data : List Byte) : State :=
  ringAdvance t n { s with dev := (sendGiven s.env t n x data s.dev).turnPast t }

section
variable (s : State) (t n : Nat) (x : TxDesc) (data : List Byte)

theorem sendTaken_headAhead : s.headAhead (sendTaken s t n x data) t n s.host :=
  ringAdvance_headAhead (s' := { s with dev := _ }) n rfl rfl
    (Dev.headsKept_trans (sendGiven_headsKept s.env t n x data s.dev) (Dev.headsKept_of_rings t rfl))

theorem sendTaken_err : ((sendTaken s t n x data).dev.ring t).err = ((sendGiven s.env t n x data s.dev).ring t).err :=
  ringAdvance_err ..

theorem sendTaken_blk (m : Nat) : (sendTaken s t n x data).dev.blk m =
    if m = t % 16 then { (sendGiven s.env t n x data s.dev).blk (t % 16) with hostRr := (t / 16 + 1) % 4 }
    else (sendGiven s.env t n x data s.dev).blk m := Dev.turnPast_blk ..

theorem sendTaken_frames : (sendTaken s t n x data).dev.frames = (sendGiven s.env t n x data s.dev).frames := rfl

theorem sendTaken_hostRr : ((sendTaken s t n x data).dev.blk (t % 16)).hostRr = (t / 16 + 1) % 4 := by
  rw [sendTaken_blk, if_pos rfl]

theorem sendTaken_same : s.dev.sameBut (ingressParts ++ [.rings]) (sendTaken s t n x data).dev := by
  refine Dev.sameBut_trans (sendGiven_same s.env t n x data s.dev) ?_
  refine Dev.sameBut_trans ?_ (Dev.sameBut_mono (ringAdvance_same t n { s with dev := _ }) (by decide))
  exact Dev.sameBut_mono (Dev.same_blks _ _) (by decide)

variable {x n data}

/-- A send beyond the limits is counted, and no more. -/
theorem sendTaken_of_sendBad (h : sendBad x n data) :
    ((sendTaken s t n x data).dev.ring t).err = ((s.dev.ring t).err + 1) % 2 ^ 32 ∧
      (sendTaken s t n x data).dev.frames = s.dev.frames ∧
      (sendTaken s t n x data).dev.blk (t % 16) = { s.dev.blk (t % 16) with hostRr := (t / 16 + 1) % 4 } ∧
      s.dev.otherBlks (t % 16) (sendTaken s t n x data).dev := by
  obtain ⟨d', heq, hsame⟩ := sendGiven_of_sendBad (e := s.env) (t := t) (d := s.dev) h
  have hblk : ∀ m, (ringErr t d').blk m = s.dev.blk m := Dev.blk_congr (d' := ringErr t d') (hsame .blks (by decide))
  refine ⟨?_, ?_, ?_, fun m hm => ?_⟩
  · rw [sendTaken_err, heq, ringErr_ring, Dev.ring_congr (hsame .rings (by decide))]
  · rw [sendTaken_frames, heq]
    exact (hsame .frames (by decide)).1
  · rw [sendTaken_blk, if_pos rfl, heq, hblk]
  · rw [sendTaken_blk, if_neg hm, heq, hblk]

theorem sendTaken_err_of_not_sendBad (h : ¬ sendBad x n data) :
    ((sendTaken s t n x data).dev.ring t).err = (s.dev.ring t).err := by
  rw [sendTaken_err, Dev.ring_congr (sendGiven_same_of_not_sendBad h .rings (by decide))]

variable {s}

/-- A send within the limits that is no large send, taken by a device that has tiles and a version for it, waits in its
block as one frame. -/
theorem sendTaken_waits (h : ¬ sendBad x n data) (htso : x.tso = false) (htake : takesFrames s.env s.dev = true)
    (hgrant : (grantRun s.env (t % 16) (hostPool s.env (t % 16) data) (hostNeed data) s.dev).1 = hostNeed data)
    (hver : (verAt s.env s.dev s.env.ltStamp).isSome = true) :
    let d' := (sendTaken s t n x data).dev
    let f := s.dev.nextFrame
    thas d'.frames f = true ∧ (d'.frame f).bytes = hostBytes data ∧ (d'.frame f).inPort = 96 ∧ (d'.frame f).blk = t % 16 ∧
      (d'.frame f).pool = hostPool s.env (t % 16) data ∧ (d'.frame f).charge = hostNeed data ∧
      (d'.frame f).cookie = x.cookie.toNat ∧ (d'.blk (t % 16)).waitGen = (s.dev.blk (t % 16)).waitGen ++ [f] := by
  intro d' f
  have hframe : d'.frame f = (sendGiven s.env t n x data s.dev).frame f := rfl
  have hwait : (d'.blk (t % 16)).waitGen = ((sendGiven s.env t n x data s.dev).blk (t % 16)).waitGen := by
    rw [sendTaken_blk, if_pos rfl]
  rw [hframe, hwait, sendTaken_frames, sendGiven_of_plain h htso]
  exact hostEnter_waits htake hgrant hver

end

/-! ## Delivery (R388, R389) -/

/-- With buffers for it, a frame or echo is written into them, and HEAD goes past them. -/
theorem deliver_of_bufs {x : HostRx} {bufs used : List RxBuf} (lost : Dev → Dev) {s : State}
    (h : bufsFor (max 1 x.bytes.length) (bufs.take (ringAvail s (64 + x.ring))) = some used) :
    let r := 64 + x.ring
    ∃ s', deliver x bufs lost s = some s' ∧
      s.headAhead s' r used.length
        (rxWrite (ringBase s.hpt r) (ringLen s.hpt r) x used (s.dev.ring r).head x.bytes s.host) ∧
      (s'.dev.ring r).err = (s.dev.ring r).err ∧ s'.env = s.env ∧ s.dev.sameBut [.rings] s'.dev := by
  intro r
  refine ⟨ringAdvance r used.length { s with
    host := rxWrite (ringBase s.hpt r) (ringLen s.hpt r) x used (s.dev.ring r).head x.bytes s.host }, ?_, ?_,
    ringAdvance_err .., rfl, ringAdvance_same r _ { s with host := _ }⟩
  · simp only [deliver, h]
    rfl
  · exact ringAdvance_headAhead (s' := { s with host := _ }) _ rfl rfl (Dev.headsKept_of_rings r rfl)

/-- Where all the posted buffers are named and do not suffice, the frame or echo is lost. -/
theorem deliver_of_few {x : HostRx} {bufs : List RxBuf} (lost : Dev → Dev) {s : State}
    (hall : ringAvail s (64 + x.ring) ≤ bufs.length)
    (h : bufsFor (max 1 x.bytes.length) (bufs.take (ringAvail s (64 + x.ring))) = none) :
    deliver x bufs lost s = some { s with dev := lost s.dev } := by
  simp [deliver, h, hall]

/-- A frame no longer goes to a host ring, and settles. -/
theorem frameSettle_hostRing_onlyFrame (e : Env) (i : Nat) (d : Dev) :
    d.onlyFrame i (frameSettle e i (d.onFrame i (fun f => { f with hostRing := none }))) :=
  Dev.onlyFrame_trans (Dev.setFrame_onlyFrame ..) (frameSettle_onlyFrame ..)

theorem hostDone_same (b : Nat) (x : HostRx) (rest : List HostRx) (s : State) :
    s.dev.sameBut ingressParts (hostDone b x rest s).dev :=
  Dev.sameBut_trans (Dev.sameBut_mono (Dev.same_blks s.dev _) (by decide)) (frameSettle_hostRing_onlyFrame ..).same

theorem hostDone_rings (b : Nat) (x : HostRx) (rest : List HostRx) (s : State) :
    (hostDone b x rest s).dev.rings = s.dev.rings := hostDone_same b x rest s .rings (by decide)

theorem hostDone_hostQ (b : Nat) (x : HostRx) (rest : List HostRx) (s : State) :
    ((hostDone b x rest s).dev.blk b).hostQ = rest :=
  ((frameSettle_hostRing_onlyFrame ..).hostQ b).trans (congrArg BlkSt.hostQ (Dev.setBlk_blk_self ..))

/-- The oldest frame of a slice, received whole, is bad: it goes. -/
theorem deliverOp_of_bad {b : Nat} {bufs : List RxBuf} {s : State} {x : HostRx} {rest : List HostRx}
    (hq : (s.dev.blk b).hostQ = x :: rest) (hdone : (s.dev.frame x.frame).rxDone = true)
    (hbad : (s.dev.frame x.frame).bad = true) : deliverOp b bufs s = hostDone b x rest s := by
  simp [deliverOp, hq, hdone, hbad]

/-- The oldest frame of a slice, received whole, is good: it is delivered. -/
theorem deliverOp_of_good {b : Nat} {bufs : List RxBuf} {s s' : State} {x : HostRx} {rest : List HostRx}
    (hq : (s.dev.blk b).hostQ = x :: rest) (hdone : (s.dev.frame x.frame).rxDone = true)
    (hgood : (s.dev.frame x.frame).bad = false)
    (hdel : deliver (rxOfFrame x (s.dev.frame x.frame)) bufs (ringErr (64 + x.ring)) s = some s') :
    deliverOp b bufs s = hostDone b x rest s' := by
  simp [deliverOp, hq, hdone, hgood, hdel]

/-- With no frame waiting, the oldest echo is delivered. -/
theorem deliverOp_of_echo {b : Nat} {bufs : List RxBuf} {s s' : State} {x : Echo} {rest : List Echo}
    (hq : (s.dev.blk b).hostQ = []) (he : (s.dev.blk b).echoes = x :: rest)
    (hdel : deliver (rxOfEcho s.env x) bufs (bumpBlk s.env b 85 1 none) s = some s') :
    deliverOp b bufs s = { s' with dev := s'.dev.onBlk b (fun y => { y with echoes := rest }) } := by
  simp only [deliverOp, hq, he, hdel]

/-- A block counter's advance (R330). -/
theorem bumpBlk_blkCnt (e : Env) (b i : Nat) (ctx : FrCtx) (d : Dev) :
    blkCnt (bumpBlk e b i 1 ctx d) b i = (blkCnt d b i + 1) % 2 ^ 48 := by
  simp only [blkCnt, bumpBlk, bump_live, ne_eq, Nat.one_ne_zero, not_false_eq_true, and_self, if_true]

/-! ## Function-level reset of PF1 (R383) -/

/-- A frame of the host that has not passed the sieve. -/
def Frame.unsieved (f : Frame) : Prop := f.fromHost = true ∧ f.stage ≠ .released

theorem dropHostFrame_of_unsieved {e : Env} {d : Dev} {i : Nat} (h : (d.frame i).unsieved) :
    dropHostFrame e d i = badFrame e i (d.onFrame i (fun f => { f with echoed := true })) := by
  obtain ⟨hhost, hstage⟩ := h
  simp [dropHostFrame, hhost, hstage]

theorem dropHostFrame_of_not_unsieved {e : Env} {d : Dev} {i : Nat} (h : ¬ (d.frame i).unsieved) :
    dropHostFrame e d i = d := by
  unfold dropHostFrame
  exact if_neg (by simpa [Frame.unsieved] using h)

theorem dropHostFrame_onlyFrame (e : Env) (d : Dev) (i : Nat) : d.onlyFrame i (dropHostFrame e d i) := by
  by_cases h : (d.frame i).unsieved
  · rw [dropHostFrame_of_unsieved h]
    exact Dev.onlyFrame_trans (Dev.setFrame_onlyFrame ..)
      (badFrame_of_echoed (congrArg Frame.echoed (Dev.setFrame_frame_self ..))).1
  · rw [dropHostFrame_of_not_unsieved h]
    exact Dev.onlyFrame_refl i d

theorem dropHostFrame_discards {e : Env} {d : Dev} {i : Nat} (h : (d.frame i).unsieved) :
    (dropHostFrame e d i).discards i := by
  rw [dropHostFrame_of_unsieved h]
  exact (badFrame_of_echoed (congrArg Frame.echoed (Dev.setFrame_frame_self ..))).2

/-- A frame once discarded stays so. -/
theorem dropHostFrame_keeps_discards {e : Env} {d : Dev} {i : Nat} (j : Nat) (h : d.discards i) :
    (dropHostFrame e d j).discards i := by
  by_cases hj : i = j
  · subst hj
    by_cases hu : (d.frame i).unsieved
    · exact dropHostFrame_discards hu
    · rwa [dropHostFrame_of_not_unsieved hu]
  · exact Dev.discards_congr ((dropHostFrame_onlyFrame e d j).other i hj) h

theorem foldl_dropHostFrame_queuesKept (e : Env) (l : List Nat) (d : Dev) :
    d.queuesKept (l.foldl (dropHostFrame e) d) :=
  List.foldlRecOn l _ (motive := d.queuesKept) (Dev.queuesKept_refl d)
    fun x hx i _ => Dev.queuesKept_trans hx (dropHostFrame_onlyFrame e x i).kept

/-- A frame that has passed the sieve, or is not the host's, stands. -/
theorem foldl_dropHostFrame_tfind {e : Env} {d : Dev} {i : Nat} (l : List Nat) (h : ¬ (d.frame i).unsieved) :
    tfind (l.foldl (dropHostFrame e) d).frames i = tfind d.frames i := by
  refine List.foldlRecOn l _ (motive := fun d' : Dev => tfind d'.frames i = tfind d.frames i) rfl fun x hx j _ => ?_
  by_cases hj : i = j
  · subst hj
    rw [dropHostFrame_of_not_unsieved (by rwa [Dev.frame_congr hx]), hx]
  · rw [(dropHostFrame_onlyFrame e x j).other i hj, hx]

/-- A frame of the host that has not passed the sieve and is in the list is discarded. -/
theorem foldl_dropHostFrame_discards {e : Env} {d : Dev} {i : Nat} {l : List Nat} (hi : i ∈ l) (h : (d.frame i).unsieved) :
    (l.foldl (dropHostFrame e) d).discards i := by
  induction l generalizing d with
  | nil => exact absurd hi List.not_mem_nil
  | cons j r ih =>
    rw [List.foldl_cons]
    by_cases hj : i = j
    · subst hj
      exact List.foldlRecOn r _ (motive := fun d' : Dev => d'.discards i) (dropHostFrame_discards h)
        fun x hx k _ => dropHostFrame_keeps_discards k hx
    · have hkept := Dev.frame_congr ((dropHostFrame_onlyFrame e d j).other i hj)
      exact ih ((List.mem_cons.mp hi).resolve_left hj) (by rwa [hkept])

/-- Between two devices block b's frames and echoes for the host have gone; those of other blocks stand, and so do the
frames that did not wait in block b. -/
structure Dev.queueGone (b : Nat) (d d' : Dev) : Prop where
  same : d.sameBut ingressParts d'
  hostQ : ∀ m, (d'.blk m).hostQ = if m = b then [] else (d.blk m).hostQ
  echoes : ∀ m, (d'.blk m).echoes = if m = b then [] else (d.blk m).echoes
  other : ∀ i, (∀ x ∈ (d.blk b).hostQ, x.frame ≠ i) → tfind d'.frames i = tfind d.frames i

theorem Dev.queueGone_setBlk (d : Dev) (b : Nat) :
    d.queueGone b (d.setBlk b { d.blk b with hostQ := [], echoes := [] }) where
  same := Dev.sameBut_mono (Dev.same_blks d _) (by decide)
  hostQ m := by rw [Dev.setBlk_blk]; split <;> rfl
  echoes m := by rw [Dev.setBlk_blk]; split <;> rfl
  other _ _ := rfl

/-- A frame that waited there may settle. -/
theorem Dev.queueGone.trans_onlyFrame {b : Nat} {d d' d'' : Dev} {x : HostRx} (h : d.queueGone b d')
    (hx : x ∈ (d.blk b).hostQ) (h' : d'.onlyFrame x.frame d'') : d.queueGone b d'' where
  same := Dev.sameBut_trans h.same h'.same
  hostQ m := (h'.hostQ m).trans (h.hostQ m)
  echoes m := (h'.echoes m).trans (h.echoes m)
  other i hi := (h'.other i (hi x hx).symm).trans (h.other i hi)

theorem dropHostQueue_queueGone (e : Env) (d : Dev) (b : Nat) : d.queueGone b (dropHostQueue e d b) :=
  List.foldlRecOn (d.blk b).hostQ _ (motive := d.queueGone b) (Dev.queueGone_setBlk d b)
    fun d' hd' x hx => hd'.trans_onlyFrame hx (frameSettle_hostRing_onlyFrame e x.frame d')

theorem foldl_dropHostQueue_same (e : Env) (l : List Nat) (d : Dev) :
    d.sameBut ingressParts (l.foldl (dropHostQueue e) d) :=
  Dev.sameBut_foldl _ (fun x b => (dropHostQueue_queueGone e x b).same) l d

/-- The queues of the blocks of the list are empty, and those of other blocks stand. -/
theorem foldl_dropHostQueue_queues (e : Env) (l : List Nat) (d : Dev) (m : Nat) :
    ((l.foldl (dropHostQueue e) d).blk m).hostQ = (if m ∈ l then [] else (d.blk m).hostQ) ∧
      ((l.foldl (dropHostQueue e) d).blk m).echoes = if m ∈ l then [] else (d.blk m).echoes := by
  induction l generalizing d with
  | nil => exact ⟨rfl, rfl⟩
  | cons b r ih =>
    have hb := dropHostQueue_queueGone e d b
    rw [List.foldl_cons, (ih _).1, (ih _).2, hb.hostQ, hb.echoes]
    by_cases hm : m = b <;> simp [hm]

theorem foldl_dropHostQueue_tfind {e : Env} {d : Dev} {i : Nat} (l : List Nat)
    (h : ∀ b, ∀ x ∈ (d.blk b).hostQ, x.frame ≠ i) :
    tfind (l.foldl (dropHostQueue e) d).frames i = tfind d.frames i := by
  induction l generalizing d with
  | nil => rfl
  | cons b r ih =>
    have hb := dropHostQueue_queueGone e d b
    rw [List.foldl_cons, ih, hb.other i (h b)]
    intro m x hx
    rw [hb.hostQ] at hx
    split at hx
    · exact absurd hx List.not_mem_nil
    · exact h m x hx

theorem powerRequest_same (e : Env) (u : Nat) (up : Bool) (d : Dev) : d.sameBut [.pwr] (powerRequest e u up d) := by
  unfold powerRequest
  split
  · exact Dev.sameBut_refl _ d
  · split
    · exact Dev.same_pwr _ _
    · exact Dev.same_pwr _ _

theorem State.sameBut_trans {l : List Part} {s s' s'' : State} (h : s.sameBut l s') (h' : s'.sameBut l s'') :
    s.sameBut l s'' := by
  obtain ⟨henv, hhost, hloft, hhpt, hpend, hdev⟩ := h
  obtain ⟨henv', hhost', hloft', hhpt', hpend', hdev'⟩ := h'
  exact ⟨henv'.trans henv, hhost'.trans hhost, hloft'.trans hloft, hhpt'.trans hhpt, hpend'.trans hpend,
    Dev.sameBut_trans hdev hdev'⟩

theorem State.sameBut_refl (l : List Part) (s : State) : s.sameBut l s := ⟨rfl, rfl, rfl, rfl, rfl, Dev.sameBut_refl l _⟩

/-- Power-downs that no block's use holds back any more change the governor alone. -/
theorem fltSettle_same (s : State) : s.sameBut [.pwr] (fltSettle s) := by
  unfold fltSettle
  split
  · exact State.sameBut_refl _ s
  · refine List.foldlRecOn _ _ (State.sameBut_refl _ s) fun x hx c _ => State.sameBut_trans hx ?_
    split
    · refine State.sameBut_with_dev (Dev.sameBut_trans ?_ (powerRequest_same _ _ _ _))
      exact Dev.same_pwr x.dev _
    · exact State.sameBut_refl _ x

/-- The device once the host's frames, and what waits for the host, have gone. -/
def hostCleared (e : Env) (d : Dev) : Dev :=
  (d.blks.map (·.1)).foldl (dropHostQueue e) ((d.frames.map (·.1)).foldl (dropHostFrame e) d)

theorem pf1Reset_eq (s : State) :
    pf1Reset s = fltSettle { s with hpt := [], dev := { hostCleared s.env s.dev with rings := [] } } := rfl

theorem hostCleared_same (e : Env) (d : Dev) : d.sameBut ingressParts (hostCleared e d) :=
  Dev.sameBut_trans (foldl_dropHostFrame_queuesKept e _ d).same (foldl_dropHostQueue_same _ _ _)

/-- Nothing waits for the host: a block that is not listed never had anything. -/
theorem hostCleared_queues (e : Env) (d : Dev) (b : Nat) :
    ((hostCleared e d).blk b).hostQ = [] ∧ ((hostCleared e d).blk b).echoes = [] := by
  obtain ⟨hq, hech⟩ := foldl_dropHostQueue_queues e (d.blks.map (·.1)) ((d.frames.map (·.1)).foldl (dropHostFrame e) d) b
  have hkept := foldl_dropHostFrame_queuesKept e (d.frames.map (·.1)) d
  rw [hostCleared, hq, hech, hkept.hostQ, hkept.echoes]
  by_cases hb : b ∈ d.blks.map (·.1)
  · rw [if_pos hb, if_pos hb]
    exact ⟨rfl, rfl⟩
  · have hnone : d.blk b = {} := tget_of_not_mem_keys _ hb
    rw [if_neg hb, if_neg hb, hnone]
    exact ⟨rfl, rfl⟩

/-- A frame that did not wait for the host is left to the first of the two passes. -/
theorem hostCleared_tfind {e : Env} {d : Dev} {i : Nat} (h : ∀ b, ∀ x ∈ (d.blk b).hostQ, x.frame ≠ i) :
    tfind (hostCleared e d).frames i = tfind ((d.frames.map (·.1)).foldl (dropHostFrame e) d).frames i :=
  foldl_dropHostQueue_tfind _ fun b x hx => h b x (by rwa [(foldl_dropHostFrame_queuesKept e _ d).hostQ] at hx)

theorem hostCleared_discards {e : Env} {d : Dev} {i : Nat} (hnot : ∀ b, ∀ x ∈ (d.blk b).hostQ, x.frame ≠ i)
    (hthere : thas d.frames i = true) (h : (d.frame i).unsieved) : (hostCleared e d).discards i :=
  Dev.discards_congr (hostCleared_tfind hnot) (foldl_dropHostFrame_discards ((mem_keys_iff_thas _ _).mpr hthere) h)

theorem hostCleared_frame {e : Env} {d : Dev} {i : Nat} (hnot : ∀ b, ∀ x ∈ (d.blk b).hostQ, x.frame ≠ i)
    (h : ¬ (d.frame i).unsieved) : (hostCleared e d).frame i = d.frame i :=
  Dev.frame_congr ((hostCleared_tfind hnot).trans (foldl_dropHostFrame_tfind _ h))

end Sys2Proof.Machine

/-! SUPPORT. The commands of the host port's rings as the statement has them (R37, R383, R386-R389, R442). -/
namespace Sys2Proof.Machine

/-- HOST_SEND_TAKE of a whole send in its ring's turn: HEAD goes past it, and its slice's turn past its ring. -/
theorem exec_hostSendTake {s : State} {r : Fin 64} {ds : List TxDesc} {data : List Byte} {x : TxDesc}
    (hon : s.env.b 0x1200004 0 = true) (hturn : sendTurn s r = true) (hfirst : ds.head? = some x) (hone : oneSend ds = true)
    (havail : ds.length ≤ ringAvail s r) (hlen : data.length = ds.foldl (fun a y => a + y.len) 0) :
    exec (.hostSendTake r ds data) s = .next (sendTaken s r ds.length x data) :=
  congrArg Host.Outcome.next (sendTakeOp_of_sendTurn hon hturn hfirst hone havail hlen)

/-- A frame delivered: its buffers and completions written, HEAD past them, and the frame off its slice. -/
theorem exec_hostReceiveDeliver_frame {s : State} {b : Fin 16} {bufs used : List RxBuf} {x : HostRx} {rest : List HostRx}
    (hq : (s.dev.blk b).hostQ = x :: rest) (hdone : (s.dev.frame x.frame).rxDone = true)
    (hgood : (s.dev.frame x.frame).bad = false)
    (hbufs : bufsFor (max 1 (rxOfFrame x (s.dev.frame x.frame)).bytes.length) (bufs.take (ringAvail s (64 + x.ring))) =
      some used) :
    let y := rxOfFrame x (s.dev.frame x.frame)
    let r := 64 + x.ring
    ∃ t, exec (.hostReceiveDeliver b bufs) s = .next t ∧ (t.dev.blk b).hostQ = rest ∧
      s.headAhead t r used.length
        (rxWrite (ringBase s.hpt r) (ringLen s.hpt r) y used (s.dev.ring r).head y.bytes s.host) ∧
      (t.dev.ring r).err = (s.dev.ring r).err ∧ t.env = s.env ∧
      s.dev.sameBut (egressParts ++ [.frames, .sends, .rings]) t.dev := by
  intro y r
  obtain ⟨s', hdel, hahead, herr, henv, hsame⟩ := deliver_of_bufs (ringErr r) hbufs
  refine ⟨_, congrArg Host.Outcome.next (deliverOp_of_good hq hdone hgood hdel), hostDone_hostQ ..,
    State.headAhead_congr hahead (hostDone_rings ..) rfl, ?err, henv, ?same⟩
  case err => exact (congrArg RingSt.err (Dev.ring_congr (hostDone_rings ..) r)).trans herr
  case same =>
    exact Dev.sameBut_trans (Dev.sameBut_mono hsame (by decide)) (Dev.sameBut_mono (hostDone_same _ _ _ _) (by decide))

/-- A frame that finds too few buffers is dropped whole and counted in its ring's error count. -/
theorem exec_hostReceiveDeliver_few {s : State} {b : Fin 16} {bufs : List RxBuf} {x : HostRx} {rest : List HostRx}
    (hq : (s.dev.blk b).hostQ = x :: rest) (hdone : (s.dev.frame x.frame).rxDone = true)
    (hgood : (s.dev.frame x.frame).bad = false) (hall : ringAvail s (64 + x.ring) ≤ bufs.length)
    (hbufs : bufsFor (max 1 (rxOfFrame x (s.dev.frame x.frame)).bytes.length) (bufs.take (ringAvail s (64 + x.ring))) =
      none) :
    let r := 64 + x.ring
    ∃ t, exec (.hostReceiveDeliver b bufs) s = .next t ∧ (t.dev.blk b).hostQ = rest ∧ t.host = s.host ∧
      (t.dev.ring r).err = ((s.dev.ring r).err + 1) % 2 ^ 32 ∧ (t.dev.ring r).head = (s.dev.ring r).head := by
  intro r
  refine ⟨_, congrArg Host.Outcome.next (deliverOp_of_good hq hdone hgood (deliver_of_few _ hall hbufs)),
    hostDone_hostQ .., rfl, ?_⟩
  rw [Dev.ring_congr (hostDone_rings ..), State.with_dev_dev, ringErr_ring]
  exact ⟨rfl, rfl⟩

/-- An echo delivered. -/
theorem exec_hostReceiveDeliver_echo {s : State} {b : Fin 16} {bufs used : List RxBuf} {x : Echo} {rest : List Echo}
    (hq : (s.dev.blk b).hostQ = []) (he : (s.dev.blk b).echoes = x :: rest)
    (hbufs : bufsFor (max 1 x.bytes.length) (bufs.take (ringAvail s (64 + s.env.f 0xB00D00 5 0))) = some used) :
    let r := 64 + s.env.f 0xB00D00 5 0
    ∃ t, exec (.hostReceiveDeliver b bufs) s = .next t ∧ (t.dev.blk b).echoes = rest ∧
      s.headAhead t r used.length
        (rxWrite (ringBase s.hpt r) (ringLen s.hpt r) (rxOfEcho s.env x) used (s.dev.ring r).head x.bytes s.host) ∧
      t.env = s.env ∧ s.dev.sameBut [.rings, .blks] t.dev := by
  intro r
  obtain ⟨s', hdel, hahead, -, henv, hsame⟩ :=
    deliver_of_bufs (x := rxOfEcho s.env x) (bumpBlk s.env b 85 1 none) hbufs
  refine ⟨_, congrArg Host.Outcome.next (deliverOp_of_echo hq he hdel),
    congrArg BlkSt.echoes (Dev.setBlk_blk_self ..), State.headAhead_congr hahead rfl rfl, henv, ?same⟩
  case same =>
    exact Dev.sameBut_trans (Dev.sameBut_mono hsame (by decide)) (Dev.sameBut_mono (Dev.same_blks _ _) (by decide))

/-- An echo that finds too few buffers is lost and counted in its block (R304). -/
theorem exec_hostReceiveDeliver_echoLost {s : State} {b : Fin 16} {bufs : List RxBuf} {x : Echo} {rest : List Echo}
    (hq : (s.dev.blk b).hostQ = []) (he : (s.dev.blk b).echoes = x :: rest)
    (hall : ringAvail s (64 + s.env.f 0xB00D00 5 0) ≤ bufs.length)
    (hbufs : bufsFor (max 1 x.bytes.length) (bufs.take (ringAvail s (64 + s.env.f 0xB00D00 5 0))) = none) :
    ∃ t, exec (.hostReceiveDeliver b bufs) s = .next t ∧ (t.dev.blk b).echoes = rest ∧ t.host = s.host ∧
      blkCnt t.dev b 85 = (blkCnt s.dev b 85 + 1) % 2 ^ 48 ∧
      (t.dev.ring (64 + s.env.f 0xB00D00 5 0)).err = (s.dev.ring (64 + s.env.f 0xB00D00 5 0)).err := by
  refine ⟨_, congrArg Host.Outcome.next (deliverOp_of_echo hq he (deliver_of_few _ hall hbufs)),
    congrArg BlkSt.echoes (Dev.setBlk_blk_self ..), rfl, bumpBlk_blkCnt .., ?_⟩
  have hrings : (bumpBlk s.env b 85 1 none s.dev).rings = s.dev.rings := bump_same _ _ _ _ _ _ .rings (by decide)
  exact congrArg RingSt.err (Dev.ring_congr hrings _)

/-- PF1_FLR: every ring is as at reset, and what the host port held is gone; every other frame stands. -/
theorem exec_pf1Flr (s : State) : ∃ t, exec .pf1Flr s = .next t ∧ t.hpt = [] ∧ t.dev.rings = [] ∧
    (∀ b, (t.dev.blk b).hostQ = [] ∧ (t.dev.blk b).echoes = []) ∧
    (∀ i, (∀ b, ∀ x ∈ (s.dev.blk b).hostQ, x.frame ≠ i) → thas s.dev.frames i = true →
      ((s.dev.frame i).unsieved → t.dev.discards i) ∧ (¬ (s.dev.frame i).unsieved → t.dev.frame i = s.dev.frame i)) ∧
    t.env = s.env ∧ t.host = s.host ∧ t.loft = s.loft ∧ t.pending = s.pending ∧
    s.dev.sameBut (egressParts ++ [.frames, .sends, .rings, .pwr]) t.dev := by
  obtain ⟨henv, hhost, hloft, hhpt, hpend, hdev⟩ :=
    fltSettle_same { s with hpt := [], dev := { hostCleared s.env s.dev with rings := [] } }
  refine ⟨_, congrArg Host.Outcome.next (pf1Reset_eq s), hhpt, hdev .rings (by decide), fun b => ?queues,
    fun i hnot hthere => ?frames, henv, hhost, hloft, hpend, ?same⟩
  case queues =>
    rw [Dev.blk_congr (hdev .blks (by decide))]
    exact hostCleared_queues s.env s.dev b
  case frames =>
    have hkept := congrArg (tfind · i) (hdev .frames (by decide)).1
    exact ⟨fun h => Dev.discards_congr hkept (hostCleared_discards hnot hthere h),
      fun h => (Dev.frame_congr hkept).trans (hostCleared_frame hnot h)⟩
  case same =>
    refine Dev.sameBut_trans (Dev.sameBut_mono (hostCleared_same s.env s.dev) (by decide)) ?_
    refine Dev.sameBut_trans ?_ (Dev.sameBut_mono hdev (by decide))
    exact Dev.sameBut_mono (Dev.same_rings _ _) (by decide)

/-- Settles O50: HOST_SEND_TAKE, HOST_RECEIVE_DELIVER, RING_VECTOR_TIMER and PF1_FLR, each in the cases of the statement. -/
theorem hostRings : Obligations.HostRings := by
  unfold Obligations.HostRings
  refine ⟨?send, ?notItsTurn, ?frame, ?echo, ?timer, ?flr⟩
  case send =>
    intro s r ds data x hon hturn hfirst hone havail hlen bad l b pool need f
    exact ⟨_, exec_hostSendTake hon hturn hfirst hone havail hlen, sendTaken_headAhead .., sendTaken_of_sendBad s r,
      sendTaken_err_of_not_sendBad s r, sendTaken_waits r, sendTaken_hostRr .., rfl, rfl, rfl, rfl, sendTaken_same _ _ _ _ _⟩
  case notItsTurn =>
    exact fun s r ds data hturn => congrArg Host.Outcome.next (sendTakeOp_of_not_sendTurn ds data hturn)
  case frame =>
    intro s b bufs x rest used hq hdone f y r
    refine ⟨fun hbad => ?bad, fun hgood hbufs => exec_hostReceiveDeliver_frame hq hdone hgood hbufs,
      fun hgood hall hbufs => exec_hostReceiveDeliver_few hq hdone hgood hall hbufs⟩
    case bad =>
      exact ⟨_, congrArg Host.Outcome.next (deliverOp_of_bad hq hdone hbad), hostDone_hostQ .., rfl, hostDone_rings ..,
        Dev.sameBut_mono (hostDone_same _ _ _ _) (by decide)⟩
  case echo =>
    intro s b bufs used x rest hq he y r
    exact ⟨exec_hostReceiveDeliver_echo hq he, exec_hostReceiveDeliver_echoLost hq he⟩
  case timer =>
    intro s v r x hpend hover
    refine ⟨_, congrArg Host.Outcome.next (ringTimerOp_of_due hpend hover), Dev.setRing_ring_self ..,
      fun _ hj => Dev.setRing_ring_ne _ _ hj, State.sameBut_with_dev (Dev.same_setRing _ _ _)⟩
  case flr => exact exec_pf1Flr

end Sys2Proof.Machine

/-! SUPPORT. The step governor: what one request, and a write of the clusters' enables, leave of each unit's requests
(R454, R456-R458); what a grant records (R459); the hottest sensor (R471). -/
namespace Sys2Proof.Machine

/-! ## Requests of one unit (R454, R458) -/

/-- The requests of unit u in the governor's queue. -/
def Dev.reqsOf (d : Dev) (u : Nat) : List PwrReq := d.pwr.queue.filter (fun r => r.unit == u)

theorem Dev.any_unit_eq_decide_reqsOf (d : Dev) (u : Nat) :
    d.pwr.queue.any (fun r => r.unit == u) = decide (d.reqsOf u ≠ []) := by
  rw [Bool.eq_iff_iff, decide_eq_true_iff, List.any_eq_true, Dev.reqsOf, Ne, List.filter_eq_nil_iff]
  simp only [Classical.not_forall, Classical.not_not, exists_prop]

/-- A unit's bound state is told by its own requests, the ramps and the units that are on. -/
theorem unitTarget_congr {d d' : Dev} {u : Nat} (hreqs : d'.reqsOf u = d.reqsOf u) (hramps : d'.pwr.ramps = d.pwr.ramps)
    (hon : d'.pwr.on = d.pwr.on) : unitTarget d' u = unitTarget d u := by
  have hfind : d'.pwr.queue.find? (fun r => r.unit == u) = d.pwr.queue.find? (fun r => r.unit == u) := by
    rw [← List.head?_filter, ← List.head?_filter]
    exact congrArg List.head? hreqs
  unfold unitTarget unitOn
  rw [hfind, hramps, hon]

theorem filter_govInsert_of_not {p : PwrReq → Bool} {r : PwrReq} (l : List PwrReq) (hr : p r = false) :
    (govInsert r l).filter p = l.filter p := by
  induction l with
  | nil => simp [govInsert, hr]
  | cons x l ih =>
    unfold govInsert
    split
    · exact List.filter_cons_of_neg (by simp [hr])
    · simp only [List.filter_cons, ih]

theorem filter_govInsert_of_nil {p : PwrReq → Bool} {r : PwrReq} {l : List PwrReq} (hr : p r = true)
    (hl : l.filter p = []) : (govInsert r l).filter p = [r] := by
  induction l with
  | nil => simp [govInsert, hr]
  | cons x l ih =>
    have hx : ¬ p x = true := List.filter_eq_nil_iff.mp hl x (by simp)
    rw [List.filter_cons_of_neg hx] at hl
    unfold govInsert
    split
    · rw [List.filter_cons_of_pos hr, List.filter_cons_of_neg hx, hl]
    · rw [List.filter_cons_of_neg hx, ih hl]

/-- A request changes the governor's queue alone. -/
theorem powerRequest_eq_with_queue (e : Env) (u : Nat) (up : Bool) (d : Dev) :
    powerRequest e u up d = { d with pwr := { d.pwr with queue := (powerRequest e u up d).pwr.queue } } := by
  unfold powerRequest
  split
  · rfl
  · split <;> rfl

/-- A request touches no other unit's requests. -/
theorem powerRequest_reqsOf_ne (e : Env) {u v : Nat} (up : Bool) (d : Dev) (h : v ≠ u) :
    (powerRequest e u up d).reqsOf v = d.reqsOf v := by
  unfold powerRequest
  split
  · rfl
  · split
    · simp only [Dev.reqsOf, List.filter_filter]
      refine List.filter_congr fun r _ => ?_
      by_cases hv : r.unit = v <;> simp [hv, h]
    · exact filter_govInsert_of_not _ (beq_false_of_ne h.symm)

/-- A request for the state a unit is bound for asks for nothing; another takes the place of no request, or removes the
opposite one. -/
theorem powerRequest_reqsOf_self (e : Env) (u : Nat) (up : Bool) (d : Dev) :
    (powerRequest e u up d).reqsOf u = if unitTarget d u = up then d.reqsOf u
      else if d.reqsOf u = [] then [{ unit := u, up := up, since := e.third }] else [] := by
  simp only [powerRequest, beq_iff_eq, Dev.any_unit_eq_decide_reqsOf, decide_eq_true_iff, ite_not]
  split
  · rfl
  · split
    · next hnil => exact filter_govInsert_of_nil (beq_self_eq_true u) hnil
    · simp [Dev.reqsOf, List.filter_filter]

/-! ## The clusters' enables (R456, R457) -/

/-- The stored power-downs once that of cluster c is taken out. -/
theorem bit_and_not_two_pow {c j : Nat} (p : Nat) (hj : j < 16) :
    bit (p &&& (0xFFFF ^^^ 2 ^ c)) j = (bit p j && decide (j ≠ c)) := by
  have hmask : (0xFFFF).testBit j = true := by
    rw [show 0xFFFF = 2 ^ 16 - 1 from rfl, Nat.testBit_two_pow_sub_one, decide_eq_true hj]
  simp only [bit, Nat.testBit_and, Nat.testBit_xor, hmask, Nat.testBit_two_pow, Bool.true_xor, eq_comm (a := c), decide_not]

theorem bit_or_two_pow (p c j : Nat) : bit (p ||| 2 ^ c) j = (bit p j || decide (j = c)) := by
  simp only [bit, Nat.testBit_or, Nat.testBit_two_pow, eq_comm (a := c)]

theorem bit_and_not_or_two_pow {c j : Nat} (p : Nat) (hj : j < 16) :
    bit (p &&& (0xFFFF ^^^ 2 ^ c) ||| 2 ^ c) j = (bit p j || decide (j = c)) := by
  rw [bit_or_two_pow, bit_and_not_two_pow p hj]
  by_cases h : j = c <;> simp [h]

/-- The device with the stored power-downs replaced. -/
def Dev.setFltPending (d : Dev) (f : Nat) : Dev := { d with pwr := { d.pwr with fltPending := f } }

/-- Between two states only the governor's queue and the stored power-downs differ. -/
def State.onlyRequests (s t : State) : Prop :=
  t = { s with dev := { s.dev with pwr := { s.dev.pwr with queue := t.dev.pwr.queue, fltPending := t.dev.pwr.fltPending } } }

/-- Only requests and stored power-downs differ, and those of cluster c do not. -/
structure State.keepsCluster (c : Nat) (s t : State) : Prop where
  only : s.onlyRequests t
  reqs : t.dev.reqsOf c = s.dev.reqsOf c
  stored : bit t.dev.pwr.fltPending c = bit s.dev.pwr.fltPending c

theorem State.onlyRequests_refl (s : State) : s.onlyRequests s := rfl

theorem State.onlyRequests_trans {s t u : State} (h : s.onlyRequests t) (h' : t.onlyRequests u) : s.onlyRequests u := by
  unfold State.onlyRequests at *
  rw [h', h]

theorem State.keepsCluster_refl (c : Nat) (s : State) : s.keepsCluster c s := ⟨rfl, rfl, rfl⟩

theorem State.keepsCluster_trans {c : Nat} {s t u : State} (h : s.keepsCluster c t) (h' : t.keepsCluster c u) :
    s.keepsCluster c u :=
  ⟨State.onlyRequests_trans h.only h'.only, h'.reqs.trans h.reqs, h'.stored.trans h.stored⟩

/-- Cluster c asks for a change of its power, and a power-down stored for it is taken out. -/
def clusterAsks (c : Nat) (up : Bool) (s : State) : State :=
  { s with dev := powerRequest s.env c up (s.dev.setFltPending (s.dev.pwr.fltPending &&& (0xFFFF ^^^ 2 ^ c))) }

/-- The power-down of cluster c is stored. -/
def clusterStores (c : Nat) (s : State) : State :=
  { s with dev := s.dev.setFltPending (s.dev.pwr.fltPending &&& (0xFFFF ^^^ 2 ^ c) ||| 2 ^ c) }

theorem clusterPower_true (c : Nat) (s : State) : clusterPower c true s = clusterAsks c true s := rfl

theorem clusterPower_false (c : Nat) (s : State) : clusterPower c false s = if !(unitTarget s.dev c) then s
    else if blockInUse s c then clusterStores c s else clusterAsks c false s := rfl

/-- The cases of a cluster's bit landing: a change asked for, a power-down that finds the cluster bound to be down, and one
that its block's use holds back. -/
theorem clusterPower_cases {P : State → Prop} {c : Nat} {want : Bool} {s : State}
    (asks : want = true ∨ blockInUse s c = false → P (clusterAsks c want s))
    (down : want = false → unitTarget s.dev c = false → P s)
    (stores : want = false → blockInUse s c = true → P (clusterStores c s)) : P (clusterPower c want s) := by
  cases want with
  | true => exact clusterPower_true c s ▸ asks (.inl rfl)
  | false =>
    rw [clusterPower_false]
    cases htarget : unitTarget s.dev c with
    | false => exact down rfl htarget
    | true =>
      cases huse : blockInUse s c with
      | false => exact asks (.inr huse)
      | true => exact stores rfl huse

theorem clusterAsks_fltPending (c : Nat) (up : Bool) (s : State) :
    (clusterAsks c up s).dev.pwr.fltPending = s.dev.pwr.fltPending &&& (0xFFFF ^^^ 2 ^ c) :=
  congrArg (·.pwr.fltPending) (powerRequest_eq_with_queue ..)

theorem clusterAsks_onlyRequests (c : Nat) (up : Bool) (s : State) : s.onlyRequests (clusterAsks c up s) := by
  unfold State.onlyRequests
  rw [clusterAsks_fltPending]
  exact congrArg (fun d => { s with dev := d }) (powerRequest_eq_with_queue s.env c up (s.dev.setFltPending _))

theorem clusterAsks_reqsOf_self (c : Nat) (up : Bool) (s : State) :
    (clusterAsks c up s).dev.reqsOf c = if unitTarget s.dev c = up then s.dev.reqsOf c
      else if s.dev.reqsOf c = [] then [{ unit := c, up := up, since := s.env.third }] else [] :=
  powerRequest_reqsOf_self ..

theorem clusterAsks_keepsCluster {c j : Nat} (up : Bool) (s : State) (hj : j < 16) (h : j ≠ c) :
    s.keepsCluster j (clusterAsks c up s) where
  only := clusterAsks_onlyRequests c up s
  reqs := powerRequest_reqsOf_ne _ _ _ h
  stored := by rw [clusterAsks_fltPending, bit_and_not_two_pow _ hj, decide_eq_true h, Bool.and_true]

theorem clusterStores_keepsCluster {c j : Nat} (s : State) (hj : j < 16) (h : j ≠ c) :
    s.keepsCluster j (clusterStores c s) where
  only := rfl
  reqs := rfl
  stored := (bit_and_not_or_two_pow _ hj).trans (by rw [decide_eq_false h, Bool.or_false])

theorem clusterPower_onlyRequests (c : Nat) (want : Bool) (s : State) : s.onlyRequests (clusterPower c want s) :=
  clusterPower_cases (fun _ => clusterAsks_onlyRequests ..) (fun _ _ => rfl) (fun _ _ => rfl)

/-- The bit of one cluster leaves every other cluster's requests and stored power-down. -/
theorem clusterPower_keepsCluster {c j : Nat} (want : Bool) (s : State) (hj : j < 16) (h : j ≠ c) :
    s.keepsCluster j (clusterPower c want s) :=
  clusterPower_cases (fun _ => clusterAsks_keepsCluster _ s hj h) (fun _ _ => State.keepsCluster_refl j s)
    (fun _ _ => clusterStores_keepsCluster s hj h)

/-- What a bit `want` that lands leaves of cluster c, the state before being s. -/
structure State.clusterLanded (s : State) (c : Nat) (want : Bool) (t : State) : Prop where
  bound : unitTarget s.dev c = want → t.dev.reqsOf c = s.dev.reqsOf c
  asks : unitTarget s.dev c ≠ want → want = true ∨ blockInUse s c = false → s.dev.reqsOf c = [] →
    t.dev.reqsOf c = [{ unit := c, up := want, since := s.env.third }]
  recalls : unitTarget s.dev c ≠ want → want = true ∨ blockInUse s c = false → s.dev.reqsOf c ≠ [] → t.dev.reqsOf c = []
  stores : ¬ (want = true ∨ blockInUse s c = false) → unitTarget s.dev c = true →
    t.dev.reqsOf c = s.dev.reqsOf c ∧ bit t.dev.pwr.fltPending c = true
  unstores : want = true → bit t.dev.pwr.fltPending c = false

theorem clusterAsks_clusterLanded {c : Nat} {want : Bool} {s : State} (hc : c < 16)
    (hgo : want = true ∨ blockInUse s c = false) : s.clusterLanded c want (clusterAsks c want s) where
  bound h := by rw [clusterAsks_reqsOf_self, if_pos h]
  asks h _ hnil := by rw [clusterAsks_reqsOf_self, if_neg h, if_pos hnil]
  recalls h _ hnil := by rw [clusterAsks_reqsOf_self, if_neg h, if_neg hnil]
  stores h _ := absurd hgo h
  unstores _ := by rw [clusterAsks_fltPending, bit_and_not_two_pow _ hc]; simp

theorem clusterLanded_of_down {c : Nat} {s : State} (hdown : unitTarget s.dev c = false) : s.clusterLanded c false s where
  bound _ := rfl
  asks h := absurd hdown h
  recalls h := absurd hdown h
  stores _ h := absurd (hdown.symm.trans h) Bool.false_ne_true
  unstores h := absurd h Bool.false_ne_true

theorem clusterStores_clusterLanded {c : Nat} {s : State} (hc : c < 16) (huse : blockInUse s c = true) :
    s.clusterLanded c false (clusterStores c s) :=
  have hstop : ¬ (false = true ∨ blockInUse s c = false) := by rw [huse]; decide
  { bound := fun _ => rfl
    asks := fun _ h => absurd h hstop
    recalls := fun _ h => absurd h hstop
    stores := fun _ _ => ⟨rfl, (bit_and_not_or_two_pow _ hc).trans (by rw [decide_eq_true rfl, Bool.or_true])⟩
    unstores := fun h => absurd h Bool.false_ne_true }

theorem clusterPower_clusterLanded {c : Nat} (want : Bool) (s : State) (hc : c < 16) :
    s.clusterLanded c want (clusterPower c want s) := by
  apply clusterPower_cases
  case asks => exact clusterAsks_clusterLanded hc
  case down =>
    rintro rfl hdown
    exact clusterLanded_of_down hdown
  case stores =>
    rintro rfl huse
    exact clusterStores_clusterLanded hc huse

/-- What lands for a cluster depends on no other cluster's requests, and none that land later change it. -/
theorem State.clusterLanded_congr {c : Nat} {want : Bool} {s s' t t' : State} (h : s.keepsCluster c s')
    (h' : t.keepsCluster c t') (hl : s'.clusterLanded c want t) : s.clusterLanded c want t' := by
  have honly := h.only
  unfold State.onlyRequests at honly
  have htarget : unitTarget s'.dev c = unitTarget s.dev c := unitTarget_congr h.reqs (by rw [honly]) (by rw [honly])
  have huse : blockInUse s' c = blockInUse s c := by rw [honly]; rfl
  have hthird : s'.env.third = s.env.third := by rw [honly]
  obtain ⟨bound, asks, recalls, stores, unstores⟩ := hl
  rw [htarget, h.reqs] at bound
  rw [htarget, huse, h.reqs, hthird] at asks
  rw [htarget, huse, h.reqs] at recalls stores
  exact ⟨fun hb => h'.reqs.trans (bound hb), fun hne hgo hnil => h'.reqs.trans (asks hne hgo hnil),
    fun hne hgo hsome => h'.reqs.trans (recalls hne hgo hsome),
    fun hstop hup => (stores hstop hup).imp h'.reqs.trans h'.stored.trans, fun hup => h'.stored.trans (unstores hup)⟩

theorem clusterPowerLanded_onlyRequests (v : Nat) (s : State) : s.onlyRequests (clusterPowerLanded v s) :=
  List.foldlRecOn _ _ (State.onlyRequests_refl s) fun _ hx _ _ => State.onlyRequests_trans hx (clusterPower_onlyRequests ..)

theorem foldl_clusterPower_keepsCluster {c : Nat} (v : Nat) {l : List Nat} (s : State) (hc : c < 16) (h : c ∉ l) :
    s.keepsCluster c (l.foldl (fun s c => clusterPower c (bit v c) s) s) :=
  List.foldlRecOn _ _ (State.keepsCluster_refl c s) fun _ hx _ hj =>
    State.keepsCluster_trans hx (clusterPower_keepsCluster _ _ hc (ne_of_mem_of_not_mem hj h).symm)

/-- The write lands for each cluster as its bit says: the clusters before it and behind it leave it alone. -/
theorem clusterPowerLanded_clusterLanded {c : Nat} (v : Nat) (s : State) (hc : c < 16) :
    s.clusterLanded c (bit v c) (clusterPowerLanded v s) := by
  obtain ⟨before, behind, hl⟩ := List.append_of_mem (List.mem_range.mpr hc)
  have hnodup : (c :: (before ++ behind)).Nodup := List.perm_middle.nodup_iff.mp (hl ▸ List.nodup_range)
  have hnot := (List.nodup_cons.mp hnodup).1
  rw [List.mem_append, not_or] at hnot
  obtain ⟨hbefore, hbehind⟩ := hnot
  unfold clusterPowerLanded
  rw [hl, List.foldl_append, List.foldl_cons]
  exact State.clusterLanded_congr (foldl_clusterPower_keepsCluster v s hc hbefore)
    (foldl_clusterPower_keepsCluster v _ hc hbehind) (clusterPower_clusterLanded _ _ hc)

/-- PWR_FLT_EN as the register tables hold it. -/
def pwrFltEnKind : RegKind := ⟨.PWR_FLT_EN, 0x1200014, [], 0xffff, 0x0, [], false, .fixed 58, 0x0⟩

/-- PWR_CTL as the register tables hold it. -/
def pwrCtlKind : RegKind := ⟨.PWR_CTL, 0x1200004, [], 0x1, 0x2, [], false, .fixed 58, 0x0⟩

theorem landNow_pwrFltEn {s : State} (v : Nat) (hfree : s.scopeFree 58) : landNow 0x1200014 v s =
    clusterPowerLanded v
      { s with env := s.env.setReg 0x1200014 ((s.env.reg 0x1200014 &&& 0xFFFF0000) ||| (v &&& 0xFFFF)) } :=
  landNow_of_scopeFree (k := pwrFltEnKind) (p := []) v (by decide +kernel) rfl hfree rfl

theorem landNow_pwrCtl_clear {s : State} (hfree : s.scopeFree 58) : landNow 0x1200004 2 s =
    { s with dev := { s.dev with pwr := { s.dev.pwr with deferMax := 0 } } } :=
  landNow_of_scopeFree (k := pwrCtlKind) (p := []) 2 (by decide +kernel) rfl hfree rfl

/-! ## Grants and ramps (R454, R458, R459) -/

/-- The deferral of request r granted now, in ns. -/
def grantDeferral (e : Env) (r : PwrReq) : Nat := min 0xFFFFFFFF ((e.third - r.since) / 3)

/-- The governor once it has granted r, the head of its queue, before `rest`. -/
def grantedPwr (e : Env) (r : PwrReq) (rest : List PwrReq) (p : PwrSt) : PwrSt :=
  { p with
    queue := rest
    ramps := p.ramps ++ [(r.unit, r.up, e.third)]
    on := if r.up then p.on else tset false p.on r.unit false
    deferral := tset 0 p.deferral r.unit (min 0xFFFFFF (grantDeferral e r))
    deferMax := max p.deferMax (grantDeferral e r)
    grants := (p.grants + 1) % 2 ^ 32
    wakeLog := tset 0 (tset 0 p.wakeLog (2 * (p.grants % 16)) (flagAt (!r.up) 31 + r.unit)) (2 * (p.grants % 16) + 1)
      (grantDeferral e r) }

/-- The head of the queue is granted when its rate fits and its unit does not ramp. -/
theorem grantOp_of_fits {e : Env} {d : Dev} {r : PwrReq} {rest : List PwrReq} (hq : d.pwr.queue = r :: rest)
    (hfit : rampRate d + unitRho r.unit ≤ govSlew e) (hidle : ∀ x ∈ d.pwr.ramps, x.1 ≠ r.unit) :
    grantOp e d = if e.f 0x1200010 31 16 * 1000 < grantDeferral e r
      then raiseEv e 140 0 { d with pwr := grantedPwr e r rest d.pwr } else { d with pwr := grantedPwr e r rest d.pwr } := by
  have hany : d.pwr.ramps.any (fun x => x.1 == r.unit) = false := by simpa using hidle
  have hgo : ¬ (govSlew e < rampRate d + unitRho r.unit ∨ d.pwr.ramps.any (fun x => x.1 == r.unit) = true) := by
    simp [hany, hfit]
  unfold grantOp
  rw [hq]
  exact if_neg hgo

theorem raiseEv_pwr (e : Env) (g i : Nat) (d : Dev) : (raiseEv e g i d).pwr = d.pwr :=
  raiseEv_same e g i d .pwr (by decide)

/-- A unit granted its power-down serves no longer; every other grant leaves what serves. -/
theorem tget_grantedPwr_on (e : Env) (r : PwrReq) (rest : List PwrReq) (p : PwrSt) (u : Nat) :
    tget false (grantedPwr e r rest p).on u = if u = r.unit ∧ r.up = false then false else tget false p.on u := by
  cases hup : r.up <;> simp [grantedPwr, hup, tget_tset]

theorem tget_grantedPwr_deferral (e : Env) (r : PwrReq) (rest : List PwrReq) (p : PwrSt) :
    tget 0 (grantedPwr e r rest p).deferral r.unit = min 0xFFFFFF (grantDeferral e r) := tget_tset_self ..

theorem tget_grantedPwr_wakeLog_unit (e : Env) (r : PwrReq) (rest : List PwrReq) (p : PwrSt) :
    tget 0 (grantedPwr e r rest p).wakeLog (2 * (p.grants % 16)) = flagAt (!r.up) 31 + r.unit :=
  (tget_tset_ne _ _ _ _ (by omega)).trans (tget_tset_self ..)

theorem tget_grantedPwr_wakeLog_deferral (e : Env) (r : PwrReq) (rest : List PwrReq) (p : PwrSt) :
    tget 0 (grantedPwr e r rest p).wakeLog (2 * (p.grants % 16) + 1) = grantDeferral e r := tget_tset_self ..

/-- A grant leaves the governor as granted, and raises its event once when the deferral is past the limit. -/
theorem grantOp_spec {e : Env} {d : Dev} {r : PwrReq} {rest : List PwrReq} (hq : d.pwr.queue = r :: rest)
    (hfit : rampRate d + unitRho r.unit ≤ govSlew e) (hidle : ∀ x ∈ d.pwr.ramps, x.1 ≠ r.unit) :
    (grantOp e d).pwr = grantedPwr e r rest d.pwr ∧
      (grantOp e d).evCnt 140 0 = d.evCnt 140 0 + (if e.f 0x1200010 31 16 * 1000 < grantDeferral e r then 1 else 0) ∧
      d.sameBut [.pwr, .evt, .pmu] (grantOp e d) := by
  have hsame : d.sameBut [.pwr, .evt, .pmu] { d with pwr := grantedPwr e r rest d.pwr } :=
    Dev.sameBut_mono (Dev.same_pwr _ _) (by decide)
  rw [grantOp_of_fits hq hfit hidle]
  split
  · exact ⟨raiseEv_pwr .., raiseEv_evCnt .., Dev.sameBut_trans hsame (Dev.sameBut_mono (raiseEv_same _ _ _ _) (by decide))⟩
  · exact ⟨rfl, (BitVec.add_zero _).symm, hsame⟩

/-- A ramp that has lasted its time ends, and its unit is as the ramp leaves it. -/
theorem rampEndOp_of_over {e : Env} {u at_ : Nat} {up : Bool} {d : Dev}
    (hfind : d.pwr.ramps.find? (fun r => r.1 == u) = some (u, up, at_)) (hover : at_ + unitRamp u ≤ e.third) :
    rampEndOp e u d = { d with pwr := { d.pwr with
      ramps := d.pwr.ramps.filter (fun x => x.1 != u), on := tset false d.pwr.on u up } } := by
  unfold rampEndOp
  rw [hfind]
  exact if_neg (Nat.not_lt.mpr hover)

/-! ## Temperature (R471) -/

/-- The hottest of the sensors' readings. -/
def hottest (a : Int) (l : List Int) : Int := l.foldl max a

theorem hottest_greatest (a : Int) (l : List Int) : hottest a l ∈ a :: l ∧ ∀ x ∈ a :: l, x ≤ hottest a l :=
  List.max?_eq_some_iff.mp List.max?_cons'

theorem Dev.same_pwr_twin (d : Dev) (x : PwrSt) (y : TwinSt) : d.sameBut [.pwr, .twin] { d with pwr := x, twin := y } :=
  Dev.sameBut_trans (d' := { d with pwr := x }) (Dev.sameBut_mono (Dev.same_pwr _ _) (by decide))
    (Dev.sameBut_mono (Dev.same_twin _ _) (by decide))

theorem tempOp_of_trip {a : Int} {l : List Int} (d : Dev) (h : 960 ≤ hottest a l) : tempOp (a :: l) d =
    { d with
      pwr := { d.pwr with temp := w32 (2 ^ 31 + ofSigned 11 (hottest a l)), tripped := true }
      twin := { d.twin with fenceOut := false } } := if_pos h

theorem tempOp_of_lt_trip {a : Int} {l : List Int} (d : Dev) (h : hottest a l < 960) : tempOp (a :: l) d =
    { d with pwr := { d.pwr with temp := w32 (2 ^ 31 + ofSigned 11 (hottest a l)) } } := if_neg (Int.not_le.mpr h)

/-! ## The obligation -/

/-- CLUSTER_POWER_WRITE stores the register and lands for every cluster. -/
theorem exec_clusterPowerWrite {s : State} (v : Word) (hfree : s.scopeFree 58) : ∃ t, exec (.clusterPowerWrite v) s = .next t ∧
    (∀ c, c < 16 → s.clusterLanded c (bit v.toNat c) t) ∧
    t.dev.pwr = { s.dev.pwr with queue := t.dev.pwr.queue, fltPending := t.dev.pwr.fltPending } ∧
    s.wrote 0x1200014 ((s.env.reg 0x1200014 &&& 0xFFFF0000) ||| (v.toNat &&& 0xFFFF)) [.pwr] t := by
  refine ⟨_, congrArg Host.Outcome.next (landNow_pwrFltEn v.toNat hfree), ?landed, ?pwr, ?wrote⟩
  case landed =>
    intro c hc
    obtain ⟨bound, asks, recalls, stores, unstores⟩ := clusterPowerLanded_clusterLanded v.toNat _ hc
    exact ⟨bound, asks, recalls, stores, unstores⟩
  case pwr => exact congrArg (·.dev.pwr) (clusterPowerLanded_onlyRequests v.toNat _)
  case wrote =>
    have honly := clusterPowerLanded_onlyRequests v.toNat
      { s with env := s.env.setReg 0x1200014 ((s.env.reg 0x1200014 &&& 0xFFFF0000) ||| (v.toNat &&& 0xFFFF)) }
    unfold State.onlyRequests at honly
    rw [honly]
    exact ⟨rfl, rfl, rfl, rfl, rfl, Dev.same_pwr _ _⟩

/-- TEMP_SENSOR_READ keeps the hottest sensor; from 120 degrees on the device trips and pulls the fence output low. -/
theorem exec_tempSensorRead (s : State) (a : Int) (l : List Int) : ∃ t, exec (.tempSensorRead (a :: l)) s = .next t ∧
    ∃ hot ∈ a :: l, (∀ x ∈ a :: l, x ≤ hot) ∧ t.dev.pwr.temp = w32 (2 ^ 31 + ofSigned 11 hot) ∧
      (hot < 960 → t.dev.pwr.tripped = s.dev.pwr.tripped ∧ t.dev.twin = s.dev.twin) ∧
      (960 ≤ hot → t.dev.pwr.tripped = true ∧ t.dev.twin = { s.dev.twin with fenceOut := false }) ∧
      t.dev.pwr = { s.dev.pwr with temp := t.dev.pwr.temp, tripped := t.dev.pwr.tripped } ∧ s.sameBut [.pwr, .twin] t := by
  obtain ⟨hmem, hmax⟩ := hottest_greatest a l
  by_cases htrip : 960 ≤ hottest a l
  · exact ⟨_, exec_with_dev rfl (tempOp_of_trip s.dev htrip), _, hmem, hmax, rfl, fun h => absurd htrip (Int.not_le.mpr h),
      fun _ => ⟨rfl, rfl⟩, rfl, State.sameBut_with_dev (Dev.same_pwr_twin _ _ _)⟩
  · exact ⟨_, exec_with_dev rfl (tempOp_of_lt_trip s.dev (Int.not_le.mp htrip)), _, hmem, hmax, rfl, fun _ => ⟨rfl, rfl⟩,
      fun h => absurd h htrip, rfl, State.sameBut_with_dev (Dev.same_pwr_twin _ _ _)⟩

/-- Settles O57: each command of the governor and of the temperature sensors does what the statement says of it. -/
theorem powerGovernor : Obligations.PowerGovernor := by
  unfold Obligations.PowerGovernor
  refine ⟨?clusters, ?grant, ?rampEnd, ?deferMax, ?temp⟩
  case clusters =>
    intro s v hfree
    obtain ⟨t, hexec, hlanded, hpwr, hwrote⟩ := exec_clusterPowerWrite v hfree
    refine ⟨t, hexec, fun c hc => ?_, hpwr, hwrote⟩
    obtain ⟨bound, asks, recalls, stores, unstores⟩ := hlanded c hc
    exact ⟨bound, asks, recalls, stores, unstores⟩
  case grant =>
    intro s r rest hq hfit hidle df i
    obtain ⟨hpwr, hev, hsame⟩ := grantOp_spec hq hfit hidle
    refine ⟨_, rfl, ?_⟩
    simp only [unitOn, hpwr]
    exact ⟨rfl, rfl, tget_grantedPwr_on _ _ _ _, rfl, rfl, tget_grantedPwr_deferral .., tget_grantedPwr_wakeLog_unit ..,
      tget_grantedPwr_wakeLog_deferral .., hev, State.sameBut_with_dev hsame⟩
  case rampEnd =>
    intro s u up at_ hfind hover
    refine ⟨_, exec_with_dev rfl (rampEndOp_of_over hfind hover), ?_⟩
    exact ⟨tget_tset_self .., fun _ hv => tget_tset_ne _ _ _ _ hv, rfl, rfl, State.sameBut_with_dev (Dev.same_pwr _ _)⟩
  case deferMax =>
    intro s hfree
    refine ⟨_, congrArg Host.Outcome.next (landNow_pwrCtl_clear hfree), ?_⟩
    exact ⟨rfl, State.sameBut_with_dev (Dev.same_pwr _ _)⟩
  case temp => exact exec_tempSensorRead

end Sys2Proof.Machine
